-- ==== Sys2Proof/Word.lean ====
section
/-! DEFINITION. The word types: a 32-bit register word and a byte (R90). -/

namespace Sys2Proof

/-- A register word: every register of the block is 32 bits wide (R90). -/
abbrev Word := BitVec 32

/-- A byte of a record, a frame, a buffer or the Cellar. -/
abbrev Byte := BitVec 8

end Sys2Proof
end

