-- ==== Sys2Proof/Syntax.lean ====
section
/-! DEFINITION. The commands of the block: one constructor of `Instr` for each row of spec/opcode_table.json, with its operands. What a command does not carry and the state does not hold, because it is decided outside the block or is a matter of chance in it (which rails are good, which page reads uncorrectable, what a sensor reads), is an operand. -/

namespace Sys2Proof

/-- A byte address of the 1 MiB register space (R90). -/
abbrev RegAddr := Nat

/-- A page number of the register space, 0 to 255 (R90, R91). -/
abbrev Page := Fin 256

/-- Host-port module HP0 to HP23 (R136). -/
abbrev HpId := Fin 24

/-- Wide pair HP2n and HP2n+1 (R150). -/
abbrev WideId := Fin 12

/-- Optical port OP0 to OP15. -/
abbrev OpId := Fin 16

/-- Queue of the transit engine (R277). -/
abbrev QueueId := Fin 64

/-- Tile of the transit engine (R265). -/
abbrev TileId := Fin 32

/-- Sensor S0 to S95 (R342). -/
abbrev SensorId := Fin 96

/-- Arbitration point: 0 the intake, 1 + n the transmitter of OPn (R248, Table QOS-1). -/
abbrev PointId := Fin 17

/-- Fabric partition P0 to P24 (R110). -/
abbrev PartId := Fin 25

/-- Comb input: COMB0 to COMB3, and COMBS as 4 (R164). -/
abbrev CombId := Fin 5

/-- Quad of four optical ports. -/
abbrev QuadId := Fin 4

/-- The three access paths to the registers (R99, R100). -/
inductive Path where
  | sideband | msp | hatch
  deriving DecidableEq, Repr

/-- The five monitored rails other than VAUX (Table PKG-3, KEEP_REC.RAIL_ID). -/
inductive Rail where
  | vcore | vio | vpic | vhtr | vcel
  deriving DecidableEq, Repr

/-- Which of the five rail monitors report good, VCORE as bit 0 to VCEL as bit 4. -/
abbrev RailMask := BitVec 5

/-- The domain PLLs whose loss is a block error (Table CLK-2). -/
inductive DomainPll where
  | core | te | tune | cell
  deriving DecidableEq, Repr

/-- The slow pins that can storm (Table PKG-7). -/
inductive SlowPin where
  | pwrEn | wakeN | faultInN
  deriving DecidableEq, Repr

/-- The straps sampled at S2 (Table PKG-6). -/
structure Straps where
  legacyBrn  : Bool
  bootSrc    : Fin 4
  chainFirst : Bool
  twinRole   : Bool
  deriving DecidableEq, Repr

/-- The watermarks of Isax (R97); `tegQ` is that of the queue TEG_Q_SEL names. -/
inductive Watermark where
  | cellSpare | cellWear | strmTag | tegQ
  | hostCredit (n : HpId)
  | pantry (n : OpId)
  deriving DecidableEq, Repr

/-- A request on a module's sideband (R101): its width in bits, whether it is a configuration request, and the access. -/
structure SbRequest where
  width  : Nat
  config : Bool
  write  : Bool
  addr   : RegAddr
  data   : Word
  deriving DecidableEq, Repr

/-- A transaction of the MSP (R102). `cut` is the number of data bits moved before MSP_CS_N rose, where it rose before the status was out. -/
structure MspFrame where
  cmd  : Byte
  addr : BitVec 24
  data : Word
  cut  : Option Nat
  deriving DecidableEq, Repr

/-- What the Cellar meets while a command uses it: whether a mount that the command makes fails (R299), whether the metadata cannot be written (the boot record, a directory), the logical pages that read uncorrectable (R302), the pages with an open intent found torn at mount, and those found to hold whole old data (R300, R301), the pages that fail their verify twice, and the corrected bits that the worst codeword of a page shows at verify (R303), the codewords corrected on the way (R302), the number of page programs after which the write window closes, where it closes during the command (R311), and whether what follows cuts a Cellar write off within its page program (R300). -/
structure CellEnv where
  mountFails : Bool := false
  bootFails  : Bool := false
  ue         : List Nat := []
  torn       : List Nat := []
  old        : List Nat := []
  retire     : List Nat := []
  verify     : List (Nat × Nat) := []
  corrected  : Nat := 0
  winCloses  : Option Nat := none
  cut        : Bool := false
  deriving DecidableEq, Repr

/-- A ring: its port, its bank (`rx` false for the transmit bank) and its place 0 to 35 in the bank. -/
structure RingId where
  port : OpId
  rx   : Bool
  idx  : Fin 36
  deriving DecidableEq, Repr

/-- A record of a personality stream as it arrives (Table CFG-2): its header fields, body, tag and CRC; `ue` says that the Loft page it comes from reads uncorrectable (Table CELL-3). -/
structure Record where
  magic   : Nat
  rtype   : Nat
  flags   : Nat
  bodyLen : Nat
  frame   : Nat
  target  : Nat
  body    : List Byte
  tag     : List Byte
  crc     : Word
  ue      : Bool
  deriving DecidableEq, Repr

/-- The items of UCIe that Table HP-1 names. -/
inductive UcieFeature where
  | rate4 | rate12 | speedDegrade | widthDegrade | laneRepair | sideband | rawFormat | streaming | flitFormat | adapterCrc | adapterRetry
  | pcie | cxl | standardPackage | retimer | l1 | l2
  deriving DecidableEq, Repr

/-- What the partner of a host-port module offers in training (R136, R139): the rates it advertises in GT/s, those at which the main band fails to train, and the features it asks for in parameter exchange. -/
structure PartnerCaps where
  rates : List Nat
  fails : List Nat := []
  asks  : List UcieFeature := []
  deriving DecidableEq, Repr

/-- Why a host-port training attempt ended (Table HP-5), by its code. -/
abbrev HpCause := Fin 8

/-- The direction of a lane of a host-port module (R145). -/
inductive Dir where
  | tx | rx
  deriving DecidableEq, Repr

/-- A module's answer to an ECS_CTL transaction (R168): what the line gave in the response phase, with its CRC byte. -/
structure EcsResponse where
  status : Byte
  rdata  : BitVec 16
  crc    : Byte
  deriving DecidableEq, Repr

/-- What the bring-up of one comb module meets (R167): the module's answers to Isax's transactions in order, where the time of a step runs out when they end, and the power at the input monitor once it lases. -/
structure ModuleUp where
  answers : List EcsResponse := []
  power   : Nat := 0
  deriving DecidableEq, Repr

/-- A peak of a ring sweep (R177): its centroid code, and whether its pilot amplitude exceeds eight times the noise. -/
structure Peak where
  code  : Nat
  pilot : Bool
  deriving DecidableEq, Repr

/-- A marker block's 16 bits as a line gives them at T3, and when they come, in UI (R204). -/
structure LaneMarker where
  line : Fin 36
  bits : BitVec 16
  ui   : Nat
  deriving DecidableEq, Repr

/-- A detector that can storm (R193). -/
inductive Detector where
  | line (n : OpId) (rx : Bool) (k : Fin 36)
  | comb (i : CombId)
  deriving DecidableEq, Repr

/-- The payload of TRAIN_ID (Table LINK-6). -/
structure TrainId where
  node   : Nat
  domain : Nat
  role   : Nat
  port   : Nat
  nrz    : Bool
  far    : Bool
  caps   : Nat
  deriving DecidableEq, Repr

/-- A frame of an optical link (R197, Table LINK-3), with the CRC it bears on the line; `cut` says that the rest of the frame never came (R200). -/
structure Frame where
  ftype   : Nat
  tc      : Nat
  rl      : Nat
  hop     : Nat
  dst     : Nat
  src     : Nat
  dsid    : Nat
  seq     : Nat
  rpl     : Bool
  ackV    : Bool
  ackSid  : Nat
  ackSeq  : Nat
  payload : List Byte
  crc     : Word := 0
  cut     : Bool := false
  deriving DecidableEq, Repr

/-- An open request of the personality (R222); `sid` none is ANY. -/
structure OpenReq where
  recv     : Bool
  sid      : Option Nat
  peerNode : Nat
  peerSid  : Nat
  tc       : Nat
  sel      : Bool
  brynn    : Bool
  deriving DecidableEq, Repr

/-- An acknowledgement as it arrives (Table LINK-4): record valid, range count, SID, cumulative point and ranges (start offset and length). -/
structure AckRecord where
  v      : Bool
  nr     : Nat
  sid    : Nat
  cum    : Nat
  ranges : List (Nat × Nat)
  deriving DecidableEq, Repr

/-- Whose replay timer expires (R232, R239): a stream, or the outgoing channel to a node. -/
inductive ReplayKey where
  | stream (sid : Nat)
  | channel (node : Nat)
  deriving DecidableEq, Repr

/-- The operation of a remote transaction (Table STRM-3). -/
inductive TxnOp where
  | read | write | atomic
  deriving DecidableEq, Repr

/-- A remote transaction a host issues (R157, R241): the target node, the operation and sub-operation, the 48-bit address, the blocks a READ wants, and the data (WRITE data or ATOMIC operands). -/
structure Txn where
  node   : Nat
  op     : TxnOp
  opx    : Nat
  addr   : Nat
  blocks : Nat
  data   : List Byte
  deriving DecidableEq, Repr

/-- The completion the target's personality returns (R241): the requesting node and tag, the operation, the status and the data. -/
structure TargetCpl where
  node   : Nat
  tag    : Nat
  op     : TxnOp
  status : Nat
  data   : List Byte
  deriving DecidableEq, Repr

/-- Which binding register of the selected queue is written (R267). -/
inductive Binding where
  | dsid | feed0 | feed1
  deriving DecidableEq, Repr

/-- Why a tile fails (R289), as the ERR bit of its TT page. -/
inductive TileFault where
  | calFail | adcFault | htrFault
  deriving DecidableEq, Repr

/-- A HELLO record (Table TWIN-1). -/
structure Hello where
  node      : Nat
  domain    : Nat
  nodeValid : Bool
  strap     : Bool
  traffic   : Bool
  enabled   : Bool
  deriving DecidableEq, Repr

/-- A CTX record: the whole context of a SID (R323). -/
structure CtxRec where
  sid      : Nat
  state    : Nat
  recv     : Bool
  sel      : Bool
  tc       : Nat
  gen      : Nat
  cause    : Bool
  peerNode : Nat
  peerSid  : Nat
  seq      : Nat
  deriving DecidableEq, Repr

/-- A ROUTE record: an entry of a bank, or a bank swap (R322). -/
inductive RouteRec where
  | entry (bank : Bool) (idx : Nat) (data : Word)
  | swap (active : Bool)
  deriving DecidableEq, Repr

/-- How a fatal dump ends (R371). -/
inductive DumpResult where
  | whole | windowClosed | cellErr | aborted | truncated
  deriving DecidableEq, Repr

/-- The commands of the block, one constructor for each row of spec/opcode_table.json, in the table's order; each docstring names the row and its first rule. -/
inductive Instr where
  /-- VAUX_POWER_GOOD (R51). -/
  | vauxPowerGood
  /-- VAUX_LOST (R51). -/
  | vauxLost (vbatHolds : Bool)
  /-- VBAT_ZEROISE (R387). -/
  | vbatZeroise
  /-- RAIL_LOST (R53). -/
  | railLost (r : Rail)
  /-- REFCLK_ABSENT (R72). -/
  | refclkAbsent
  /-- MGMT_PLL_LOST (R72). -/
  | mgmtPllLost
  /-- DOMAIN_PLL_LOSS (R71). -/
  | domainPllLoss (d : DomainPll)
  /-- FAB_PLL_LOSS (R71). -/
  | fabPllLoss
  /-- FAB_PLL_LOCK (R73). -/
  | fabPllLock
  /-- CLK_FAB_WRITE (R73). -/
  | clkFabWrite (p : Path) (v : Word)
  /-- PWR_EN_RISE (R76). -/
  | pwrEnRise
  /-- PWR_EN_FALL (R76). -/
  | pwrEnFall
  /-- WAKE_N_FALL (R76). -/
  | wakeNFall
  /-- FAULT_IN_N_FALL (R359). -/
  | faultInNFall
  /-- RESET_N_FALL (R87). -/
  | resetNFall
  /-- RESET_N_RISE (R87). -/
  | resetNRise
  /-- RESET_CELLAR_HOLD (R87). -/
  | resetCellarHold
  /-- HATCH_RESET (R87). -/
  | hatchReset
  /-- PIN_STORM (R66). -/
  | pinStorm (pin : SlowPin)
  /-- STORM_WINDOW (R66). -/
  | stormWindow
  /-- STORM_UNMASK (R67). -/
  | stormUnmask (p : Path) (v : Word)
  /-- PWR_CMD_ON (R76). -/
  | pwrCmdOn (p : Path)
  /-- PWR_CMD_OFF (R85). -/
  | pwrCmdOff (p : Path)
  /-- PWR_CMD_OFF_STAY (R84). -/
  | pwrCmdOffStay (p : Path)
  /-- PWR_CMD_RESET (R87). -/
  | pwrCmdReset (p : Path)
  /-- TARGET_CHANGE (R77). -/
  | targetChange (p : Path) (v : Word)
  /-- KEEP_REC_CLEAR (R79). -/
  | keepRecClear (p : Path) (v : Word)
  /-- S1_RAILS (R52). -/
  | s1Rails (straps : Straps)
  /-- RAIL_MISSING (R52). -/
  | railMissing (good : RailMask)
  /-- S3_MGMT_ON (R80). -/
  | s3MgmtOn
  /-- S4_FUSE (R80). -/
  | s4Fuse
  /-- S5_HK_BOOT (R105). -/
  | s5HkBoot
  /-- S6_DOMAINS_ON (R80). -/
  | s6DomainsOn
  /-- S7_CELLAR (R299). -/
  | s7Cellar (env : CellEnv)
  /-- S8_FIRMWARE (R401). -/
  | s8Firmware (env : CellEnv)
  /-- S9_KEY (R118). -/
  | s9Key
  /-- NODE_ID_WAIT_END (R78). -/
  | nodeIdWaitEnd
  /-- S11_COMB (R167); `mapUe` names the pages of the ring map that read uncorrectable when S12 starts (Table CELL-3). -/
  | s11Comb (mods : List ModuleUp) (mapUe : List Nat)
  /-- S12_RINGS (R81). -/
  | s12Rings (unlocked : List RingId)
  /-- S13_TRAIN (R80). -/
  | s13Train
  /-- S14_GATES (R80). -/
  | s14Gates
  /-- POWER_UP_STEP_TIMEOUT (R80). -/
  | powerUpStepTimeout (refclkMissing : Bool)
  /-- ABORT_POINT (R82). -/
  | abortPoint
  /-- UNDO_DONE (R82). -/
  | undoDone
  /-- P2_LIGHT_OFF (R85). -/
  | p2LightOff
  /-- P3_MAP_SAVE (R86). -/
  | p3MapSave (env : CellEnv)
  /-- P4_CELLAR (R312). -/
  | p4Cellar
  /-- P5_DOMAINS_OFF (R85). -/
  | p5DomainsOff
  /-- P6_MGMT_OFF (R84). -/
  | p6MgmtOff
  /-- ALIVE_TOGGLE (R364). -/
  | aliveToggle
  /-- FAULT_ALIVE_KICK (R364). -/
  | faultAliveKick (src : Option Path)
  /-- HK_WDOG (R364). -/
  | hkWdog
  /-- FAULT_N_PULSE_END (R363). -/
  | faultNPulseEnd
  /-- REGISTER_WRITE (R92). -/
  | registerWrite (p : Path) (a : RegAddr) (v : Word)
  /-- CTL_LOCK (R94). -/
  | ctlLock (p : Path) (page : Page)
  /-- WATERMARK_THRESHOLD_WRITE (R98). -/
  | watermarkThresholdWrite (p : Path) (w : Watermark) (v : Word)
  /-- REG_PARITY (R99). -/
  | regParity (a : RegAddr) (rd : Option Path)
  /-- SIDEBAND_REGISTER_ACCESS (R101). -/
  | sidebandRegisterAccess (n : HpId) (outstanding : Nat) (req : SbRequest)
  /-- MSP_TRANSACTION (R102). -/
  | mspTransaction (t : MspFrame)
  /-- REGACC (R104). -/
  | regacc (write : Bool) (addr : RegAddr) (wdata : Word)
  /-- IDCODE (R103). -/
  | idcode
  /-- BYPASS (R103). -/
  | bypass (opcode : Byte)
  /-- EXTEST (R103). -/
  | extest (drive : List Bool)
  /-- SAMPLE_PRELOAD (R103). -/
  | samplePreload (preload : Option (List Bool))
  /-- CFGLOAD_PUSH (R123). -/
  | cfgloadPush (push : Bool) (w : Word)
  /-- MBOX_CLAIM (R106). -/
  | mboxClaim (p : Path)
  /-- MBOX_RELEASE (R106). -/
  | mboxRelease (p : Path)
  /-- PING (R108). -/
  | ping (p : Path)
  /-- FW_INFO (R108). -/
  | fwInfo (p : Path)
  /-- FW_RELOAD (R401). -/
  | fwReload (p : Path) (env : CellEnv)
  /-- LOFT_WRITE (R295). -/
  | loftWrite (p : Path) (env : CellEnv)
  /-- LOFT_COMMIT (R295). -/
  | loftCommit (p : Path) (env : CellEnv)
  /-- PERS_LOAD (R121). -/
  | persLoad (p : Path)
  /-- RING_SEARCH (R180). -/
  | ringSearch (p : Path)
  /-- MAP_SAVE (R296). -/
  | mapSave (p : Path) (env : CellEnv)
  /-- LINE_SWAP (R189). -/
  | lineSwap (p : Path)
  /-- COMB_SWITCH_ONTO_COMBS (R173). -/
  | combSwitchOntoCombs (p : Path) (up : ModuleUp)
  /-- COMB_SWITCH_BACK (R174). -/
  | combSwitchBack (p : Path) (up : ModuleUp)
  /-- CAL_NOW (R288). -/
  | calNow (p : Path)
  /-- TWIN_CTL_ENABLE (R318). -/
  | twinCtlEnable (p : Path)
  /-- TWIN_CTL_DISABLE (R341). -/
  | twinCtlDisable (p : Path)
  /-- TWIN_CTL_HAND_OVER (R340). -/
  | twinCtlHandOver (p : Path)
  /-- DUMP_NOW (R371). -/
  | dumpNow (p : Path) (env : CellEnv)
  /-- ATTIC_READ (R297). -/
  | atticRead (p : Path) (env : CellEnv)
  /-- ATTIC_FREE (R297). -/
  | atticFree (p : Path)
  /-- FTIME_SET (R219). -/
  | ftimeSet (p : Path)
  /-- CKPT_SAVE (R316). -/
  | ckptSave (p : Path) (env : CellEnv)
  /-- CKPT_RESTORE (R317). -/
  | ckptRestore (p : Path) (env : CellEnv)
  /-- BAD_OPCODE (R105). -/
  | badOpcode (p : Path) (op : Byte)
  /-- MBOX_COMMAND_END (R107). -/
  | mboxCommandEnd
  /-- MBOX_TIMEOUT (R107). -/
  | mboxTimeout
  /-- MBOX_ABORT (R107). -/
  | mboxAbort (p : Path)
  /-- STREAM_HDR (R403). -/
  | streamHdr (r : Record)
  /-- KEY_ROLL (R116). -/
  | keyRoll (r : Record)
  /-- CFG_FRAME (R114). -/
  | cfgFrame (r : Record)
  /-- SEG (R125). -/
  | seg (r : Record)
  /-- RELEASE (R129). -/
  | release (r : Record) (env : CellEnv)
  /-- END (R125). -/
  | endRecord (r : Record)
  /-- START_MARKER (R125). -/
  | startMarker
  /-- LOAD_TIMEOUT (R131). -/
  | loadTimeout
  /-- CHAIN_FORWARD_START (R126). -/
  | chainForwardStart
  /-- CLK_STALL (R126). -/
  | clkStall
  /-- PROG (R119). -/
  | prog (p : Path)
  /-- ZERO (R119). -/
  | zero (p : Path)
  /-- SCRUB_FRAME (R133). -/
  | scrubFrame (readback : List Byte) (rereadUe goldUe : Bool)
  /-- HOST_PLL_LOSS (R140). -/
  | hostPllLoss (n : HpId)
  /-- HOST_PLL_LOCK (R140). -/
  | hostPllLock (n : HpId)
  /-- TRAINED (R141). -/
  | trained (n : HpId) (partner : PartnerCaps)
  /-- TRAIN_FAIL (R144). -/
  | trainFail (n : HpId) (cause : HpCause)
  /-- REPAIR (R145). -/
  | repair (n : HpId) (dir : Dir) (lane : Nat) (covered : Bool)
  /-- CR_INIT_ACK (R153). -/
  | crInitAck (n : HpId) (payload : Word)
  /-- X40_CAP (R139). -/
  | x40Cap (n : HpId)
  /-- HEAT_HINT (R148). -/
  | heatHint (n : HpId) (payload : Word)
  /-- HINT_DUE (R149). -/
  | hintDue (n : HpId)
  /-- UNKNOWN_VENDOR_MESSAGE (R146). -/
  | unknownVendorMessage (n : HpId)
  /-- L1_REQUEST (R142). -/
  | l1Request (n : HpId)
  /-- L1_ENTRY (R142). -/
  | l1Entry (n : HpId)
  /-- L1_EXIT (R142). -/
  | l1Exit (n : HpId)
  /-- L2_REQUEST (R136). -/
  | l2Request (n : HpId)
  /-- HP_CFG_EN (R143). -/
  | hpCfgEn (p : Path) (n : HpId) (v : Word)
  /-- HP_LB_MODE (R162). -/
  | hpLbMode (p : Path) (n : HpId) (v : Word)
  /-- HP_WIDE_RATE (R150). -/
  | hpWideRate (p : Path) (n : HpId) (v : Word)
  /-- WIDE_DESKEW (R151). -/
  | wideDeskew (k : WideId) (failing : List Nat)
  /-- WIDE_PATTERN_END (R152). -/
  | widePatternEnd (k : WideId)
  /-- WIDE_TRAIN_TIMEOUT (R152). -/
  | wideTrainTimeout (k : WideId)
  /-- HOST_INGRESS_TRANSFER (R155). -/
  | hostIngressTransfer (n : HpId) (xfer : Nat) (beats : List Byte) (complete : Bool)
  /-- HOST_CREDIT_RETURN (R155). -/
  | hostCreditReturn (n : HpId) (blocks : Nat)
  /-- HOST_DELIVERY (R155). -/
  | hostDelivery (n : HpId)
  /-- URG_EDGE (R159). -/
  | urgEdge (n : HpId) (level : Bool)
  /-- URG_STUCK (R160). -/
  | urgStuck (n : HpId)
  /-- URG_INACTIVE (R160). -/
  | urgInactive (n : HpId)
  /-- URG_STORM (R161). -/
  | urgStorm (n : HpId)
  /-- URG_UNMASK (R161). -/
  | urgUnmask (p : Path) (n : HpId) (v : Word)
  /-- ECS_TRANSACTION_END (R169). -/
  | ecsTransactionEnd (m : CombId) (resp : EcsResponse)
  /-- ECS_RETRY (R169). -/
  | ecsRetry (m : CombId)
  /-- ECS_REQUEST (R171). -/
  | ecsRequest (p : Path) (v : Word)
  /-- COMB_STATUS_POLL (R171). -/
  | combStatusPoll (m : CombId)
  /-- COMB_LOSS_OF_LIGHT (R173). -/
  | combLossOfLight (i : CombId)
  /-- COMB_FAILED_CLEAR (R169). -/
  | combFailedClear (p : Path) (v : Word)
  /-- LOL_UNMASK (R193). -/
  | lolUnmask (p : Path) (v : Word)
  /-- RING_SWEEP_END (R177). -/
  | ringSweepEnd (q : QuadId) (peaks : List Peak)
  /-- RING_LOCKED (R182). -/
  | ringLocked (r : RingId) (code : Nat)
  /-- RING_UNLOCKED (R182). -/
  | ringUnlocked (r : RingId)
  /-- HTR_RAIL (R182). -/
  | htrRail (r : RingId) (high : Bool)
  /-- RING_LIGHT_LOW (R182). -/
  | ringLightLow (r : RingId)
  /-- RING_LIGHT_RETURN (R182). -/
  | ringLightReturn (r : RingId)
  /-- RING_RELOCK_SCAN (R182). -/
  | ringRelockScan (r : RingId) (found : Option Nat)
  /-- FF_GAIN_ADAPT (R183). -/
  | ffGainAdapt (n : OpId) (residual : Int)
  /-- SWAP_REQ (R188). -/
  | swapReq (n : OpId) (id lane line : Nat)
  /-- SPARE_ALIGNED (R188). -/
  | spareAligned (n : OpId) (ok : Bool)
  /-- SWAP_READY (R188). -/
  | swapReady (n : OpId) (id : Nat)
  /-- SWAP_NAK (R189). -/
  | swapNak (n : OpId) (id cause : Nat)
  /-- SWAP_DONE (R188). -/
  | swapDone (n : OpId) (id : Nat)
  /-- SWAP_CANCEL (R189). -/
  | swapCancel (n : OpId) (id : Nat)
  /-- SWAP_CANCELLED (R189). -/
  | swapCancelled (n : OpId) (id : Nat)
  /-- SWAP_ASK (R187). -/
  | swapAsk (n : OpId) (lane cause : Nat)
  /-- CAL_LINE (R191). -/
  | calLine (n : OpId) (line : Nat) (on : Bool)
  /-- SWAP_MESSAGE_REPEAT (R187). -/
  | swapMessageRepeat (n : OpId)
  /-- SWAP_ANSWER_TIMEOUT (R189). -/
  | swapAnswerTimeout (n : OpId)
  /-- LINE_CAL (R191). -/
  | lineCal (n : OpId)
  /-- LINE_CAL_END (R191). -/
  | lineCalEnd (n : OpId)
  /-- RX_LOSS_OF_SIGNAL (R192). -/
  | rxLossOfSignal (n : OpId) (line : Nat)
  /-- RX_PORT_LOSS_OF_LIGHT (R213). -/
  | rxPortLossOfLight (n : OpId)
  /-- RX_LIGHT_RETURN (R213). -/
  | rxLightReturn (n : OpId)
  /-- LINE_FLAP (R192). -/
  | lineFlap (r : RingId)
  /-- FLAP_WINDOW (R192). -/
  | flapWindow
  /-- DETECTOR_STORM (R193). -/
  | detectorStorm (d : Detector)
  /-- BAD_CLEAR (R192). -/
  | badClear (p : Path) (n : OpId)
  /-- T1_PLL (R209). -/
  | t1Pll (n : OpId)
  /-- T2_SIGNAL (R209). -/
  | t2Signal (n : OpId) (lanes : Word)
  /-- T3_ALIGN (R209). -/
  | t3Align (n : OpId) (markers : List LaneMarker)
  /-- T4_EQ (R209). -/
  | t4Eq (n : OpId)
  /-- TRAINING_TIMEOUT (R209). -/
  | trainingTimeout (n : OpId)
  /-- TRAIN_ID (R210). -/
  | trainId (n : OpId) (id : TrainId)
  /-- TRAIN_ID_REPEAT (R210). -/
  | trainIdRepeat (n : OpId)
  /-- TRAIN_ACK (R208). -/
  | trainAck (n : OpId) (epoch : Nat) (credits : List Nat)
  /-- CREDIT (R208). -/
  | credit (n : OpId) (epoch : Nat) (credits : List Nat)
  /-- CREDIT_RETURN (R208). -/
  | creditReturn (n : OpId)
  /-- LINE_PLL_LOSS (R212). -/
  | linePllLoss (n : OpId)
  /-- LINK_CTL_WRITE (R212). -/
  | linkCtlWrite (p : Path) (n : OpId) (v : Word)
  /-- OP_LB_MODE (R216). -/
  | opLbMode (p : Path) (n : OpId) (v : Word)
  /-- LOOP_REQ (R216). -/
  | loopReq (n : OpId) (enter : Bool)
  /-- LOOP_ACK (R216). -/
  | loopAck (n : OpId) (enter : Bool)
  /-- LOOP_REQ_REPEAT (R216). -/
  | loopReqRepeat (n : OpId)
  /-- IDLE_TO_NAP (R214). -/
  | idleToNap (n : OpId)
  /-- NAP_TO_DOZE (R214). -/
  | napToDoze (n : OpId)
  /-- NAP_REQ (R214). -/
  | napReq (n : OpId)
  /-- NAP_ACK (R214). -/
  | napAck (n : OpId)
  /-- NAP_NAK (R214). -/
  | napNak (n : OpId)
  /-- DOZE_REQ (R214). -/
  | dozeReq (n : OpId)
  /-- DOZE_ACK (R214). -/
  | dozeAck (n : OpId)
  /-- DOZE_NAK (R214). -/
  | dozeNak (n : OpId)
  /-- LPS_ANSWER_TIMEOUT (R214). -/
  | lpsAnswerTimeout (n : OpId)
  /-- PORT_WAKE (R215). -/
  | portWake (n : OpId)
  /-- PORT_WAKE_DONE (R215). -/
  | portWakeDone (n : OpId)
  /-- TIME_EXCHANGE (R219). -/
  | timeExchange
  /-- TIME_REQ (R219). -/
  | timeReq (n : OpId) (dist t1 : Nat)
  /-- TIME_RSP (R219). -/
  | timeRsp (n : OpId) (dist t1 t2 t3 : Nat)
  /-- TIME_NOW_READ (R219). -/
  | timeNowRead (p : Path)
  /-- DOWN (R37). -/
  | down (n : OpId) (node reason : Nat)
  /-- LINK_LOSS_TIMER (R213). -/
  | linkLossTimer (n : OpId)
  /-- CODEWORD_UNCORRECTABLE (R203). -/
  | codewordUncorrectable (n : OpId) (word : List Nat) (frames : List Frame)
  /-- LANE_ERROR_LIMIT (R206). -/
  | laneErrorLimit (n : OpId) (lane symbols : Nat)
  /-- ERROR_WINDOW (R206). -/
  | errorWindow (n : OpId)
  /-- RELAY_FORWARD (R244). -/
  | relayForward (n : OpId) (f : Frame)
  /-- STREAM_OPEN (R222). -/
  | streamOpen (n : HpId) (req : OpenReq)
  /-- STREAM_CLOSE (R224). -/
  | streamClose (n : HpId) (sid : Nat)
  /-- STREAM_SEND (R226). -/
  | streamSend (n : HpId) (sid : Nat) (payload : List Byte)
  /-- FORCED_CLOSE (R224). -/
  | forcedClose (p : Path)
  /-- DATA (R234). -/
  | data (n : OpId) (f : Frame)
  /-- ACK_WINDOW (R230). -/
  | ackWindow
  /-- ACK (R231). -/
  | ack (n : OpId) (f : Frame)
  /-- REPLAY_TIMER (R233). -/
  | replayTimer (k : ReplayKey)
  /-- REPLAY_LIM (R236). -/
  | replayLim (sid : Nat)
  /-- REMOTE_TRANSACTION (R241). -/
  | remoteTransaction (n : HpId) (t : Txn)
  /-- TXN_REQ (R239). -/
  | txnReq (n : OpId) (f : Frame)
  /-- CHANNEL_RESET (R336). -/
  | channelReset (n : OpId) (f : Frame)
  /-- TXN_CPL (R240). -/
  | txnCpl (n : OpId) (f : Frame)
  /-- ROUTE_NODE_WRITE (R23). -/
  | routeNodeWrite (p : Path) (v : Word)
  /-- ROUTE_BANK_SWAP (R33). -/
  | routeBankSwap (p : Path)
  /-- ROUTE_DATA_WRITE (R38). -/
  | routeDataWrite (p : Path) (v : Word)
  /-- PANTRY_UE (R247). -/
  | pantryUe (n : OpId) (slot : Nat)
  /-- LINK_CREDIT_UE (R247). -/
  | linkCreditUe (n : OpId)
  /-- TAG_TABLE_UE (R247). -/
  | tagTableUe (tag : Nat)
  /-- LARDER_UE (R247). -/
  | larderUe (sid : Nat)
  /-- GRANT (R257). -/
  | grant (pt : PointId)
  /-- TARGET_MISS (R259). -/
  | targetMiss (pt : PointId) (master tc : Nat)
  /-- TOKEN_STATE_UE (R262). -/
  | tokenStateUe (pt : PointId)
  /-- QOS_TOK_READ (R261). -/
  | qosTokRead (p : Path)
  /-- PAUSE_PERIOD (R348): `part` is the sixteenth of the pause period that begins. -/
  | pausePeriod (part : Fin 16)
  /-- DUTY_RAMP (R349). -/
  | dutyRamp (i : SensorId)
  /-- TE_SUBMISSION (R277). -/
  | teSubmission (n : HpId) (q : QueueId) (desc : List Word) (inline : List Byte)
  /-- MVM (R279). -/
  | mvm (q : QueueId)
  /-- REDUCE (R272). -/
  | reduce (q : QueueId)
  /-- LOADW (R273). -/
  | loadw (q : QueueId)
  /-- FREEW (R273). -/
  | freew (q : QueueId)
  /-- NOP (R275). -/
  | nop (q : QueueId)
  /-- DESCRIPTOR_COMPLETE (R281). -/
  | descriptorComplete (q : QueueId)
  /-- QUEUE_BIND (R267). -/
  | queueBind (p : Path) (b : Binding) (v : Word)
  /-- RESUME (R282). -/
  | resume (p : Path)
  /-- FLUSH (R282). -/
  | flush (p : Path)
  /-- TEG_FAIL_RETURN (R289). -/
  | tegFailReturn (p : Path) (v : Word)
  /-- CAL_EN_WRITE (R287). -/
  | calEnWrite (p : Path) (v : Word)
  /-- CAL_BOUNDARY (R285). -/
  | calBoundary
  /-- TILE_DRAIN_END (R285). -/
  | tileDrainEnd
  /-- SET_COPY_END (R285). -/
  | setCopyEnd
  /-- TILE_MEASUREMENT_END (R286); `ue` says that the tile's stored correction read uncorrectable. -/
  | tileMeasurementEnd (ok ue : Bool)
  /-- START_MEASUREMENT_END (R287); `ue` names the tiles whose stored correction read uncorrectable. -/
  | startMeasurementEnd (failed ue : List TileId)
  /-- TILE_FAIL (R289). -/
  | tileFail (t : TileId) (why : TileFault)
  /-- QUEUE_UE (R290). -/
  | queueUe (q : QueueId) (slot : Nat)
  /-- PREC_WAIT (R290). -/
  | precWait (q : QueueId)
  /-- CELLAR_READ (R313). -/
  | cellarRead (part : PartId) (off len tag : Nat) (env : CellEnv)
  /-- CELLAR_WRITE (R313). -/
  | cellarWrite (part : PartId) (off tag : Nat) (bytes : List Byte) (env : CellEnv)
  /-- REFRESH_VISIT (R308): `worst` gives pages of the extent with the corrected bits of their worst codeword. -/
  | refreshVisit (worst : List (Nat × Nat)) (env : CellEnv)
  /-- REFR_BEHIND (R309). -/
  | refrBehind
  /-- WEAR_CHECK (R306). -/
  | wearCheck
  /-- LEVELLING_MOVE_END (R306). -/
  | levellingMoveEnd (env : CellEnv)
  /-- SENSOR_CONVERSION (R345). -/
  | sensorConversion (i : SensorId) (reading : Option Int)
  /-- HEAT_THR_WRITE (R346). -/
  | heatThrWrite (p : Path) (v : Word)
  /-- KEEPER_DIODE_TRIP (R352). -/
  | keeperDiodeTrip
  /-- THERMAL_LATCH_CLEAR (R354). -/
  | thermalLatchClear
  /-- TWIN_LINK_TRAINED (R321). -/
  | twinLinkTrained
  /-- HELLO (R319). -/
  | hello (h : Hello)
  /-- PAIRING_TIMEOUT (R318). -/
  | pairingTimeout
  /-- TWIN_LINK_LOST (R331): a lane fails in one direction (`true` received), or the link loses training whole. -/
  | twinLinkLost (lane : Option Bool)
  /-- TWIN_BATCH_CLOSE (R324). -/
  | twinBatchClose
  /-- CTX (R325). -/
  | ctx (r : CtxRec)
  /-- ROUTE (R325). -/
  | route (r : RouteRec)
  /-- CHAN (R325). -/
  | chan (node : Nat)
  /-- SEAL (R325). -/
  | seal (epoch count : Nat) (crc : Word)
  /-- CONFIRM (R327). -/
  | confirm (epoch : Nat)
  /-- NAK (R324). -/
  | nak (epoch : Nat)
  /-- HEARTBEAT (R331): `kind` is byte 0 of the record that arrives: a HEARTBEAT, or one that none of the other rows stands for. -/
  | heartbeat (kind : Byte)
  /-- HEARTBEAT_SEND (R324). -/
  | heartbeatSend
  /-- BATCH_RESEND (R324). -/
  | batchResend
  /-- SWEEP_PASS (R326). -/
  | sweepPass
  /-- TWIN_DOWN (R331). -/
  | twinDown (reason : Nat)
  /-- TWIN_SILENCE (R331). -/
  | twinSilence
  /-- HANDOVER (R340). -/
  | handover (epoch : Nat)
  /-- ROLE (R333). -/
  | role (n : OpId) (node phase count : Nat)
  /-- ROLE_ANSWER (R333). -/
  | roleAnswer (n : OpId)
  /-- ROLE_ACK (R333). -/
  | roleAck (n : OpId) (node count : Nat)
  /-- ROLE_NAK (R333). -/
  | roleNak (n : OpId) (node count : Nat)
  /-- ROLE_CLAIM_REPEAT (R333). -/
  | roleClaimRepeat
  /-- ROLE_CLAIM_WINDOW (R333). -/
  | roleClaimWindow
  /-- RESUME_RECV_ANSWER (R335). -/
  | resumeRecvAnswer (sid gen seq : Nat)
  /-- ERR_SUM_WRITE (R365). -/
  | errSumWrite (p : Path) (hi : Bool) (v : Word)
  /-- FAULT_TRAP_WRITE (R369). -/
  | faultTrapWrite (p : Path) (hi : Bool) (v : Word)
  /-- PARITY_CLEAR (R369). -/
  | parityClear (p : Path)
  /-- COLLECTOR_PARITY (R366). -/
  | collectorParity
  /-- FATAL_DUMP (R371). -/
  | fatalDump (env : CellEnv)
  /-- FATAL_DUMP_END (R371). -/
  | fatalDumpEnd (r : DumpResult)
  /-- HK_DEAD (R371). -/
  | hkDead
  /-- WAKE_N_RISE (R64). -/
  | wakeNRise
  /-- FAULT_IN_N_RISE (R365). -/
  | faultInNRise
  /-- COMB_LIGHT_RETURN (R192). -/
  | combLightReturn (i : CombId)
  /-- SIDEBAND_TRAINED (R141). -/
  | sidebandTrained (n : HpId)
  /-- RETRAIN (R143). -/
  | retrain (n : HpId)
  /-- FW_FATAL (R358). -/
  | fwFatal
  /-- HTR_FAULT (R358). -/
  | htrFault (r : RingId)
  /-- WEIGHT_SLOT_UE (R360). -/
  | weightSlotUe (t : TileId) (slot : Nat)
  /-- REORDER_STORE_UE (R360). -/
  | reorderStoreUe (block : Nat)
  /-- TARGET_COMPLETION (R241). -/
  | targetCompletion (n : HpId) (c : TargetCpl)
  deriving DecidableEq, Repr

end Sys2Proof
end

