-- ==== Sys2Proof/Machine/Store.lean ====
section
/-! DEFINITION. Sparse tables in one canonical form: pairs of key and value, keys rising, no entry that holds the value an absent key reads as. The registers, the Cellar and every large table of the block are held so. -/

namespace Sys2Proof.Machine

/-- A sparse table from natural keys. -/
abbrev Table (α : Type) := List (Nat × α)

/-- What the table holds for a key, `d` where it lists nothing. -/
def tget {α : Type} (d : α) : Table α → Nat → α
  | [], _ => d
  | (a, v) :: t, k => if a = k then v else tget d t k

/-- The table without a key. -/
def tdel {α : Type} : Table α → Nat → Table α
  | [], _ => []
  | (a, v) :: t, k => if a = k then tdel t k else (a, v) :: tdel t k

/-- A pair put before the first greater key. -/
def tins {α : Type} (k : Nat) (v : α) : Table α → Table α
  | [] => [(k, v)]
  | (a, w) :: t => if k < a then (k, v) :: (a, w) :: t else (a, w) :: tins k v t

/-- The table with a key set; setting it to what an absent key reads as removes it. -/
def tset {α : Type} [DecidableEq α] (d : α) (m : Table α) (k : Nat) (v : α) : Table α :=
  if v = d then tdel m k else tins k v (tdel m k)

/-- Keys rise strictly. -/
def Table.sorted {α : Type} : Table α → Bool
  | [] => true
  | [_] => true
  | (a, _) :: (b, w) :: t => decide (a < b) && Table.sorted ((b, w) :: t)

/-- The canonical form: rising keys and no entry equal to what an absent key reads as. -/
def Table.wf {α : Type} [DecidableEq α] (d : α) (m : Table α) : Bool :=
  Table.sorted m && m.all (fun p => decide (p.2 ≠ d))

/-- The keys of a table that satisfy a test of their values. -/
def tkeys {α : Type} (p : α → Bool) (m : Table α) : List Nat :=
  (m.filter (fun e => p e.2)).map (·.1)

/-- The table with every value changed by `f`. -/
def tmap {α : Type} [DecidableEq α] (d : α) (f : Nat → α → α) : Table α → Table α
  | [] => []
  | (a, v) :: t => if f a v = d then tmap d f t else (a, f a v) :: tmap d f t

/-- Bit `i` of a number. -/
def bitOf (v i : Nat) : Bool := v / 2 ^ i % 2 == 1

/-- A number with bit `i` set. -/
def setBitOf (v i : Nat) : Nat := if bitOf v i then v else v + 2 ^ i

/-- A number with bit `i` cleared. -/
def clrBitOf (v i : Nat) : Nat := if bitOf v i then v - 2 ^ i else v

/-- A truth value as a bit. -/
def b2n (b : Bool) : Nat := if b then 1 else 0

/-- Bits `lsb` to `lsb + width - 1` of a number. -/
def bits (v lsb width : Nat) : Nat := v / 2 ^ lsb % 2 ^ width

end Sys2Proof.Machine
end

