-- ==== Sys2Proof/Machine/Crypto.lean ====
section
/-! DEFINITION. The ciphers and check codes of the spec over natural numbers: CRC-32C (R112), SHA-256 (FIPS 180-4, R117, R295) and AES-256-GCM (NIST SP 800-38D, R115). -/

namespace Sys2Proof.Machine

/-- A big-endian list of byte values as one number. -/
def beNat (l : List Nat) : Nat := l.foldl (fun a b => a * 256 + b) 0

/-- A number as `n` big-endian byte values. -/
def natBe (n v : Nat) : List Nat := (List.range n).map fun i => v / 256 ^ (n - 1 - i) % 256

/-- Bytes as their values, and byte values as bytes. -/
def toVals (l : List Byte) : List Nat := l.map BitVec.toNat
def toBytes (l : List Nat) : List Byte := l.map (BitVec.ofNat 8)

/-- A list cut into pieces of `n`; at most `fuel` pieces. -/
def chunks {α : Type} (n : Nat) : Nat → List α → List (List α)
  | 0, _ => []
  | fuel + 1, l => if l.isEmpty then [] else l.take n :: chunks n fuel (l.drop n)

/-! CRC-32C. -/

/-- One bit of the reflected Castagnoli division. -/
def crc32cBit (c : Nat) : Nat := if c % 2 = 1 then (c / 2) ^^^ 0x82F63B78 else c / 2

/-- One byte. -/
def crc32cByte (c b : Nat) : Nat :=
  crc32cBit (crc32cBit (crc32cBit (crc32cBit (crc32cBit (crc32cBit (crc32cBit (crc32cBit (c ^^^ b))))))))

/-- CRC-32C: polynomial 0x1EDC_6F41 reflected, initial value and final XOR 0xFFFF_FFFF (R112). -/
def crc32c (l : List Nat) : Nat := (l.foldl crc32cByte 0xFFFFFFFF) ^^^ 0xFFFFFFFF

/-! SHA-256. -/

/-- The 64 round constants of SHA-256. -/
def shaK : List Nat :=
  [0x428a2f98, 0x71374491, 0xb5c0fbcf, 0xe9b5dba5, 0x3956c25b, 0x59f111f1, 0x923f82a4, 0xab1c5ed5] ++
  [0xd807aa98, 0x12835b01, 0x243185be, 0x550c7dc3, 0x72be5d74, 0x80deb1fe, 0x9bdc06a7, 0xc19bf174] ++
  [0xe49b69c1, 0xefbe4786, 0x0fc19dc6, 0x240ca1cc, 0x2de92c6f, 0x4a7484aa, 0x5cb0a9dc, 0x76f988da] ++
  [0x983e5152, 0xa831c66d, 0xb00327c8, 0xbf597fc7, 0xc6e00bf3, 0xd5a79147, 0x06ca6351, 0x14292967] ++
  [0x27b70a85, 0x2e1b2138, 0x4d2c6dfc, 0x53380d13, 0x650a7354, 0x766a0abb, 0x81c2c92e, 0x92722c85] ++
  [0xa2bfe8a1, 0xa81a664b, 0xc24b8b70, 0xc76c51a3, 0xd192e819, 0xd6990624, 0xf40e3585, 0x106aa070] ++
  [0x19a4c116, 0x1e376c08, 0x2748774c, 0x34b0bcb5, 0x391c0cb3, 0x4ed8aa4a, 0x5b9cca4f, 0x682e6ff3] ++
  [0x748f82ee, 0x78a5636f, 0x84c87814, 0x8cc70208, 0x90befffa, 0xa4506ceb, 0xbef9a3f7, 0xc67178f2]

/-- The eight initial words of SHA-256. -/
def shaH : List Nat := [0x6a09e667, 0xbb67ae85, 0x3c6ef372, 0xa54ff53a, 0x510e527f, 0x9b05688c, 0x1f83d9ab, 0x5be0cd19]

/-- A 32-bit rotation right. -/
def ror32 (x n : Nat) : Nat := (x / 2 ^ n) ||| (x * 2 ^ (32 - n) % 2 ^ 32)

def shaS0 (x : Nat) : Nat := ror32 x 7 ^^^ ror32 x 18 ^^^ (x / 2 ^ 3)
def shaS1 (x : Nat) : Nat := ror32 x 17 ^^^ ror32 x 19 ^^^ (x / 2 ^ 10)
def shaB0 (x : Nat) : Nat := ror32 x 2 ^^^ ror32 x 13 ^^^ ror32 x 22
def shaB1 (x : Nat) : Nat := ror32 x 6 ^^^ ror32 x 11 ^^^ ror32 x 25

/-- The message schedule, newest word first, extended by `n` words. -/
def shaExtend : Nat → List Nat → List Nat
  | 0, w => w
  | n + 1, w => shaExtend n (((shaS1 (w.getD 1 0) + w.getD 6 0 + shaS0 (w.getD 14 0) + w.getD 15 0) % 2 ^ 32) :: w)

/-- One round on the eight working words. -/
def shaRound : List Nat → Nat × Nat → List Nat
  | [a, b, c, d, e, f, g, h], (k, w) =>
    let t1 := (h + shaB1 e + ((e &&& f) ^^^ ((2 ^ 32 - 1 - e) &&& g)) + k + w) % 2 ^ 32
    let t2 := (shaB0 a + ((a &&& b) ^^^ (a &&& c) ^^^ (b &&& c))) % 2 ^ 32
    [(t1 + t2) % 2 ^ 32, a, b, c, (d + t1) % 2 ^ 32, e, f, g]
  | l, _ => l

/-- One block of 64 byte values. -/
def shaBlock (h : List Nat) (blk : List Nat) : List Nat :=
  let w := (shaExtend 48 ((chunks 4 16 blk).map beNat).reverse).reverse
  List.zipWith (fun x y => (x + y) % 2 ^ 32) h ((shaK.zip w).foldl shaRound h)

/-- The padding of a message of `n` bytes. -/
def shaPad (n : Nat) : List Nat := 0x80 :: (List.replicate ((119 - n % 64) % 64) 0 ++ natBe 8 (8 * n))

/-- SHA-256 of byte values. -/
def sha256 (m : List Nat) : List Nat :=
  let p := m ++ shaPad m.length
  (((chunks 64 (p.length / 64) p).foldl shaBlock shaH).map (natBe 4)).flatten

/-! AES-256. -/

/-- The S-box, entry i in bits 8i to 8i + 7. -/
def sboxBits : Nat := 0x16bb54b00f2d99416842e6bf0d89a18cdf2855cee9871e9b948ed9691198f8e19e1dc186b95735610ef6034866b53e708a8bbd4b1f74dde8c6b4a61c2e2578ba08ae7a65eaf4566ca94ed58d6d37c8e779e4959162acd3c25c2406490a3a32e0db0b5ede14b8ee4688902a22dc4f816073195d643d7ea7c41744975fec130ccdd2f3ff1021dab6bcf5389d928f40a351a89f3c507f02f94585334d43fbaaefd0cf584c4a39becb6a5bb1fc20ed00d153842fe329b3d63b52a05a6e1b1a2c830975b227ebe28012079a059618c323c7041531d871f1e5a534ccf73f362693fdb7c072a49cafa2d4adf04759fa7dc982ca76abd7fe2b670130c56f6bf27b777c63

def sbox (x : Nat) : Nat := sboxBits / 2 ^ (8 * x) % 256

/-- Multiplication by x in the field of AES. -/
def xtime (x : Nat) : Nat := if 128 ≤ x then (x * 2 % 256) ^^^ 0x1B else x * 2

/-- The XOR of two lists of byte values. -/
def xorL (a b : List Nat) : List Nat := List.zipWith (· ^^^ ·) a b

/-- The key schedule of AES-256 as words, newest first: `n` more words, of which the first has index `i`. -/
def aesExpand : Nat → Nat → List (List Nat) → List (List Nat)
  | 0, _, w => w
  | n + 1, i, w =>
    let t := w.headD []
    let t' :=
      if i % 8 = 0 then xorL ((t.drop 1 ++ t.take 1).map sbox) [2 ^ (i / 8 - 1), 0, 0, 0]
      else if i % 8 = 4 then t.map sbox else t
    aesExpand n (i + 1) (xorL (w.getD 7 []) t' :: w)

/-- The 15 round keys of 16 bytes. -/
def aesKeys (key : List Nat) : List (List Nat) :=
  (chunks 4 15 (aesExpand 52 8 (chunks 4 8 key).reverse).reverse).map List.flatten

/-- SubBytes and ShiftRows on the state in column order. -/
def subShift (s : List Nat) : List Nat := (List.range 16).map fun i => sbox (s.getD ((i + 4 * (i % 4)) % 16) 0)

/-- MixColumns. -/
def mixCols (s : List Nat) : List Nat :=
  (List.range 16).map fun i =>
    let c := i / 4 * 4
    let g := fun j => s.getD (c + (i + j) % 4) 0
    xtime (g 0) ^^^ (xtime (g 1) ^^^ g 1) ^^^ g 2 ^^^ g 3

/-- Enciphers one block. -/
def aesRounds : List (List Nat) → List Nat → List Nat
  | [], s => s
  | [k], s => xorL (subShift s) k
  | k :: ks, s => aesRounds ks (xorL (mixCols (subShift s)) k)

def aesBlock (keys : List (List Nat)) (blk : List Nat) : List Nat :=
  aesRounds (keys.drop 1) (xorL blk (keys.headD []))

/-! GCM. -/

/-- The product of GCM's field, bit 127 being the coefficient of 1. -/
def ghashMul : Nat → Nat → Nat → Nat → Nat
  | 0, _, _, z => z
  | n + 1, x, v, z =>
    ghashMul n x (if v % 2 = 1 then (v / 2) ^^^ (0xE1 * 2 ^ 120) else v / 2) (if bitOf x n then z ^^^ v else z)

/-- GHASH of a list of blocks. -/
def ghash (h : Nat) (blks : List (List Nat)) : Nat :=
  blks.foldl (fun y b => ghashMul 128 (y ^^^ (beNat b * 256 ^ (16 - b.length))) h 0) 0

/-- The key stream over data, from counter `c`. -/
def gcmCtr (keys : List (List Nat)) (iv : List Nat) (c : Nat) : List (List Nat) → List Nat
  | [] => []
  | b :: bs => xorL b (aesBlock keys (iv ++ natBe 4 (c % 2 ^ 32))) ++ gcmCtr keys iv (c + 1) bs

/-- The tag of GCM over associated data and cipher text (R115: a 96-bit IV, a 128-bit tag). -/
def gcmTag (keys : List (List Nat)) (iv aad ct : List Nat) : List Nat :=
  let h := beNat (aesBlock keys (List.replicate 16 0))
  let y := ghash h (chunks 16 (aad.length / 16 + 1) aad ++ chunks 16 (ct.length / 16 + 1) ct ++ [natBe 8 (8 * aad.length) ++ natBe 8 (8 * ct.length)])
  xorL (natBe 16 y) (aesBlock keys (iv ++ [0, 0, 0, 1]))

/-- The plaintext of AES-256-GCM, where the tag checks. -/
def gcmOpen (key iv aad ct tag : List Nat) : Option (List Nat) :=
  let keys := aesKeys key
  if gcmTag keys iv aad ct = tag then some (gcmCtr keys iv 2 (chunks 16 (ct.length / 16 + 1) ct)) else none

end Sys2Proof.Machine
end

