-- ==== Sys2Proof/Machine/Coding.lean ====
section
/-! DEFINITION. What stands on the lines of an optical port (R195 to R207, Tables LINK-1, LINK-3, LINK-5, LINK-6, LINK-10): frames as words, the hunt for them, the scrambler, the three Reed-Solomon codes, marker blocks, and symbols of light. -/

namespace Sys2Proof.Machine

/-! Frames as words. -/

/-- The word that starts a frame, and the word between frames (R197). -/
def sofWord : Nat := 0xFB5AA5F0
def idleWord : Nat := 0x07070707

/-- The header of a frame, bit 127 first (Table LINK-3). -/
def frameHead (f : Frame) : Nat :=
  f.ftype * 2 ^ 125 + f.tc * 2 ^ 122 + f.rl * 2 ^ 121 + f.hop * 2 ^ 117 + (f.payload.length / 64 - 1) * 2 ^ 112 + f.dst * 2 ^ 102 +
    f.src * 2 ^ 92 + f.dsid * 2 ^ 71 + f.seq * 2 ^ 47 + f.rpl.toNat * 2 ^ 46 + f.ackV.toNat * 2 ^ 45 + f.ackSid * 2 ^ 24 + f.ackSeq

/-- The header of a frame in Brynn mode (Table LINK-10): it has no RPL, 16-bit sequences and a 3-bit LEN. -/
def brynnHead (f : Frame) : Nat :=
  f.ftype * 2 ^ 125 + f.tc * 2 ^ 122 + f.rl * 2 ^ 121 + f.hop * 2 ^ 117 + (f.payload.length / 64 - 1) * 2 ^ 114 + f.dst * 2 ^ 104 +
    f.src * 2 ^ 94 + f.dsid * 2 ^ 73 + f.seq % 65536 * 2 ^ 57 + f.ackV.toNat * 2 ^ 56 + f.ackSid * 2 ^ 35 + f.ackSeq % 65536 * 2 ^ 19

/-- The bytes a frame's CRC covers: header and payload (R197). -/
def frameBytes (brynn : Bool) (f : Frame) : List Nat := natBe 16 (if brynn then brynnHead f else frameHead f) ++ toVals f.payload

/-- The CRC-32C that ends a frame (R197). -/
def frameCrc (brynn : Bool) (f : Frame) : Nat := crc32c (frameBytes brynn f)

/-- What a receiver finds of a frame's CRC (R199, R200): it matches, or it is the bitwise inverse of the right one. -/
def crcGood (brynn : Bool) (f : Frame) : Bool := f.crc.toNat == frameCrc brynn f
def crcStomped (brynn : Bool) (f : Frame) : Bool := f.crc.toNat == 0xFFFFFFFF - frameCrc brynn f

/-- A frame as it leaves a port (R197, R244): in Brynn mode it takes the header that has no RPL; its CRC is the right one, or, where the frame is cut short, the inverse (R200). -/
def framed (brynn : Bool) (f : Frame) : Frame :=
  let g := { f with rpl := f.rpl && !brynn }
  { g with crc := BitVec.ofNat 32 (if f.cut then 0xFFFFFFFF - frameCrc brynn g else frameCrc brynn g) }

/-- Bytes as big-endian words. -/
def wordsOf (l : List Nat) : List Nat := (chunks 4 (l.length + 1) l).map beNat

/-- The words of a frame on the wire (R197). -/
def frameWords (brynn : Bool) (f : Frame) : List Nat := sofWord :: (wordsOf (frameBytes brynn f) ++ [f.crc.toNat])

/-- A header's fields and the words that follow, as a frame with the CRC that came; `none` where the stream ends first. -/
def readFrame (brynn : Bool) (l : List Nat) : Option Frame :=
  let h := beNat ((l.take 4).map (natBe 4)).flatten
  let at' := fun lo w => h / 2 ^ lo % 2 ^ w
  let n := 16 * ((if brynn then at' 114 3 else at' 112 5) + 1)
  if l.length < 5 + n then none
  else
    some {
      ftype := at' 125 3, tc := at' 122 3, rl := at' 121 1, hop := at' 117 4,
      dst := if brynn then at' 104 10 else at' 102 10, src := if brynn then at' 94 10 else at' 92 10,
      dsid := if brynn then at' 73 21 else at' 71 21, seq := if brynn then at' 57 16 else at' 47 24,
      rpl := !brynn && at' 46 1 == 1, ackV := (if brynn then at' 56 1 else at' 45 1) == 1,
      ackSid := if brynn then at' 35 21 else at' 24 21, ackSeq := if brynn then at' 19 16 else at' 0 24,
      payload := toBytes (((l.drop 4).take n).map (natBe 4)).flatten, crc := BitVec.ofNat 32 (l.getD (4 + n) 0) }

/-- The hunt for frames in a stream of words (R199): every SOF at a word boundary starts a frame; after a frame with a right or an inverse CRC the hunt goes on behind it, after any other, a false frame among them, at the word after the SOF. What it finds is what the frame commands bring to `arrive`. At most `fuel` words. -/
def hunt (brynn : Bool) : Nat → List Nat → List Frame
  | 0, _ => []
  | _, [] => []
  | fuel + 1, w :: l =>
    if w ≠ sofWord then hunt brynn fuel l
    else
      match readFrame brynn l with
      | none => hunt brynn fuel l
      | some f => f :: hunt brynn fuel (if crcGood brynn f || crcStomped brynn f then l.drop (5 + f.payload.length / 4) else l)

/-! Link-control frames. -/

/-- A byte string with the big-endian fields (offset, bytes, value) of a 64-byte payload. -/
def putFields (l : List (Nat × Nat × Nat)) : List Nat :=
  (List.range 64).map fun i => (l.findSome? fun e => if e.1 ≤ i ∧ i < e.1 + e.2.1 then some ((natBe e.2.1 e.2.2).getD (i - e.1) 0) else none).getD 0

/-- Where the fields of a link-control message stand in its payload: offset and bytes of each (Tables LINK-6 and LAM-3). -/
def lctlPlaces (code : Nat) : List (Nat × Nat) :=
  if code = 0x01 then [(1, 2), (3, 2), (5, 1), (6, 1), (7, 1), (8, 1), (9, 1)]
  else if code = 0x02 ∨ code = 0x03 then (1, 1) :: (List.range 16).map fun p => (2 + 2 * p, 2)
  else if code = 0x12 then [(1, 1), (4, 1)]
  else if code = 0x16 then [(2, 1), (4, 1)]
  else if code = 0x17 then [(1, 1), (4, 1)]
  else if code = 0x30 then [(1, 1), (8, 8)]
  else if code = 0x31 then [(1, 1), (8, 8), (16, 8), (24, 8)]
  else if code = 0x40 then [(1, 2), (3, 1)]
  else [(1, 1), (2, 1), (3, 1), (4, 1)]

/-- The codes of Tables LINK-6 and TWIN-3; in Brynn mode those of Table LINK-9. -/
def lctlKnown (brynn : Bool) (code : Nat) : Bool :=
  if brynn then code ∈ [0x01, 0x02, 0x03, 0x30, 0x31, 0x40]
  else code ∈ [0x01, 0x02, 0x03, 0x10, 0x11, 0x12, 0x13, 0x14, 0x15, 0x16, 0x17, 0x20, 0x21, 0x22, 0x23, 0x24, 0x25, 0x30, 0x31, 0x40, 0x50, 0x51, 0x60, 0x61, 0x62]

/-- The LCTL frame of a message (R207): HOP 0, TC 0, no sequence, and a payload of 64 bytes. -/
def lctlFrame (code : Nat) (fields : List Nat) (dst src : Nat) : Frame :=
  { ftype := 5, tc := 0, rl := 0, hop := 0, dst := dst, src := src, dsid := 0, seq := 0, rpl := false, ackV := false, ackSid := 0, ackSeq := 0,
    payload := toBytes (putFields ((0, 1, code) :: ((lctlPlaces code).zip fields).map fun e => (e.1.1, e.1.2, e.2))) }

/-! The scrambler. -/

/-- One bit of PRBS31, x^31 + x^28 + 1, and the register after it (R202). -/
def prbs31 (r : Nat) : Bool × Nat :=
  let b := (r / 2 ^ 30 + r / 2 ^ 27) % 2
  (b == 1, (2 * r + b) % 2 ^ 31)

/-- The register at the end of a marker block: all ones. -/
def scrSeed : Nat := 2 ^ 31 - 1

/-- Bits scrambled, or descrambled, from a register on. -/
def scramble : Nat → List Bool → List Bool
  | _, [] => []
  | r, b :: l => (b ^^ (prbs31 r).1) :: scramble (prbs31 r).2 l

/-- `n` bits of PRBS31, which every lane sends in T2 from the seed of its number (Table LINK-7). -/
def prbsBits (seed n : Nat) : List Bool := scramble seed (List.replicate n false)

/-! Reed-Solomon codes. -/

/-- A code of Table LINK-5: bits of a symbol, field polynomial, symbols of a codeword, message symbols, symbols it corrects, lanes, codewords between marker blocks. -/
structure FecCode where
  bits   : Nat
  poly   : Nat
  n      : Nat
  k      : Nat
  t      : Nat
  lanes  : Nat
  period : Nat
  deriving DecidableEq, Repr

/-- Near FEC and Brynn FEC (Table LINK-5). -/
def nearFec : FecCode := ⟨8, 0x11D, 64, 60, 2, 32, 4095⟩
def brynnFec : FecCode := ⟨8, 0x11D, 32, 30, 1, 16, 4095⟩

/-- Far FEC: the field of IEEE 802.3 clause 91 is that of x^10 + x^3 + 1, and its generator has the roots α^0 to α^29 (R203). (PRESUMED: assumption 57) -/
def farFec : FecCode := ⟨10, 0x409, 544, 514, 15, 32, 384⟩

/-- Multiplication by α, and of two elements of the field. -/
def FecCode.twice (c : FecCode) (a : Nat) : Nat := if 2 ^ c.bits ≤ 2 * a then (2 * a) ^^^ c.poly else 2 * a
def FecCode.mul (c : FecCode) (a b : Nat) : Nat :=
  ((List.range c.bits).foldl (fun (p : Nat × Nat) i => (if b / 2 ^ i % 2 = 1 then p.1 ^^^ p.2 else p.1, c.twice p.2)) (0, a)).1

/-- α^i, and the inverse of an element: its power 2^bits − 2. -/
def FecCode.alpha (c : FecCode) (i : Nat) : Nat := (List.range i).foldl (fun a _ => c.twice a) 1
def FecCode.inv (c : FecCode) (a : Nat) : Nat :=
  ((List.range (c.bits - 1)).foldl (fun (p : Nat × Nat) _ => let q := c.mul p.2 p.2; (c.mul p.1 q, q)) (1, a)).1

/-- A polynomial, highest power first, evaluated; sums and products of polynomials, lowest power first. -/
def FecCode.eval (c : FecCode) (l : List Nat) (x : Nat) : Nat := l.foldl (fun a b => c.mul a x ^^^ b) 0
def xorLists : List Nat → List Nat → List Nat
  | a :: l, b :: m => (a ^^^ b) :: xorLists l m
  | [], m => m
  | l, [] => l
def FecCode.scale (c : FecCode) (k : Nat) (l : List Nat) : List Nat := l.map (c.mul k)
def FecCode.prod (c : FecCode) : List Nat → List Nat → List Nat
  | [], _ => []
  | a :: l, m => xorLists (c.scale a m) (0 :: c.prod l m)

/-- The generator ∏(x − α^i), i below n − k, lowest power first. -/
def FecCode.gen (c : FecCode) : List Nat := (List.range (c.n - c.k)).foldl (fun g i => c.prod [c.alpha i, 1] g) [1]

/-- One message symbol through the encoder's register: highest power first. -/
def FecCode.encStep (c : FecCode) (g r : List Nat) (x : Nat) : List Nat :=
  xorLists (r.drop 1 ++ [0]) (c.scale (x ^^^ r.headD 0) g)

/-- A codeword: the message and its parity (Table LINK-5). -/
def FecCode.encode (c : FecCode) (msg : List Nat) : List Nat :=
  let g := (c.gen.take (c.n - c.k)).reverse
  msg ++ msg.foldl (c.encStep g) (List.replicate (c.n - c.k) 0)

/-- The syndromes of a received word; all zero of a codeword. -/
def FecCode.syndromes (c : FecCode) (w : List Nat) : List Nat := (List.range (c.n - c.k)).map fun i => c.eval w (c.alpha i)

/-- The search for the error locator (Berlekamp and Massey): the locator, the one before its last change, its length, the shift and the discrepancy of that change. -/
structure LocRun where
  cur   : List Nat := [1]
  old   : List Nat := [1]
  len   : Nat := 0
  shift : Nat := 1
  disc  : Nat := 1

/-- One syndrome more. -/
def FecCode.locStep (c : FecCode) (syn : List Nat) (r : LocRun) (i : Nat) : LocRun :=
  let d := (List.range (r.len + 1)).foldl (fun a j => a ^^^ c.mul (r.cur.getD j 0) (syn.getD (i - j) 0)) 0
  let next := xorLists r.cur (List.replicate r.shift 0 ++ c.scale (c.mul d (c.inv r.disc)) r.old)
  if d = 0 then { r with shift := r.shift + 1 }
  else if 2 * r.len ≤ i then { cur := next, old := r.cur, len := i + 1 - r.len, shift := 1, disc := d }
  else { r with cur := next, shift := r.shift + 1 }

/-- The word nearest to a received one, where it is no more than `t` symbols away: the message, and the places of the symbols corrected; none where the word is uncorrectable (R203). -/
def FecCode.decode (c : FecCode) (w : List Nat) : Option (List Nat × List Nat) :=
  let syn := c.syndromes w
  if syn.all (· == 0) then some (w.take c.k, [])
  else
    let r := (List.range (c.n - c.k)).foldl (c.locStep syn) {}
    if c.t < r.len then none
    else
      let omega := (c.prod syn r.cur).take (c.n - c.k)
      let deriv := (List.range r.cur.length).map fun j => if j % 2 = 0 then r.cur.getD (j + 1) 0 else 0
      let errs := (List.range c.n).filterMap fun p =>
        let x := c.alpha (c.n - 1 - p)
        let y := c.inv x
        if c.eval r.cur.reverse y = 0 then some (p, c.mul x (c.mul (c.eval omega.reverse y) (c.inv (c.eval deriv.reverse y)))) else none
      let fixed := errs.foldl (fun v e => v.set e.1 (v.getD e.1 0 ^^^ e.2)) w
      if errs.length = r.len ∧ (c.syndromes fixed).all (· == 0) then some (fixed.take c.k, errs.map (·.1)) else none

/-- The lane a symbol travels on (Table LINK-5), and how many of a codeword's corrected symbols each lane bore (R206). -/
def FecCode.lane (c : FecCode) (i : Nat) : Nat := i % c.lanes
def FecCode.onLane (c : FecCode) (places : List Nat) (lane : Nat) : Nat := (places.filter fun p => c.lane p == lane).length

/-! Lanes. -/

/-- A symbol's bits, most significant first, and bits as a number. -/
def symBits (n v : Nat) : List Bool := (List.range n).map fun i => v / 2 ^ (n - 1 - i) % 2 == 1
def bitsNat (l : List Bool) : Nat := l.foldl (fun a b => 2 * a + b.toNat) 0

/-- The bits a codeword puts on a lane, in symbol order (R202). -/
def FecCode.laneBits (c : FecCode) (cw : List Nat) (lane : Nat) : List Bool :=
  ((List.range c.n).filter fun i => c.lane i == lane).flatMap fun i => symBits c.bits (cw.getD i 0)

/-- A stream of words as the codewords between two marker blocks: scrambled from all ones, cut into messages and encoded (R202). -/
def FecCode.codewords (c : FecCode) (ws : List Nat) : List (List Nat) :=
  let bits := scramble scrSeed (ws.flatMap (symBits 32))
  (chunks (c.k * c.bits) (bits.length + 1) bits).map fun m => c.encode ((chunks c.bits (m.length + 1) m).map bitsNat)

/-- The 16 bits of a marker block on a lane (R204). -/
def markerBits (lane count : Nat) : Nat := 0xB500 + lane % 32 * 8 + count % 8

/-- The lane a marker names; none where the bits are no marker (R204). -/
def markerLane (v : Nat) : Option Nat := if v / 256 = 0xB5 then some (v / 8 % 32) else none

/-- A lane's bits from one marker block to the next: those of the codewords, and the marker (R202, R204). -/
def FecCode.lanePeriod (c : FecCode) (ws : List Nat) (lane count : Nat) : List Bool :=
  (c.codewords ws).flatMap (c.laneBits · lane) ++ symBits 16 (markerBits lane count)

/-! Light. -/

/-- The PAM4 level of two bits, the earlier first; level 3 is the most light (R195). -/
def pam4 : Bool → Bool → Nat
  | false, false => 0 | false, true => 1 | true, true => 2 | true, false => 3

/-- The two bits of a PAM4 level. -/
def pam4Bits : Nat → Bool × Bool
  | 0 => (false, false) | 1 => (false, true) | 2 => (true, true) | _ => (true, false)

/-- A lane's bits as levels of light in PAM4 and in NRZ, where 1 is the more light (R195). -/
def pam4Levels : List Bool → List Nat
  | a :: b :: l => pam4 a b :: pam4Levels l
  | _ => []
def nrzLevels (l : List Bool) : List Nat := l.map Bool.toNat

end Sys2Proof.Machine
end

