-- ==== Sys2Proof/Config.lean ====
section
/-! DEFINITION. What an implementation fixes, and the free values: constants without a body, so that a claim holds whatever they are. -/

namespace Sys2Proof.Config

/-- The fuse key of the configuration engine, where one is blown (R118). -/
opaque fuseKey : Option (List Byte)

/-- The ENC_ONLY fuse (R120). -/
opaque encOnly : Bool

/-- The version of the boot ROM, and of the firmware in a Loft slot by its commit generation (FW_INFO RES0, R108). -/
opaque firmwareVersion : Option (Nat × Nat) → Word

/-- A 32-bit value the spec leaves open, by the counter of free values taken. -/
opaque freeWord : Nat → Word

/-- Which of bits [31:8] of CTL, STAT, ERR and EVT a loaded personality defines (R90), by its PERS_ID, the page and the offset: bit 0 for bit 8. -/
opaque persBits : Nat → Nat → Nat → BitVec 24

/-- Whether a REGACC access that still has time left has not completed by a Capture-DR (R104), by the counter of free values taken. -/
opaque accessPending : Nat → Bool

/-- The hash of a destination SID by which SPREAD binds a stream to an alternate (R27). -/
opaque spreadHash : Nat → Nat

/-- Whether a quotient that the spec does not say how to round is rounded up, by the counter of free values taken. -/
opaque roundUp : Nat → Bool

/-- The digitised result of an analog pass in units of 2^-16, by the counter of free values and the clipped exact sum (R270, R271). -/
opaque digitise : Nat → Int → Int

/-- The 4096 bytes that a blank configuration frame reads as (R128, R134). -/
opaque blankFrame : List Byte

/-- The firmware's log text that a dump holds, by the counter of free values taken (Table FAULT-5 LOG). -/
opaque firmwareLog : Nat → List Byte

/-- The chiplet's fuse serial number (R184). -/
opaque fuseSerial : Nat

/-- The temperature coefficient of a ring in codes per °C (R184), by its slot's key. -/
opaque ringCoeff : Nat → Int

/-- The ECC of a Cellar page's data, which lies in its spare area (R292, R302): four codewords of 1 KiB, by a code that the spec does not give. -/
opaque cellEcc : List Byte → List Byte

/-- How a comb module's bring-up ends where the command that makes it does not say: lit with this power, or failed, by the counter of free values taken (R173, R174). -/
opaque moduleUp : Nat → Option Nat

end Sys2Proof.Config
end

