-- ==== Sys2Proof/Machine/Cards.lean ====
section
/-! DEFINITION. The register cards of the spec as data: one `Fld` for each field of each card (page, offset, low bit, width, reset value), and the table of the cards of every page with the access type of each field. A register that a select register banks (HEAT_SEL, TEG_Q_SEL, OP_CRA_SEL) has one copy for each index, its `bank`. Reserved bits have no field: they read 0 (R92). Reset values the cards give as `sampled`, `live`, `fuse`, `map` or `record` are 0 here: the operations that read those fields take them from the straps, pins, fuses and Cellar. -/

namespace Sys2Proof.Machine

/-- The access types (R92). -/
inductive Acc where
  | rw | ro | w1c | w1s | wo | rc | rwl
  deriving DecidableEq, Repr

/-- A register field: where it sits and what it holds after reset. -/
structure Fld where
  page  : Nat
  off   : Nat
  lsb   : Nat
  width : Nat
  dflt  : Nat
  bank  : Nat := 0
  deriving DecidableEq, Repr

/-- The key of a field in the register store. -/
def Fld.key (f : Fld) : Nat := ((f.bank * 256 + f.page) * 4096 + f.off) * 32 + f.lsb

/-- A field of a card with its access type. -/
structure CardField where
  acc : Acc
  fld : Fld
  deriving DecidableEq, Repr

/-- A card: the offset of a register, and its fields. -/
structure Card where
  off    : Nat
  fields : List CardField
  deriving DecidableEq, Repr

/-! The common header of every page (R90). -/

/-- CTL.LOCK of a page. -/
def Reg.LOCK (p : Nat) : Fld := ⟨p, 0x8, 0, 1, 0, 0⟩
/-- CTL.IRQ_EN of a page. -/
def Reg.IRQ_EN (p : Nat) : Fld := ⟨p, 0x8, 1, 1, 0, 0⟩
/-- ERR of a page. -/
def Reg.ERR (p : Nat) : Fld := ⟨p, 0x10, 0, 32, 0, 0⟩
/-- ERR_MSK of a page. -/
def Reg.ERR_MSK (p : Nat) : Fld := ⟨p, 0x14, 0, 32, 0, 0⟩
/-- EVT of a page. -/
def Reg.EVT (p : Nat) : Fld := ⟨p, 0x18, 0, 32, 0, 0⟩
/-- EVT_EN of a page. -/
def Reg.EVT_EN (p : Nat) : Fld := ⟨p, 0x1C, 0, 32, 0, 0⟩

/-- KEEP_STRAP.LEGACY_BRN, RO. -/
def Reg.KEEP_STRAP_LEGACY_BRN : Fld := ⟨0, 0x40, 0, 1, 0, 0⟩
/-- KEEP_STRAP.BOOT_SRC, RO. -/
def Reg.KEEP_STRAP_BOOT_SRC : Fld := ⟨0, 0x40, 1, 2, 0, 0⟩
/-- KEEP_STRAP.CHAIN_FIRST, RO. -/
def Reg.KEEP_STRAP_CHAIN_FIRST : Fld := ⟨0, 0x40, 3, 1, 0, 0⟩
/-- KEEP_STRAP.TWIN_ROLE, RO. -/
def Reg.KEEP_STRAP_TWIN_ROLE : Fld := ⟨0, 0x40, 4, 1, 0, 0⟩
/-- KEEP_REC.RAIL_LOST, W1C. -/
def Reg.KEEP_REC_RAIL_LOST : Fld := ⟨0, 0x44, 0, 1, 0, 0⟩
/-- KEEP_REC.RAIL_ID, RO. -/
def Reg.KEEP_REC_RAIL_ID : Fld := ⟨0, 0x44, 1, 3, 0, 0⟩
/-- KEEP_REC.REFCLK_LOST, W1C. -/
def Reg.KEEP_REC_REFCLK_LOST : Fld := ⟨0, 0x44, 4, 1, 0, 0⟩
/-- KEEP_REC.MGMT_PLL_LOST, W1C. -/
def Reg.KEEP_REC_MGMT_PLL_LOST : Fld := ⟨0, 0x44, 5, 1, 0, 0⟩
/-- KEEP_REC.PIN_RESET, W1C. -/
def Reg.KEEP_REC_PIN_RESET : Fld := ⟨0, 0x44, 6, 1, 0, 0⟩
/-- KEEP_REC.SW_RESET, W1C. -/
def Reg.KEEP_REC_SW_RESET : Fld := ⟨0, 0x44, 7, 1, 0, 0⟩
/-- KEEP_WAKE.SRC, RO. -/
def Reg.KEEP_WAKE_SRC : Fld := ⟨0, 0x48, 0, 3, 0, 0⟩
/-- KEEP_STORM.PWR_EN_STORM, W1C. -/
def Reg.KEEP_STORM_PWR_EN_STORM : Fld := ⟨0, 0x4c, 0, 1, 0, 0⟩
/-- KEEP_STORM.WAKE_N_STORM, W1C. -/
def Reg.KEEP_STORM_WAKE_N_STORM : Fld := ⟨0, 0x4c, 1, 1, 0, 0⟩
/-- KEEP_STORM.FAULT_IN_STORM, W1C. -/
def Reg.KEEP_STORM_FAULT_IN_STORM : Fld := ⟨0, 0x4c, 2, 1, 0, 0⟩
/-- KEEP_STORM.PWR_EN_MASK, W1C. -/
def Reg.KEEP_STORM_PWR_EN_MASK : Fld := ⟨0, 0x4c, 8, 1, 0, 0⟩
/-- KEEP_STORM.WAKE_N_MASK, W1C. -/
def Reg.KEEP_STORM_WAKE_N_MASK : Fld := ⟨0, 0x4c, 9, 1, 0, 0⟩
/-- KEEP_STORM.FAULT_IN_MASK, W1C. -/
def Reg.KEEP_STORM_FAULT_IN_MASK : Fld := ⟨0, 0x4c, 10, 1, 0, 0⟩
/-- KEEP_PINS.PWR_EN, RO. -/
def Reg.KEEP_PINS_PWR_EN : Fld := ⟨0, 0x50, 0, 1, 0, 0⟩
/-- KEEP_PINS.RESET_N, RO. -/
def Reg.KEEP_PINS_RESET_N : Fld := ⟨0, 0x50, 1, 1, 0, 0⟩
/-- KEEP_PINS.WAKE_N, RO. -/
def Reg.KEEP_PINS_WAKE_N : Fld := ⟨0, 0x50, 2, 1, 0, 0⟩
/-- KEEP_PINS.FAULT_IN_N, RO. -/
def Reg.KEEP_PINS_FAULT_IN_N : Fld := ⟨0, 0x50, 3, 1, 0, 0⟩
/-- CLK_STAT.LOCK, RO. -/
def Reg.CLK_STAT_LOCK : Fld := ⟨1, 0x40, 0, 6, 0, 0⟩
/-- CLK_STAT.REFCLK_OK, RO. -/
def Reg.CLK_STAT_REFCLK_OK : Fld := ⟨1, 0x40, 6, 1, 0, 0⟩
/-- CLK_LINE.LOCK, RO. -/
def Reg.CLK_LINE_LOCK : Fld := ⟨1, 0x44, 0, 16, 0, 0⟩
/-- CLK_HOST.LOCK, RO. -/
def Reg.CLK_HOST_LOCK : Fld := ⟨1, 0x48, 0, 24, 0, 0⟩
/-- CLK_LOSS.LOSS, W1C. -/
def Reg.CLK_LOSS_LOSS : Fld := ⟨1, 0x4c, 0, 6, 0, 0⟩
/-- CLK_FAB.N, RWL. -/
def Reg.CLK_FAB_N : Fld := ⟨1, 0x50, 0, 6, 16, 0⟩
/-- CLK_GATE.HK_AUTO, RW. -/
def Reg.CLK_GATE_HK_AUTO : Fld := ⟨1, 0x54, 0, 1, 1, 0⟩
/-- CLK_GATE.TE_AUTO, RW. -/
def Reg.CLK_GATE_TE_AUTO : Fld := ⟨1, 0x54, 1, 1, 1, 0⟩
/-- PWR_CMD.OP, WO. -/
def Reg.PWR_CMD_OP : Fld := ⟨2, 0x40, 0, 3, 0, 0⟩
/-- PWR_TGT.STATE, RW. -/
def Reg.PWR_TGT_STATE : Fld := ⟨2, 0x44, 0, 3, 2, 0⟩
/-- PWR_CTL.WAKE_EN, RW. -/
def Reg.PWR_CTL_WAKE_EN : Fld := ⟨2, 0x48, 0, 1, 1, 0⟩
/-- PWR_CTL.WARM_OK, RW. -/
def Reg.PWR_CTL_WARM_OK : Fld := ⟨2, 0x48, 1, 1, 1, 0⟩
/-- PWR_CTL.SAVE_MAP, RW. -/
def Reg.PWR_CTL_SAVE_MAP : Fld := ⟨2, 0x48, 2, 1, 1, 0⟩
/-- PWR_STAT.STATE, RO. -/
def Reg.PWR_STAT_STATE : Fld := ⟨2, 0x4c, 0, 3, 0, 0⟩
/-- PWR_STAT.BUSY, RO. -/
def Reg.PWR_STAT_BUSY : Fld := ⟨2, 0x4c, 3, 1, 0, 0⟩
/-- PWR_STAT.DIR, RO. -/
def Reg.PWR_STAT_DIR : Fld := ⟨2, 0x4c, 4, 1, 0, 0⟩
/-- PWR_STAT.STEP, RO. -/
def Reg.PWR_STAT_STEP : Fld := ⟨2, 0x4c, 5, 5, 0, 0⟩
/-- PWR_STAT.OFF_PEND, RO. -/
def Reg.PWR_STAT_OFF_PEND : Fld := ⟨2, 0x4c, 10, 1, 0, 0⟩
/-- PWR_STAT.WAIT_NODE_ID, RO. -/
def Reg.PWR_STAT_WAIT_NODE_ID : Fld := ⟨2, 0x4c, 11, 1, 0, 0⟩
/-- PWR_STAT.STAY, RO. -/
def Reg.PWR_STAT_STAY : Fld := ⟨2, 0x4c, 12, 1, 0, 0⟩
/-- PWR_STAT.BOUNCE, RC. -/
def Reg.PWR_STAT_BOUNCE : Fld := ⟨2, 0x4c, 13, 8, 0, 0⟩
/-- PWR_REC.RAIL_MISSING, W1C. -/
def Reg.PWR_REC_RAIL_MISSING : Fld := ⟨2, 0x50, 0, 1, 0, 0⟩
/-- PWR_REC.RAIL_MASK, RO. -/
def Reg.PWR_REC_RAIL_MASK : Fld := ⟨2, 0x50, 1, 5, 0, 0⟩
/-- PWR_REC.STRAP_CONFLICT, RO. -/
def Reg.PWR_REC_STRAP_CONFLICT : Fld := ⟨2, 0x50, 6, 1, 0, 0⟩
/-- PWR_REC.STEP_FAIL, W1C. -/
def Reg.PWR_REC_STEP_FAIL : Fld := ⟨2, 0x50, 7, 1, 0, 0⟩
/-- PWR_REC.FAIL_STEP, RO. -/
def Reg.PWR_REC_FAIL_STEP : Fld := ⟨2, 0x50, 8, 5, 0, 0⟩
/-- PWR_REC.CAUSE, RO. -/
def Reg.PWR_REC_CAUSE : Fld := ⟨2, 0x50, 13, 3, 0, 0⟩
/-- PWR_REC.KEY_EMPTY, W1C. -/
def Reg.PWR_REC_KEY_EMPTY : Fld := ⟨2, 0x50, 16, 1, 0, 0⟩
/-- PWR_REC.MAP_NOT_SAVED, W1C. -/
def Reg.PWR_REC_MAP_NOT_SAVED : Fld := ⟨2, 0x50, 17, 1, 0, 0⟩
/-- PWR_TIME.US, RO. -/
def Reg.PWR_TIME_US : Fld := ⟨2, 0x54, 0, 24, 0, 0⟩
/-- ERR_SUM_LO.SUM, W1C. -/
def Reg.ERR_SUM_LO_SUM : Fld := ⟨3, 0x40, 0, 32, 0, 0⟩
/-- ERR_SUM_HI.SUM, W1C. -/
def Reg.ERR_SUM_HI_SUM : Fld := ⟨3, 0x44, 0, 32, 0, 0⟩
/-- FAULT_TRAP_LO.EN, RWL. -/
def Reg.FAULT_TRAP_LO_EN : Fld := ⟨3, 0x48, 0, 32, 32768, 0⟩
/-- FAULT_TRAP_HI.EN, RWL. -/
def Reg.FAULT_TRAP_HI_EN : Fld := ⟨3, 0x4c, 0, 32, 0, 0⟩
/-- FAULT_CTL.ASSERT, RW. -/
def Reg.FAULT_CTL_ASSERT : Fld := ⟨3, 0x50, 0, 1, 0, 0⟩
/-- FAULT_PULSE.US, RW. -/
def Reg.FAULT_PULSE_US : Fld := ⟨3, 0x54, 0, 10, 1, 0⟩
/-- FAULT_STAT.ACTIVE, RO. -/
def Reg.FAULT_STAT_ACTIVE : Fld := ⟨3, 0x58, 0, 1, 0, 0⟩
/-- FAULT_STAT.TRAP, RO. -/
def Reg.FAULT_STAT_TRAP : Fld := ⟨3, 0x58, 1, 1, 0, 0⟩
/-- FAULT_STAT.PARITY, W1C. -/
def Reg.FAULT_STAT_PARITY : Fld := ⟨3, 0x58, 2, 1, 0, 0⟩
/-- FAULT_STAT.ALIVE_RUN, RO. -/
def Reg.FAULT_STAT_ALIVE_RUN : Fld := ⟨3, 0x58, 3, 1, 0, 0⟩
/-- FAULT_STAT.DUMPING, RO. -/
def Reg.FAULT_STAT_DUMPING : Fld := ⟨3, 0x58, 4, 1, 0, 0⟩
/-- FAULT_ALIVE.KICK, WO. -/
def Reg.FAULT_ALIVE_KICK : Fld := ⟨3, 0x5c, 0, 1, 0, 0⟩
/-- FAULT_FIRST_SRC.BIT, RO. -/
def Reg.FAULT_FIRST_SRC_BIT : Fld := ⟨3, 0x60, 0, 6, 0, 0⟩
/-- FAULT_FIRST_SRC.ERRBIT, RO. -/
def Reg.FAULT_FIRST_SRC_ERRBIT : Fld := ⟨3, 0x60, 6, 5, 0, 0⟩
/-- FAULT_FIRST_SRC.PAGE, RO. -/
def Reg.FAULT_FIRST_SRC_PAGE : Fld := ⟨3, 0x60, 11, 8, 0, 0⟩
/-- FAULT_FIRST_SRC.MASTER, RO. -/
def Reg.FAULT_FIRST_SRC_MASTER : Fld := ⟨3, 0x60, 19, 5, 0, 0⟩
/-- FAULT_FIRST_SRC.ACC, RO. -/
def Reg.FAULT_FIRST_SRC_ACC : Fld := ⟨3, 0x60, 24, 3, 0, 0⟩
/-- FAULT_FIRST_SRC.COARSE, RO. -/
def Reg.FAULT_FIRST_SRC_COARSE : Fld := ⟨3, 0x60, 27, 1, 0, 0⟩
/-- FAULT_FIRST_SRC.SUSPECT, RO. -/
def Reg.FAULT_FIRST_SRC_SUSPECT : Fld := ⟨3, 0x60, 28, 1, 0, 0⟩
/-- FAULT_FIRST_SRC.VALID, RO. -/
def Reg.FAULT_FIRST_SRC_VALID : Fld := ⟨3, 0x60, 31, 1, 0, 0⟩
/-- FAULT_FIRST_ADDR_LO.ADDR, RO. -/
def Reg.FAULT_FIRST_ADDR_LO_ADDR : Fld := ⟨3, 0x64, 0, 32, 0, 0⟩
/-- FAULT_FIRST_ADDR_HI.ADDR, RO. -/
def Reg.FAULT_FIRST_ADDR_HI_ADDR : Fld := ⟨3, 0x68, 0, 16, 0, 0⟩
/-- FAULT_FIRST_TIME_LO.FTIME, RO. -/
def Reg.FAULT_FIRST_TIME_LO_FTIME : Fld := ⟨3, 0x6c, 0, 32, 0, 0⟩
/-- FAULT_FIRST_TIME_HI.FTIME, RO. -/
def Reg.FAULT_FIRST_TIME_HI_FTIME : Fld := ⟨3, 0x70, 0, 32, 0, 0⟩
/-- FAULT_MERGE.COUNT, RO. -/
def Reg.FAULT_MERGE_COUNT : Fld := ⟨3, 0x74, 0, 16, 0, 0⟩
/-- FAULT_MERGE.FAULTS, RC. -/
def Reg.FAULT_MERGE_FAULTS : Fld := ⟨3, 0x74, 16, 16, 0, 0⟩
/-- SHELF_SEL.IDX, RW. -/
def Reg.SHELF_SEL_IDX : Fld := ⟨3, 0x80, 0, 4, 0, 0⟩
/-- SHELF_EV.CODE, RO. -/
def Reg.SHELF_EV_CODE : Fld := ⟨3, 0x84, 0, 3, 0, 0⟩
/-- SHELF_EV.BIT, RO. -/
def Reg.SHELF_EV_BIT : Fld := ⟨3, 0x84, 3, 6, 0, 0⟩
/-- SHELF_EV.ERRBIT, RO. -/
def Reg.SHELF_EV_ERRBIT : Fld := ⟨3, 0x84, 9, 5, 0, 0⟩
/-- SHELF_EV.PAGE, RO. -/
def Reg.SHELF_EV_PAGE : Fld := ⟨3, 0x84, 14, 8, 0, 0⟩
/-- SHELF_EV.COARSE, RO. -/
def Reg.SHELF_EV_COARSE : Fld := ⟨3, 0x84, 22, 1, 0, 0⟩
/-- SHELF_EV.SUSPECT, RO. -/
def Reg.SHELF_EV_SUSPECT : Fld := ⟨3, 0x84, 23, 1, 0, 0⟩
/-- SHELF_TIME_LO.FTIME, RO. -/
def Reg.SHELF_TIME_LO_FTIME : Fld := ⟨3, 0x88, 0, 32, 0, 0⟩
/-- SHELF_TIME_HI.FTIME, RO. -/
def Reg.SHELF_TIME_HI_FTIME : Fld := ⟨3, 0x8c, 0, 32, 0, 0⟩
/-- SHELF_CNT.FILL, RO. -/
def Reg.SHELF_CNT_FILL : Fld := ⟨3, 0x90, 0, 5, 0, 0⟩
/-- SHELF_CNT.TOTAL, RC. -/
def Reg.SHELF_CNT_TOTAL : Fld := ⟨3, 0x90, 16, 16, 0, 0⟩
/-- FAULT_DUMP.SLOT, RO. -/
def Reg.FAULT_DUMP_SLOT : Fld := ⟨3, 0xa0, 0, 3, 0, 0⟩
/-- FAULT_DUMP.RESULT, RO. -/
def Reg.FAULT_DUMP_RESULT : Fld := ⟨3, 0xa0, 3, 3, 0, 0⟩
/-- FAULT_DUMP.VALID, W1C. -/
def Reg.FAULT_DUMP_VALID : Fld := ⟨3, 0xa0, 31, 1, 0, 0⟩
/-- HEAT_CTL.THERM_WARN, RW. -/
def Reg.HEAT_CTL_THERM_WARN : Fld := ⟨4, 0x40, 0, 1, 0, 0⟩
/-- HEAT_CTL.RAMP_EN, RW. -/
def Reg.HEAT_CTL_RAMP_EN : Fld := ⟨4, 0x40, 1, 1, 1, 0⟩
/-- HEAT_STAT.HOT, RO. -/
def Reg.HEAT_STAT_HOT : Fld := ⟨4, 0x44, 0, 7, 0, 0⟩
/-- HEAT_STAT.TJ, RO. -/
def Reg.HEAT_STAT_TJ : Fld := ⟨4, 0x44, 8, 12, 0, 0⟩
/-- HEAT_STAT.ANY_WARN, RO. -/
def Reg.HEAT_STAT_ANY_WARN : Fld := ⟨4, 0x44, 20, 1, 0, 0⟩
/-- HEAT_STAT.ANY_THROT, RO. -/
def Reg.HEAT_STAT_ANY_THROT : Fld := ⟨4, 0x44, 21, 1, 0, 0⟩
/-- HEAT_SEL.SENSOR, RW. -/
def Reg.HEAT_SEL_SENSOR : Fld := ⟨4, 0x48, 0, 7, 0, 0⟩
/-- HEAT_SEL.ALL, RW. -/
def Reg.HEAT_SEL_ALL : Fld := ⟨4, 0x48, 7, 1, 0, 0⟩
/-- HEAT_THR.WARN, RWL. -/
def Reg.HEAT_THR_WARN (i : Nat) : Fld := ⟨4, 0x4c, 0, 8, 95, i⟩
/-- HEAT_THR.THROT, RWL. -/
def Reg.HEAT_THR_THROT (i : Nat) : Fld := ⟨4, 0x4c, 8, 8, 105, i⟩
/-- HEAT_THR.SHUT, RWL. -/
def Reg.HEAT_THR_SHUT (i : Nat) : Fld := ⟨4, 0x4c, 16, 8, 115, i⟩
/-- HEAT_THR.HYST, RWL. -/
def Reg.HEAT_THR_HYST (i : Nat) : Fld := ⟨4, 0x4c, 24, 4, 5, i⟩
/-- HEAT_THR.DIS, RWL. -/
def Reg.HEAT_THR_DIS (i : Nat) : Fld := ⟨4, 0x4c, 28, 1, 0, i⟩
/-- HEAT_READ.TJ, RO. -/
def Reg.HEAT_READ_TJ (i : Nat) : Fld := ⟨4, 0x50, 0, 12, 0, i⟩
/-- HEAT_READ.BAND, RO. -/
def Reg.HEAT_READ_BAND (i : Nat) : Fld := ⟨4, 0x50, 12, 3, 4, i⟩
/-- HEAT_READ.STATE, RO. -/
def Reg.HEAT_READ_STATE (i : Nat) : Fld := ⟨4, 0x50, 15, 2, 0, i⟩
/-- HEAT_READ.FAULT, RO. -/
def Reg.HEAT_READ_FAULT (i : Nat) : Fld := ⟨4, 0x50, 17, 1, 0, i⟩
/-- HEAT_READ.DUTY, RO. -/
def Reg.HEAT_READ_DUTY (i : Nat) : Fld := ⟨4, 0x50, 18, 4, 0, i⟩
/-- HEAT_PAUSE.DUTY_BASE, RW. -/
def Reg.HEAT_PAUSE_DUTY_BASE : Fld := ⟨4, 0x54, 0, 4, 8, 0⟩
/-- HEAT_PAUSE.DUTY_MAX, RW. -/
def Reg.HEAT_PAUSE_DUTY_MAX : Fld := ⟨4, 0x54, 4, 4, 14, 0⟩
/-- HEAT_PAUSE.DUTY, RO. -/
def Reg.HEAT_PAUSE_DUTY : Fld := ⟨4, 0x54, 8, 4, 0, 0⟩
/-- HEAT_CNT.THROT, RC. -/
def Reg.HEAT_CNT_THROT : Fld := ⟨4, 0x58, 0, 16, 0, 0⟩
/-- HEAT_CNT.WARN, RC. -/
def Reg.HEAT_CNT_WARN : Fld := ⟨4, 0x58, 16, 16, 0, 0⟩
/-- HEAT_PAUSE_US.US, RC. -/
def Reg.HEAT_PAUSE_US_US : Fld := ⟨4, 0x5c, 0, 32, 0, 0⟩
/-- HEAT_SHUT.SENSOR, RO. -/
def Reg.HEAT_SHUT_SENSOR : Fld := ⟨4, 0x60, 0, 7, 0, 0⟩
/-- HEAT_SHUT.TJ, RO. -/
def Reg.HEAT_SHUT_TJ : Fld := ⟨4, 0x60, 8, 12, 0, 0⟩
/-- HEAT_SHUT.COUNT, RO. -/
def Reg.HEAT_SHUT_COUNT : Fld := ⟨4, 0x60, 20, 8, 0, 0⟩
/-- HEAT_SHUT.VALID, W1C. -/
def Reg.HEAT_SHUT_VALID : Fld := ⟨4, 0x60, 31, 1, 0, 0⟩
/-- HEAT_WMAP.WARN, RO. -/
def Reg.HEAT_WMAP_WARN (k : Nat) : Fld := ⟨4, (0x70 + 4 * k), 0, 32, 0, 0⟩
/-- HEAT_TMAP.THROT, RO. -/
def Reg.HEAT_TMAP_THROT (k : Nat) : Fld := ⟨4, (0x80 + 4 * k), 0, 32, 0, 0⟩
/-- CFG_BOOT.SLOT, RW. -/
def Reg.CFG_BOOT_SLOT : Fld := ⟨5, 0x40, 0, 4, 0, 0⟩
/-- CFG_BOOT.ALT_SLOT, RW. -/
def Reg.CFG_BOOT_ALT_SLOT : Fld := ⟨5, 0x40, 4, 4, 1, 0⟩
/-- CFG_BOOT.ALT_EN, RW. -/
def Reg.CFG_BOOT_ALT_EN : Fld := ⟨5, 0x40, 8, 1, 0, 0⟩
/-- CFG_POL.REQ_ENC, RWL. -/
def Reg.CFG_POL_REQ_ENC : Fld := ⟨5, 0x44, 0, 1, 0, 0⟩
/-- CFG_POL.KEY_SRC, RWL. -/
def Reg.CFG_POL_KEY_SRC : Fld := ⟨5, 0x44, 1, 1, 0, 0⟩
/-- CFG_POL.KEY_WR_EN, RWL. -/
def Reg.CFG_POL_KEY_WR_EN : Fld := ⟨5, 0x44, 2, 1, 1, 0⟩
/-- CFG_POL.SCRUB_MODE, RWL. -/
def Reg.CFG_POL_SCRUB_MODE : Fld := ⟨5, 0x44, 3, 1, 1, 0⟩
/-- CFG_CHAIN.CLK_DIV, RW. -/
def Reg.CFG_CHAIN_CLK_DIV : Fld := ⟨5, 0x48, 0, 2, 0, 0⟩
/-- CFG_CHAIN.DELAY, RW. -/
def Reg.CFG_CHAIN_DELAY : Fld := ⟨5, 0x48, 8, 8, 20, 0⟩
/-- CFG_CHAIN.POS, RO. -/
def Reg.CFG_CHAIN_POS : Fld := ⟨5, 0x48, 16, 3, 0, 0⟩
/-- CFG_CHAIN.FWD_BUSY, RO. -/
def Reg.CFG_CHAIN_FWD_BUSY : Fld := ⟨5, 0x48, 19, 1, 0, 0⟩
/-- CFG_CHAIN.SEGS_FWD, RO. -/
def Reg.CFG_CHAIN_SEGS_FWD : Fld := ⟨5, 0x48, 24, 8, 0, 0⟩
/-- CFG_HELD.HELD, RO. -/
def Reg.CFG_HELD_HELD : Fld := ⟨5, 0x4c, 0, 25, 33554431, 0⟩
/-- CFG_LOAD.BUSY, RO. -/
def Reg.CFG_LOAD_BUSY : Fld := ⟨5, 0x50, 0, 1, 0, 0⟩
/-- CFG_LOAD.SRC, RO. -/
def Reg.CFG_LOAD_SRC : Fld := ⟨5, 0x50, 1, 2, 0, 0⟩
/-- CFG_LOAD.SLOT, RO. -/
def Reg.CFG_LOAD_SLOT : Fld := ⟨5, 0x50, 3, 4, 0, 0⟩
/-- CFG_LOAD.ERR_CODE, RO. -/
def Reg.CFG_LOAD_ERR_CODE : Fld := ⟨5, 0x50, 8, 8, 0, 0⟩
/-- CFG_ERR_FRAME.FRAME, RO. -/
def Reg.CFG_ERR_FRAME_FRAME : Fld := ⟨5, 0x54, 0, 32, 0, 0⟩
/-- CFG_ERR_TARGET.TARGET, RO. -/
def Reg.CFG_ERR_TARGET_TARGET : Fld := ⟨5, 0x58, 0, 32, 0, 0⟩
/-- CFG_PERS_ID.ID, RO. -/
def Reg.CFG_PERS_ID_ID : Fld := ⟨5, 0x5c, 0, 32, 0, 0⟩
/-- CFG_LOADED.LOADED, RO. -/
def Reg.CFG_LOADED_LOADED : Fld := ⟨5, 0x60, 0, 25, 0, 0⟩
/-- CFG_KEYCNT.KIB, RO. -/
def Reg.CFG_KEYCNT_KIB : Fld := ⟨5, 0x64, 0, 17, 0, 0⟩
/-- CFG_BKEY.KEY, WO. -/
def Reg.CFG_BKEY_KEY (k : Nat) : Fld := ⟨5, (0x80 + 4 * k), 0, 32, 0, 0⟩
/-- CFG_BKEY_CTL.PROG, WO. -/
def Reg.CFG_BKEY_CTL_PROG : Fld := ⟨5, 0xa0, 0, 1, 0, 0⟩
/-- CFG_BKEY_CTL.ZERO, WO. -/
def Reg.CFG_BKEY_CTL_ZERO : Fld := ⟨5, 0xa0, 1, 1, 0, 0⟩
/-- CFG_BKEY_CTL.PRESENT, RO. -/
def Reg.CFG_BKEY_CTL_PRESENT : Fld := ⟨5, 0xa0, 2, 1, 0, 0⟩
/-- CFG_BKEY_CTL.FUSE_PRESENT, RO. -/
def Reg.CFG_BKEY_CTL_FUSE_PRESENT : Fld := ⟨5, 0xa0, 3, 1, 0, 0⟩
/-- CFG_BKEY_CTL.ENC_ONLY, RO. -/
def Reg.CFG_BKEY_CTL_ENC_ONLY : Fld := ⟨5, 0xa0, 4, 1, 0, 0⟩
/-- CFG_BKEY_KCV.KCV, RO. -/
def Reg.CFG_BKEY_KCV_KCV : Fld := ⟨5, 0xa4, 0, 32, 0, 0⟩
/-- CFG_SCRUB.EN, RW. -/
def Reg.CFG_SCRUB_EN : Fld := ⟨5, 0xb0, 0, 1, 1, 0⟩
/-- CFG_SCRUB.NO_GOLD, RO. -/
def Reg.CFG_SCRUB_NO_GOLD : Fld := ⟨5, 0xb0, 1, 1, 0, 0⟩
/-- CFG_SCRUB.PERIOD, RW. -/
def Reg.CFG_SCRUB_PERIOD : Fld := ⟨5, 0xb0, 8, 8, 10, 0⟩
/-- CFG_SCRUB_STAT.FIXED, RC. -/
def Reg.CFG_SCRUB_STAT_FIXED : Fld := ⟨5, 0xb4, 0, 16, 0, 0⟩
/-- CFG_SCRUB_STAT.MISMATCH, RC. -/
def Reg.CFG_SCRUB_STAT_MISMATCH : Fld := ⟨5, 0xb4, 16, 16, 0, 0⟩
/-- CFG_SCRUB_LAST.ADDR, RO. -/
def Reg.CFG_SCRUB_LAST_ADDR : Fld := ⟨5, 0xb8, 0, 16, 0, 0⟩
/-- CFG_SCRUB_LAST.VALID, W1C. -/
def Reg.CFG_SCRUB_LAST_VALID : Fld := ⟨5, 0xb8, 31, 1, 0, 0⟩
/-- CFG_HELD_DISC.COUNT, RC. -/
def Reg.CFG_HELD_DISC_COUNT : Fld := ⟨5, 0xc0, 0, 32, 0, 0⟩
/-- CELL_STAT.MOUNTED, RO. -/
def Reg.CELL_STAT_MOUNTED : Fld := ⟨6, 0x40, 0, 1, 0, 0⟩
/-- CELL_STAT.WIN, RO. -/
def Reg.CELL_STAT_WIN : Fld := ⟨6, 0x40, 1, 1, 0, 0⟩
/-- CELL_STAT.BAND, RO. -/
def Reg.CELL_STAT_BAND : Fld := ⟨6, 0x40, 2, 3, 0, 0⟩
/-- CELL_STAT.BOOT_DEFER, RO. -/
def Reg.CELL_STAT_BOOT_DEFER : Fld := ⟨6, 0x40, 5, 1, 0, 0⟩
/-- CELL_STAT.REFR_BEHIND, RO. -/
def Reg.CELL_STAT_REFR_BEHIND : Fld := ⟨6, 0x40, 6, 1, 0, 0⟩
/-- CELL_STAT.WL_BUSY, RO. -/
def Reg.CELL_STAT_WL_BUSY : Fld := ⟨6, 0x40, 7, 1, 0, 0⟩
/-- CELL_CFG.WL_EN, RW. -/
def Reg.CELL_CFG_WL_EN : Fld := ⟨6, 0x44, 0, 1, 1, 0⟩
/-- CELL_CFG.WL_DELTA, RW. -/
def Reg.CELL_CFG_WL_DELTA : Fld := ⟨6, 0x44, 1, 4, 4, 0⟩
/-- CELL_CFG.USER_WP, RWL. -/
def Reg.CELL_CFG_USER_WP : Fld := ⟨6, 0x44, 5, 1, 0, 0⟩
/-- CELL_USER_EN.PART, RWL. -/
def Reg.CELL_USER_EN_PART : Fld := ⟨6, 0x48, 0, 25, 0, 0⟩
/-- CELL_ECC.REFR_THR, RW. -/
def Reg.CELL_ECC_REFR_THR : Fld := ⟨6, 0x4c, 0, 5, 8, 0⟩
/-- CELL_ECC.RETIRE_THR, RW. -/
def Reg.CELL_ECC_RETIRE_THR : Fld := ⟨6, 0x4c, 5, 5, 20, 0⟩
/-- CELL_ECC.CORR, RC. -/
def Reg.CELL_ECC_CORR : Fld := ⟨6, 0x4c, 16, 16, 0, 0⟩
/-- CELL_UE.PAGE, RO. -/
def Reg.CELL_UE_PAGE : Fld := ⟨6, 0x50, 0, 24, 0, 0⟩
/-- CELL_UE.VALID, W1C. -/
def Reg.CELL_UE_VALID : Fld := ⟨6, 0x50, 31, 1, 0, 0⟩
/-- CELL_TORN.PAGE, RO. -/
def Reg.CELL_TORN_PAGE : Fld := ⟨6, 0x54, 0, 24, 0, 0⟩
/-- CELL_TORN.VALID, W1C. -/
def Reg.CELL_TORN_VALID : Fld := ⟨6, 0x54, 31, 1, 0, 0⟩
/-- CELL_DEF.FACTORY, RO. -/
def Reg.CELL_DEF_FACTORY : Fld := ⟨6, 0x58, 0, 16, 0, 0⟩
/-- CELL_DEF.GROWN, RO. -/
def Reg.CELL_DEF_GROWN : Fld := ⟨6, 0x58, 16, 16, 0, 0⟩
/-- CELL_SPARE.FREE, RO. -/
def Reg.CELL_SPARE_FREE : Fld := ⟨6, 0x5c, 0, 20, 0, 0⟩
/-- CELL_SPARE_THR.LO, RW. -/
def Reg.CELL_SPARE_THR_LO : Fld := ⟨6, 0x60, 0, 16, 2800, 0⟩
/-- CELL_SPARE_THR.HI, RW. -/
def Reg.CELL_SPARE_THR_HI : Fld := ⟨6, 0x60, 16, 16, 3200, 0⟩
/-- CELL_SPARE_WM.LVL, RO. -/
def Reg.CELL_SPARE_WM_LVL : Fld := ⟨6, 0x64, 0, 1, 0, 0⟩
/-- CELL_SPARE_WM.UP, W1C. -/
def Reg.CELL_SPARE_WM_UP : Fld := ⟨6, 0x64, 1, 1, 0, 0⟩
/-- CELL_SPARE_WM.DN, W1C. -/
def Reg.CELL_SPARE_WM_DN : Fld := ⟨6, 0x64, 2, 1, 0, 0⟩
/-- CELL_SPARE_WM.DN_EN, RW. -/
def Reg.CELL_SPARE_WM_DN_EN : Fld := ⟨6, 0x64, 3, 1, 0, 0⟩
/-- CELL_SPARE_WM.CROSS, RC. -/
def Reg.CELL_SPARE_WM_CROSS : Fld := ⟨6, 0x64, 8, 8, 0, 0⟩
/-- CELL_WEAR.MAX, RO. -/
def Reg.CELL_WEAR_MAX : Fld := ⟨6, 0x68, 0, 16, 0, 0⟩
/-- CELL_WEAR.MEAN, RO. -/
def Reg.CELL_WEAR_MEAN : Fld := ⟨6, 0x68, 16, 16, 0, 0⟩
/-- CELL_WEAR_THR.LO, RW. -/
def Reg.CELL_WEAR_THR_LO : Fld := ⟨6, 0x6c, 0, 16, 750, 0⟩
/-- CELL_WEAR_THR.HI, RW. -/
def Reg.CELL_WEAR_THR_HI : Fld := ⟨6, 0x6c, 16, 16, 800, 0⟩
/-- CELL_WEAR_WM.LVL, RO. -/
def Reg.CELL_WEAR_WM_LVL : Fld := ⟨6, 0x70, 0, 1, 0, 0⟩
/-- CELL_WEAR_WM.UP, W1C. -/
def Reg.CELL_WEAR_WM_UP : Fld := ⟨6, 0x70, 1, 1, 0, 0⟩
/-- CELL_WEAR_WM.DN, W1C. -/
def Reg.CELL_WEAR_WM_DN : Fld := ⟨6, 0x70, 2, 1, 0, 0⟩
/-- CELL_WEAR_WM.DN_EN, RW. -/
def Reg.CELL_WEAR_WM_DN_EN : Fld := ⟨6, 0x70, 3, 1, 0, 0⟩
/-- CELL_WEAR_WM.CROSS, RC. -/
def Reg.CELL_WEAR_WM_CROSS : Fld := ⟨6, 0x70, 8, 8, 0, 0⟩
/-- CELL_CNT.TEMP_REF, RC. -/
def Reg.CELL_CNT_TEMP_REF : Fld := ⟨6, 0x74, 0, 16, 0, 0⟩
/-- CELL_CNT.TORN, RC. -/
def Reg.CELL_CNT_TORN : Fld := ⟨6, 0x74, 16, 16, 0, 0⟩
/-- CELL_REFR.EXTENT, RO. -/
def Reg.CELL_REFR_EXTENT : Fld := ⟨6, 0x78, 0, 16, 0, 0⟩
/-- CELL_REFR.DEFER, RO. -/
def Reg.CELL_REFR_DEFER : Fld := ⟨6, 0x78, 16, 11, 0, 0⟩
/-- CELL_CKPT.SKIP, RO. -/
def Reg.CELL_CKPT_SKIP : Fld := ⟨6, 0x7c, 0, 17, 0, 0⟩
/-- CELL_BOOT.COUNT, RO. -/
def Reg.CELL_BOOT_COUNT : Fld := ⟨6, 0x80, 0, 32, 0, 0⟩
/-- TWIN_CFG.SILENCE, RWL. -/
def Reg.TWIN_CFG_SILENCE : Fld := ⟨7, 0x40, 0, 14, 100, 0⟩
/-- TWIN_CFG.SWEEP, RW. -/
def Reg.TWIN_CFG_SWEEP : Fld := ⟨7, 0x40, 14, 16, 1000, 0⟩
/-- TWIN_STAT.ROLE, RO. -/
def Reg.TWIN_STAT_ROLE : Fld := ⟨7, 0x44, 0, 2, 0, 0⟩
/-- TWIN_STAT.STATE, RO. -/
def Reg.TWIN_STAT_STATE : Fld := ⟨7, 0x44, 2, 4, 0, 0⟩
/-- TWIN_STAT.PAIRED, RO. -/
def Reg.TWIN_STAT_PAIRED : Fld := ⟨7, 0x44, 6, 1, 0, 0⟩
/-- TWIN_STAT.PROTECTED, RO. -/
def Reg.TWIN_STAT_PROTECTED : Fld := ⟨7, 0x44, 7, 1, 0, 0⟩
/-- TWIN_STAT.LINK_UP, RO. -/
def Reg.TWIN_STAT_LINK_UP : Fld := ⟨7, 0x44, 8, 1, 0, 0⟩
/-- TWIN_STAT.CLASH, W1C. -/
def Reg.TWIN_STAT_CLASH : Fld := ⟨7, 0x44, 9, 1, 0, 0⟩
/-- TWIN_EPOCH_S.EPOCH, RO. -/
def Reg.TWIN_EPOCH_S_EPOCH : Fld := ⟨7, 0x48, 0, 32, 0, 0⟩
/-- TWIN_EPOCH_C.EPOCH, RO. -/
def Reg.TWIN_EPOCH_C_EPOCH : Fld := ⟨7, 0x4c, 0, 32, 0, 0⟩
/-- TWIN_PROM.COUNT, RO. -/
def Reg.TWIN_PROM_COUNT : Fld := ⟨7, 0x50, 0, 8, 0, 0⟩
/-- TWIN_PROM.CAUSE, RO. -/
def Reg.TWIN_PROM_CAUSE : Fld := ⟨7, 0x50, 8, 2, 0, 0⟩
/-- TWIN_PROM.US, RO. -/
def Reg.TWIN_PROM_US : Fld := ⟨7, 0x50, 10, 22, 0, 0⟩
/-- TWIN_CNT.TORN, RC. -/
def Reg.TWIN_CNT_TORN : Fld := ⟨7, 0x54, 0, 12, 0, 0⟩
/-- TWIN_CNT.RESEND, RC. -/
def Reg.TWIN_CNT_RESEND : Fld := ⟨7, 0x54, 12, 12, 0, 0⟩
/-- TWIN_CNT.BAD, RC. -/
def Reg.TWIN_CNT_BAD : Fld := ⟨7, 0x54, 24, 8, 0, 0⟩
/-- QOS_CFG.TC0_RSV, RWL. -/
def Reg.QOS_CFG_TC0_RSV : Fld := ⟨8, 0x40, 0, 7, 64, 0⟩
/-- QOS_CFG.RELAY_SHARE, RWL. -/
def Reg.QOS_CFG_RELAY_SHARE : Fld := ⟨8, 0x40, 8, 11, 256, 0⟩
/-- QOS_CFG.RELAY_PRIO, RW. -/
def Reg.QOS_CFG_RELAY_PRIO : Fld := ⟨8, 0x40, 19, 4, 4, 0⟩
/-- QOS_CNT.TC0_OVER, RC. -/
def Reg.QOS_CNT_TC0_OVER : Fld := ⟨8, 0x44, 0, 16, 0, 0⟩
/-- QOS_CNT.DEMOTE, RC. -/
def Reg.QOS_CNT_DEMOTE : Fld := ⟨8, 0x44, 16, 16, 0, 0⟩
/-- QOS_TGT.TARGET, RW. -/
def Reg.QOS_TGT_TARGET (k : Nat) : Fld := ⟨8, (0x60 + 4 * k), 0, 16, 0, 0⟩
/-- QOS_MISS0.KIND, RO. -/
def Reg.QOS_MISS0_KIND : Fld := ⟨8, 0x80, 0, 2, 0, 0⟩
/-- QOS_MISS0.MASTER, RO. -/
def Reg.QOS_MISS0_MASTER : Fld := ⟨8, 0x80, 2, 5, 0, 0⟩
/-- QOS_MISS0.TC, RO. -/
def Reg.QOS_MISS0_TC : Fld := ⟨8, 0x80, 7, 3, 0, 0⟩
/-- QOS_MISS0.POINT, RO. -/
def Reg.QOS_MISS0_POINT : Fld := ⟨8, 0x80, 10, 5, 0, 0⟩
/-- QOS_MISS0.CAUSE, RO. -/
def Reg.QOS_MISS0_CAUSE : Fld := ⟨8, 0x80, 15, 2, 0, 0⟩
/-- QOS_MISS0.VALID, W1C. -/
def Reg.QOS_MISS0_VALID : Fld := ⟨8, 0x80, 31, 1, 0, 0⟩
/-- QOS_MISS1.VALUE, RO. -/
def Reg.QOS_MISS1_VALUE : Fld := ⟨8, 0x84, 0, 16, 0, 0⟩
/-- QOS_MISS2.FTIME, RO. -/
def Reg.QOS_MISS2_FTIME : Fld := ⟨8, 0x88, 0, 32, 0, 0⟩
/-- QOS_MISS_CNT.SHARE, RC. -/
def Reg.QOS_MISS_CNT_SHARE : Fld := ⟨8, 0x8c, 0, 16, 0, 0⟩
/-- QOS_MISS_CNT.TARGET, RC. -/
def Reg.QOS_MISS_CNT_TARGET : Fld := ⟨8, 0x8c, 16, 16, 0, 0⟩
/-- QOS_MISS_MST.MST, W1C. -/
def Reg.QOS_MISS_MST_MST : Fld := ⟨8, 0x90, 0, 29, 0, 0⟩
/-- QOS_TOK_SEL.POINT, RW. -/
def Reg.QOS_TOK_SEL_POINT : Fld := ⟨8, 0x94, 0, 5, 0, 0⟩
/-- QOS_TOK.BUCKETS, RO. -/
def Reg.QOS_TOK_BUCKETS : Fld := ⟨8, 0x98, 0, 11, 0, 0⟩
/-- QOS_TOK.POOL, RO. -/
def Reg.QOS_TOK_POOL : Fld := ⟨8, 0x98, 11, 11, 0, 0⟩
/-- QOS_TOK2.RECON, RO. -/
def Reg.QOS_TOK2_RECON : Fld := ⟨8, 0x9c, 0, 11, 0, 0⟩
/-- QOS_TOK2.POINT, RO. -/
def Reg.QOS_TOK2_POINT : Fld := ⟨8, 0x9c, 11, 5, 0, 0⟩
/-- QOS_TOK2.INFLIGHT, RO. -/
def Reg.QOS_TOK2_INFLIGHT : Fld := ⟨8, 0x9c, 16, 11, 0, 0⟩
/-- QOS_TOK2.RECON_V, W1C. -/
def Reg.QOS_TOK2_RECON_V : Fld := ⟨8, 0x9c, 31, 1, 0, 0⟩
/-- QOS_MST.SHARE, RWL. -/
def Reg.QOS_MST_SHARE (k : Nat) : Fld := ⟨8, (0x100 + 4 * k), 0, 11, 0, 0⟩
/-- QOS_MST.PRIO, RW. -/
def Reg.QOS_MST_PRIO (k : Nat) : Fld := ⟨8, (0x100 + 4 * k), 11, 4, 4, 0⟩
/-- QOS_MST.URG_PRIO, RW. -/
def Reg.QOS_MST_URG_PRIO (k : Nat) : Fld := ⟨8, (0x100 + 4 * k), 15, 4, (if k < 24 then 12 else 0), 0⟩
/-- QOS_MST.URG_EN, RW. -/
def Reg.QOS_MST_URG_EN (k : Nat) : Fld := ⟨8, (0x100 + 4 * k), 19, 1, (if k < 24 then 1 else 0), 0⟩
/-- QOS_MST.TC_DEF, RW. -/
def Reg.QOS_MST_TC_DEF (k : Nat) : Fld := ⟨8, (0x100 + 4 * k), 20, 3, (if k < 24 then 7 else if k = 24 then 4 else if k = 25 then 2 else if k = 26 then 1 else 6), 0⟩
/-- QOS_MST.FORCE, RW. -/
def Reg.QOS_MST_FORCE (k : Nat) : Fld := ⟨8, (0x100 + 4 * k), 23, 1, 0, 0⟩
/-- QOS_MST.TC0_EN, RW. -/
def Reg.QOS_MST_TC0_EN (k : Nat) : Fld := ⟨8, (0x100 + 4 * k), 24, 1, (if k < 24 then 1 else if k = 26 then 1 else 0), 0⟩
/-- STRM_CFG.WIN, RW. -/
def Reg.STRM_CFG_WIN : Fld := ⟨9, 0x40, 0, 13, 4096, 0⟩
/-- STRM_CFG.ROB_EN, RW. -/
def Reg.STRM_CFG_ROB_EN : Fld := ⟨9, 0x40, 13, 1, 1, 0⟩
/-- STRM_CFG.REPLAY_LIM, RW. -/
def Reg.STRM_CFG_REPLAY_LIM : Fld := ⟨9, 0x40, 16, 8, 32, 0⟩
/-- STRM_SEL.SID, RW. -/
def Reg.STRM_SEL_SID : Fld := ⟨9, 0x44, 0, 21, 0, 0⟩
/-- STRM_SEL.CHAN, RW. -/
def Reg.STRM_SEL_CHAN : Fld := ⟨9, 0x44, 24, 1, 0, 0⟩
/-- STRM_SEL.CDIR, RW. -/
def Reg.STRM_SEL_CDIR : Fld := ⟨9, 0x44, 25, 1, 0, 0⟩
/-- STRM_CTX0.STATE, RO. -/
def Reg.STRM_CTX0_STATE : Fld := ⟨9, 0x48, 0, 3, 0, 0⟩
/-- STRM_CTX0.DIR, RO. -/
def Reg.STRM_CTX0_DIR : Fld := ⟨9, 0x48, 3, 1, 0, 0⟩
/-- STRM_CTX0.SEL, RO. -/
def Reg.STRM_CTX0_SEL : Fld := ⟨9, 0x48, 4, 1, 0, 0⟩
/-- STRM_CTX0.BRYNN, RO. -/
def Reg.STRM_CTX0_BRYNN : Fld := ⟨9, 0x48, 5, 1, 0, 0⟩
/-- STRM_CTX0.TC, RO. -/
def Reg.STRM_CTX0_TC : Fld := ⟨9, 0x48, 6, 3, 0, 0⟩
/-- STRM_CTX0.CAUSE, RO. -/
def Reg.STRM_CTX0_CAUSE : Fld := ⟨9, 0x48, 9, 1, 0, 0⟩
/-- STRM_CTX0.GEN, RO. -/
def Reg.STRM_CTX0_GEN : Fld := ⟨9, 0x48, 10, 8, 0, 0⟩
/-- STRM_CTX0.PEER_NODE, RO. -/
def Reg.STRM_CTX0_PEER_NODE : Fld := ⟨9, 0x48, 18, 10, 0, 0⟩
/-- STRM_CTX1.PEER_SID, RO. -/
def Reg.STRM_CTX1_PEER_SID : Fld := ⟨9, 0x4c, 0, 21, 0, 0⟩
/-- STRM_CTX2.SEQ, RO. -/
def Reg.STRM_CTX2_SEQ : Fld := ⟨9, 0x50, 0, 24, 0, 0⟩
/-- STRM_CTX3.ACKED, RO. -/
def Reg.STRM_CTX3_ACKED : Fld := ⟨9, 0x54, 0, 24, 0, 0⟩
/-- STRM_CTX4.UNACK, RO. -/
def Reg.STRM_CTX4_UNACK : Fld := ⟨9, 0x58, 0, 13, 0, 0⟩
/-- STRM_CTX4.REPLAYS, RO. -/
def Reg.STRM_CTX4_REPLAYS : Fld := ⟨9, 0x58, 16, 16, 0, 0⟩
/-- STRM_CMD.OP, WO. -/
def Reg.STRM_CMD_OP : Fld := ⟨9, 0x5c, 0, 2, 0, 0⟩
/-- STRM_CNT_ACKBAD.COUNT, RC. -/
def Reg.STRM_CNT_ACKBAD_COUNT : Fld := ⟨9, 0x60, 0, 32, 0, 0⟩
/-- STRM_CNT_DUP.COUNT, RC. -/
def Reg.STRM_CNT_DUP_COUNT : Fld := ⟨9, 0x64, 0, 32, 0, 0⟩
/-- STRM_CNT_NOSTR.COUNT, RC. -/
def Reg.STRM_CNT_NOSTR_COUNT : Fld := ⟨9, 0x68, 0, 32, 0, 0⟩
/-- STRM_CNT_ROB.COUNT, RC. -/
def Reg.STRM_CNT_ROB_COUNT : Fld := ⟨9, 0x6c, 0, 32, 0, 0⟩
/-- STRM_CNT_REPLAY.COUNT, RC. -/
def Reg.STRM_CNT_REPLAY_COUNT : Fld := ⟨9, 0x70, 0, 32, 0, 0⟩
/-- STRM_CNT_CTX.COUNT, RC. -/
def Reg.STRM_CNT_CTX_COUNT : Fld := ⟨9, 0x74, 0, 32, 0, 0⟩
/-- STRM_HOLD_WIN.COUNT, RC. -/
def Reg.STRM_HOLD_WIN_COUNT : Fld := ⟨9, 0x78, 0, 32, 0, 0⟩
/-- STRM_HOLD_TAG.COUNT, RC. -/
def Reg.STRM_HOLD_TAG_COUNT : Fld := ⟨9, 0x7c, 0, 32, 0, 0⟩
/-- STRM_HOLD_WRAP.COUNT, RC. -/
def Reg.STRM_HOLD_WRAP_COUNT : Fld := ⟨9, 0x80, 0, 32, 0, 0⟩
/-- STRM_OPEN.USED, RO. -/
def Reg.STRM_OPEN_USED : Fld := ⟨9, 0x90, 0, 22, 0, 0⟩
/-- STRM_TAGS.OUT, RO. -/
def Reg.STRM_TAGS_OUT : Fld := ⟨9, 0x94, 0, 21, 0, 0⟩
/-- STRM_ROB.BLK, RO. -/
def Reg.STRM_ROB_BLK : Fld := ⟨9, 0x98, 0, 19, 0, 0⟩
/-- STRM_LIM_SID.SID, RO. -/
def Reg.STRM_LIM_SID_SID : Fld := ⟨9, 0x9c, 0, 21, 0, 0⟩
/-- STRM_LIM_SID.VALID, W1C. -/
def Reg.STRM_LIM_SID_VALID : Fld := ⟨9, 0x9c, 31, 1, 0, 0⟩
/-- STRM_TAG_THR.LO, RW. -/
def Reg.STRM_TAG_THR_LO : Fld := ⟨9, 0xa0, 0, 16, 49152, 0⟩
/-- STRM_TAG_THR.HI, RW. -/
def Reg.STRM_TAG_THR_HI : Fld := ⟨9, 0xa0, 16, 16, 61440, 0⟩
/-- STRM_TAG_WM.LVL, RO. -/
def Reg.STRM_TAG_WM_LVL : Fld := ⟨9, 0xa4, 0, 1, 0, 0⟩
/-- STRM_TAG_WM.UP, W1C. -/
def Reg.STRM_TAG_WM_UP : Fld := ⟨9, 0xa4, 1, 1, 0, 0⟩
/-- STRM_TAG_WM.DN, W1C. -/
def Reg.STRM_TAG_WM_DN : Fld := ⟨9, 0xa4, 2, 1, 0, 0⟩
/-- STRM_TAG_WM.DN_EN, RW. -/
def Reg.STRM_TAG_WM_DN_EN : Fld := ⟨9, 0xa4, 3, 1, 0, 0⟩
/-- STRM_TAG_WM.CROSS, RC. -/
def Reg.STRM_TAG_WM_CROSS : Fld := ⟨9, 0xa4, 8, 8, 0, 0⟩
/-- ROUTE_NODE.NODE, RWL. -/
def Reg.ROUTE_NODE_NODE : Fld := ⟨10, 0x40, 0, 10, 0, 0⟩
/-- ROUTE_NODE.DOMAIN, RWL. -/
def Reg.ROUTE_NODE_DOMAIN : Fld := ⟨10, 0x40, 10, 16, 0, 0⟩
/-- ROUTE_NODE.VALID, RWL. -/
def Reg.ROUTE_NODE_VALID : Fld := ⟨10, 0x40, 26, 1, 0, 0⟩
/-- ROUTE_CFG.HOP, RW. -/
def Reg.ROUTE_CFG_HOP : Fld := ⟨10, 0x44, 0, 4, 15, 0⟩
/-- ROUTE_BANK.ACTIVE, RO. -/
def Reg.ROUTE_BANK_ACTIVE : Fld := ⟨10, 0x48, 0, 1, 0, 0⟩
/-- ROUTE_BANK.SWAP, WO. -/
def Reg.ROUTE_BANK_SWAP : Fld := ⟨10, 0x48, 1, 1, 0, 0⟩
/-- ROUTE_SEL.ENTRY, RW. -/
def Reg.ROUTE_SEL_ENTRY : Fld := ⟨10, 0x4c, 0, 10, 0, 0⟩
/-- ROUTE_SEL.BANK, RW. -/
def Reg.ROUTE_SEL_BANK : Fld := ⟨10, 0x4c, 10, 1, 0, 0⟩
/-- ROUTE_DATA.PORT0, RW. -/
def Reg.ROUTE_DATA_PORT0 : Fld := ⟨10, 0x50, 0, 4, 0, 0⟩
/-- ROUTE_DATA.VALID0, RW. -/
def Reg.ROUTE_DATA_VALID0 : Fld := ⟨10, 0x50, 4, 1, 0, 0⟩
/-- ROUTE_DATA.DATELINE0, RW. -/
def Reg.ROUTE_DATA_DATELINE0 : Fld := ⟨10, 0x50, 5, 1, 0, 0⟩
/-- ROUTE_DATA.PORT1, RW. -/
def Reg.ROUTE_DATA_PORT1 : Fld := ⟨10, 0x50, 6, 4, 0, 0⟩
/-- ROUTE_DATA.VALID1, RW. -/
def Reg.ROUTE_DATA_VALID1 : Fld := ⟨10, 0x50, 10, 1, 0, 0⟩
/-- ROUTE_DATA.DATELINE1, RW. -/
def Reg.ROUTE_DATA_DATELINE1 : Fld := ⟨10, 0x50, 11, 1, 0, 0⟩
/-- ROUTE_DATA.PORT2, RW. -/
def Reg.ROUTE_DATA_PORT2 : Fld := ⟨10, 0x50, 12, 4, 0, 0⟩
/-- ROUTE_DATA.VALID2, RW. -/
def Reg.ROUTE_DATA_VALID2 : Fld := ⟨10, 0x50, 16, 1, 0, 0⟩
/-- ROUTE_DATA.DATELINE2, RW. -/
def Reg.ROUTE_DATA_DATELINE2 : Fld := ⟨10, 0x50, 17, 1, 0, 0⟩
/-- ROUTE_DATA.PORT3, RW. -/
def Reg.ROUTE_DATA_PORT3 : Fld := ⟨10, 0x50, 18, 4, 0, 0⟩
/-- ROUTE_DATA.VALID3, RW. -/
def Reg.ROUTE_DATA_VALID3 : Fld := ⟨10, 0x50, 22, 1, 0, 0⟩
/-- ROUTE_DATA.DATELINE3, RW. -/
def Reg.ROUTE_DATA_DATELINE3 : Fld := ⟨10, 0x50, 23, 1, 0, 0⟩
/-- ROUTE_DATA.POLICY, RW. -/
def Reg.ROUTE_DATA_POLICY : Fld := ⟨10, 0x50, 24, 1, 0, 0⟩
/-- ROUTE_DATA.FENCE, RW. -/
def Reg.ROUTE_DATA_FENCE : Fld := ⟨10, 0x50, 25, 1, 0, 0⟩
/-- ROUTE_DATA.BRYNN_PATH, RW. -/
def Reg.ROUTE_DATA_BRYNN_PATH : Fld := ⟨10, 0x50, 26, 1, 0, 0⟩
/-- ROUTE_NOROUTE.COUNT, RC. -/
def Reg.ROUTE_NOROUTE_COUNT : Fld := ⟨10, 0x54, 0, 16, 0, 0⟩
/-- ROUTE_NOROUTE.NODE, RO. -/
def Reg.ROUTE_NOROUTE_NODE : Fld := ⟨10, 0x54, 16, 10, 0, 0⟩
/-- ROUTE_NOROUTE.AT_RELAY, RO. -/
def Reg.ROUTE_NOROUTE_AT_RELAY : Fld := ⟨10, 0x54, 26, 1, 0, 0⟩
/-- ROUTE_DISC.HOP_EXPIRED, RC. -/
def Reg.ROUTE_DISC_HOP_EXPIRED : Fld := ⟨10, 0x58, 0, 16, 0, 0⟩
/-- ROUTE_DISC.BRYNN, RC. -/
def Reg.ROUTE_DISC_BRYNN : Fld := ⟨10, 0x58, 16, 16, 0, 0⟩
/-- ROUTE_FENCED.DISC, RC. -/
def Reg.ROUTE_FENCED_DISC : Fld := ⟨10, 0x5c, 0, 32, 0, 0⟩
/-- TIME_NOW_LO.NS, RO. -/
def Reg.TIME_NOW_LO_NS : Fld := ⟨11, 0x40, 0, 32, 0, 0⟩
/-- TIME_NOW_HI.NS, RO. -/
def Reg.TIME_NOW_HI_NS : Fld := ⟨11, 0x44, 0, 32, 0, 0⟩
/-- TIME_CTL.EXCH, RW. -/
def Reg.TIME_CTL_EXCH : Fld := ⟨11, 0x48, 0, 10, 100, 0⟩
/-- TIME_CTL.SRC, RO. -/
def Reg.TIME_CTL_SRC : Fld := ⟨11, 0x48, 10, 1, 0, 0⟩
/-- TIME_STAT.SYNC, RO. -/
def Reg.TIME_STAT_SYNC : Fld := ⟨11, 0x4c, 0, 1, 0, 0⟩
/-- TIME_STAT.DIST, RO. -/
def Reg.TIME_STAT_DIST : Fld := ⟨11, 0x4c, 1, 6, 63, 0⟩
/-- TIME_STAT.PARENT, RO. -/
def Reg.TIME_STAT_PARENT : Fld := ⟨11, 0x4c, 7, 4, 0, 0⟩
/-- TIME_OFS.NS, RO. -/
def Reg.TIME_OFS_NS : Fld := ⟨11, 0x50, 0, 32, 0, 0⟩
/-- COMB_CTL.AUTO_SW, RW. -/
def Reg.COMB_CTL_AUTO_SW : Fld := ⟨12, 0x40, 0, 1, 1, 0⟩
/-- COMB_CTL.SPARE_HOT, RW. -/
def Reg.COMB_CTL_SPARE_HOT : Fld := ⟨12, 0x40, 1, 1, 1, 0⟩
/-- COMB_CTL.FAULT_SW, RW. -/
def Reg.COMB_CTL_FAULT_SW : Fld := ⟨12, 0x40, 2, 1, 1, 0⟩
/-- COMB_STAT.LIT, RO. -/
def Reg.COMB_STAT_LIT : Fld := ⟨12, 0x44, 0, 5, 0, 0⟩
/-- COMB_STAT.LOL, W1C. -/
def Reg.COMB_STAT_LOL : Fld := ⟨12, 0x44, 5, 5, 0, 0⟩
/-- COMB_STAT.FAILED, W1C. -/
def Reg.COMB_STAT_FAILED : Fld := ⟨12, 0x44, 10, 5, 0, 0⟩
/-- COMB_STAT.SW_ACTIVE, RO. -/
def Reg.COMB_STAT_SW_ACTIVE : Fld := ⟨12, 0x44, 15, 1, 0, 0⟩
/-- COMB_STAT.SW_QUAD, RO. -/
def Reg.COMB_STAT_SW_QUAD : Fld := ⟨12, 0x44, 16, 2, 0, 0⟩
/-- COMB_LOL_THR.DROP, RW. -/
def Reg.COMB_LOL_THR_DROP : Fld := ⟨12, 0x48, 0, 5, 12, 0⟩
/-- COMB_PWR.IN, RO. -/
def Reg.COMB_PWR_IN (k : Nat) : Fld := ⟨12, (0x50 + 4 * k), 0, 16, 0, 0⟩
/-- COMB_PWR.REF, RO. -/
def Reg.COMB_PWR_REF (k : Nat) : Fld := ⟨12, (0x50 + 4 * k), 16, 16, 0, 0⟩
/-- COMB_ECS_REQ.MOD, RW. -/
def Reg.COMB_ECS_REQ_MOD : Fld := ⟨12, 0x70, 0, 3, 0, 0⟩
/-- COMB_ECS_REQ.WR, RW. -/
def Reg.COMB_ECS_REQ_WR : Fld := ⟨12, 0x70, 3, 1, 0, 0⟩
/-- COMB_ECS_REQ.ADDR, RW. -/
def Reg.COMB_ECS_REQ_ADDR : Fld := ⟨12, 0x70, 4, 8, 0, 0⟩
/-- COMB_ECS_REQ.DATA, RW. -/
def Reg.COMB_ECS_REQ_DATA : Fld := ⟨12, 0x70, 12, 16, 0, 0⟩
/-- COMB_ECS_REQ.GO, W1S. -/
def Reg.COMB_ECS_REQ_GO : Fld := ⟨12, 0x70, 31, 1, 0, 0⟩
/-- COMB_ECS_RSP.STATUS, RO. -/
def Reg.COMB_ECS_RSP_STATUS : Fld := ⟨12, 0x74, 0, 8, 0, 0⟩
/-- COMB_ECS_RSP.RDATA, RO. -/
def Reg.COMB_ECS_RSP_RDATA : Fld := ⟨12, 0x74, 8, 16, 0, 0⟩
/-- COMB_ECS_RSP.DONE, W1C. -/
def Reg.COMB_ECS_RSP_DONE : Fld := ⟨12, 0x74, 24, 1, 0, 0⟩
/-- COMB_ECS_RSP.FAIL, RO. -/
def Reg.COMB_ECS_RSP_FAIL : Fld := ⟨12, 0x74, 25, 1, 0, 0⟩
/-- COMB_ECS_CNT.RETRIES, RC. -/
def Reg.COMB_ECS_CNT_RETRIES : Fld := ⟨12, 0x78, 0, 16, 0, 0⟩
/-- COMB_ECS_CNT.FAILS, RC. -/
def Reg.COMB_ECS_CNT_FAILS : Fld := ⟨12, 0x78, 16, 16, 0, 0⟩
/-- TEG_CFG.CAL_EN, RW. -/
def Reg.TEG_CFG_CAL_EN : Fld := ⟨13, 0x40, 0, 1, 1, 0⟩
/-- TEG_CAL.INTERVAL, RW. -/
def Reg.TEG_CAL_INTERVAL : Fld := ⟨13, 0x44, 0, 10, 20, 0⟩
/-- TEG_CAL.OUT, RO. -/
def Reg.TEG_CAL_OUT : Fld := ⟨13, 0x44, 10, 5, 31, 0⟩
/-- TEG_CAL.MEAS_DONE, RO. -/
def Reg.TEG_CAL_MEAS_DONE : Fld := ⟨13, 0x44, 15, 1, 0, 0⟩
/-- TEG_CAL.NEXT, RO. -/
def Reg.TEG_CAL_NEXT : Fld := ⟨13, 0x44, 16, 5, 0, 0⟩
/-- TEG_STAT.READY, RO. -/
def Reg.TEG_STAT_READY : Fld := ⟨13, 0x48, 0, 1, 0, 0⟩
/-- TEG_STAT.WORKING, RO. -/
def Reg.TEG_STAT_WORKING : Fld := ⟨13, 0x48, 1, 6, 0, 0⟩
/-- TEG_STAT.FREE_SLOTS, RO. -/
def Reg.TEG_STAT_FREE_SLOTS : Fld := ⟨13, 0x48, 7, 9, 0, 0⟩
/-- TEG_STAT.HANDOVER, RO. -/
def Reg.TEG_STAT_HANDOVER : Fld := ⟨13, 0x48, 16, 1, 0, 0⟩
/-- TEG_FAIL.TILE, W1C. -/
def Reg.TEG_FAIL_TILE : Fld := ⟨13, 0x4c, 0, 32, 0, 0⟩
/-- TEG_SET_SEL.SETID, RW. -/
def Reg.TEG_SET_SEL_SETID : Fld := ⟨13, 0x50, 0, 16, 0, 0⟩
/-- TEG_SET_LOC.TILES, RO. -/
def Reg.TEG_SET_LOC_TILES : Fld := ⟨13, 0x54, 0, 32, 0, 0⟩
/-- TEG_CNT_SAT.COUNT, RC. -/
def Reg.TEG_CNT_SAT_COUNT : Fld := ⟨13, 0x58, 0, 32, 0, 0⟩
/-- TEG_CNT_CLIP.COUNT, RC. -/
def Reg.TEG_CNT_CLIP_COUNT : Fld := ⟨13, 0x5c, 0, 32, 0, 0⟩
/-- TEG_CNT_NAN.COUNT, RC. -/
def Reg.TEG_CNT_NAN_COUNT : Fld := ⟨13, 0x60, 0, 32, 0, 0⟩
/-- TEG_HOLD_Q.COUNT, RC. -/
def Reg.TEG_HOLD_Q_COUNT : Fld := ⟨13, 0x64, 0, 32, 0, 0⟩
/-- TEG_HOLD_WIN.COUNT, RC. -/
def Reg.TEG_HOLD_WIN_COUNT : Fld := ⟨13, 0x68, 0, 32, 0, 0⟩
/-- TEG_HOLD_PREC.COUNT, RC. -/
def Reg.TEG_HOLD_PREC_COUNT : Fld := ⟨13, 0x6c, 0, 32, 0, 0⟩
/-- TEG_Q_SEL.Q, RW. -/
def Reg.TEG_Q_SEL_Q : Fld := ⟨13, 0x80, 0, 6, 0, 0⟩
/-- TEG_Q_CFG.EN, RW. -/
def Reg.TEG_Q_CFG_EN (q : Nat) : Fld := ⟨13, 0x84, 0, 1, 0, q⟩
/-- TEG_Q_CFG.TC, RW. -/
def Reg.TEG_Q_CFG_TC (q : Nat) : Fld := ⟨13, 0x84, 1, 3, 4, q⟩
/-- TEG_Q_CFG.PRIO, RW. -/
def Reg.TEG_Q_CFG_PRIO (q : Nat) : Fld := ⟨13, 0x84, 4, 4, 0, q⟩
/-- TEG_Q_CFG.DST_KIND, RW. -/
def Reg.TEG_Q_CFG_DST_KIND (q : Nat) : Fld := ⟨13, 0x84, 8, 1, 0, q⟩
/-- TEG_Q_CFG.DST_PORT, RW. -/
def Reg.TEG_Q_CFG_DST_PORT (q : Nat) : Fld := ⟨13, 0x84, 9, 5, 0, q⟩
/-- TEG_Q_CFG.OUT_PAY, RW. -/
def Reg.TEG_Q_CFG_OUT_PAY (q : Nat) : Fld := ⟨13, 0x84, 14, 5, 31, q⟩
/-- TEG_Q_OWN.PORTS, RW. -/
def Reg.TEG_Q_OWN_PORTS (q : Nat) : Fld := ⟨13, 0x88, 0, 24, 0, q⟩
/-- TEG_Q_DSID.SID, RW. -/
def Reg.TEG_Q_DSID_SID (q : Nat) : Fld := ⟨13, 0x8c, 0, 21, 0, q⟩
/-- TEG_Q_DSID.VALID, RW. -/
def Reg.TEG_Q_DSID_VALID (q : Nat) : Fld := ⟨13, 0x8c, 31, 1, 0, q⟩
/-- TEG_Q_FEED0.SID, RW. -/
def Reg.TEG_Q_FEED0_SID (q : Nat) : Fld := ⟨13, 0x90, 0, 21, 0, q⟩
/-- TEG_Q_FEED0.VALID, RW. -/
def Reg.TEG_Q_FEED0_VALID (q : Nat) : Fld := ⟨13, 0x90, 31, 1, 0, q⟩
/-- TEG_Q_FEED1.SID, RW. -/
def Reg.TEG_Q_FEED1_SID (q : Nat) : Fld := ⟨13, 0x94, 0, 21, 0, q⟩
/-- TEG_Q_FEED1.VALID, RW. -/
def Reg.TEG_Q_FEED1_VALID (q : Nat) : Fld := ⟨13, 0x94, 31, 1, 0, q⟩
/-- TEG_Q_STAT.DEPTH, RO. -/
def Reg.TEG_Q_STAT_DEPTH (q : Nat) : Fld := ⟨13, 0x98, 0, 13, 0, q⟩
/-- TEG_Q_STAT.HALT, RO. -/
def Reg.TEG_Q_STAT_HALT (q : Nat) : Fld := ⟨13, 0x98, 13, 1, 0, q⟩
/-- TEG_Q_STAT.LAST_ERR, RO. -/
def Reg.TEG_Q_STAT_LAST_ERR (q : Nat) : Fld := ⟨13, 0x98, 14, 8, 0, q⟩
/-- TEG_Q_CMD.OP, WO. -/
def Reg.TEG_Q_CMD_OP (q : Nat) : Fld := ⟨13, 0x9c, 0, 2, 0, q⟩
/-- TEG_Q_THR.LO, RW. -/
def Reg.TEG_Q_THR_LO (q : Nat) : Fld := ⟨13, 0xa0, 0, 16, 2048, q⟩
/-- TEG_Q_THR.HI, RW. -/
def Reg.TEG_Q_THR_HI (q : Nat) : Fld := ⟨13, 0xa0, 16, 16, 3584, q⟩
/-- TEG_Q_WM.LVL, RO. -/
def Reg.TEG_Q_WM_LVL (q : Nat) : Fld := ⟨13, 0xa4, 0, 1, 0, q⟩
/-- TEG_Q_WM.UP, W1C. -/
def Reg.TEG_Q_WM_UP (q : Nat) : Fld := ⟨13, 0xa4, 1, 1, 0, q⟩
/-- TEG_Q_WM.DN, W1C. -/
def Reg.TEG_Q_WM_DN (q : Nat) : Fld := ⟨13, 0xa4, 2, 1, 0, q⟩
/-- TEG_Q_WM.DN_EN, RW. -/
def Reg.TEG_Q_WM_DN_EN (q : Nat) : Fld := ⟨13, 0xa4, 3, 1, 0, q⟩
/-- TEG_Q_WM.CROSS, RC. -/
def Reg.TEG_Q_WM_CROSS (q : Nat) : Fld := ⟨13, 0xa4, 8, 8, 0, q⟩
/-- TEG_AUD.RECON, RO. -/
def Reg.TEG_AUD_RECON : Fld := ⟨13, 0xa8, 0, 13, 0, 0⟩
/-- TEG_AUD.Q, RO. -/
def Reg.TEG_AUD_Q : Fld := ⟨13, 0xa8, 13, 6, 0, 0⟩
/-- TEG_AUD.V, W1C. -/
def Reg.TEG_AUD_V : Fld := ⟨13, 0xa8, 31, 1, 0, 0⟩
/-- MBOX_OWN.OWNER, RO. -/
def Reg.MBOX_OWN_OWNER : Fld := ⟨14, 0x40, 0, 2, 0, 0⟩
/-- MBOX_OWN.CLAIM, W1S. -/
def Reg.MBOX_OWN_CLAIM : Fld := ⟨14, 0x40, 8, 1, 0, 0⟩
/-- MBOX_OWN.RELEASE, WO. -/
def Reg.MBOX_OWN_RELEASE : Fld := ⟨14, 0x40, 9, 1, 0, 0⟩
/-- MBOX_CMD.OPCODE, RW. -/
def Reg.MBOX_CMD_OPCODE : Fld := ⟨14, 0x44, 0, 8, 0, 0⟩
/-- MBOX_CMD.GO, W1S. -/
def Reg.MBOX_CMD_GO : Fld := ⟨14, 0x44, 31, 1, 0, 0⟩
/-- MBOX_ST.BUSY, RO. -/
def Reg.MBOX_ST_BUSY : Fld := ⟨14, 0x48, 0, 1, 0, 0⟩
/-- MBOX_ST.DONE, W1C. -/
def Reg.MBOX_ST_DONE : Fld := ⟨14, 0x48, 1, 1, 0, 0⟩
/-- MBOX_ST.REFUSED, W1C. -/
def Reg.MBOX_ST_REFUSED : Fld := ⟨14, 0x48, 2, 1, 0, 0⟩
/-- MBOX_ST.ROM, RO. -/
def Reg.MBOX_ST_ROM : Fld := ⟨14, 0x48, 3, 1, 1, 0⟩
/-- MBOX_ST.CODE, RO. -/
def Reg.MBOX_ST_CODE : Fld := ⟨14, 0x48, 8, 8, 0, 0⟩
/-- MBOX_CTL.ABORT, W1S. -/
def Reg.MBOX_CTL_ABORT : Fld := ⟨14, 0x4c, 0, 1, 0, 0⟩
/-- MBOX_TIME.US, RO. -/
def Reg.MBOX_TIME_US : Fld := ⟨14, 0x50, 0, 32, 0, 0⟩
/-- MBOX_ACC.PAGE, RO. -/
def Reg.MBOX_ACC_PAGE : Fld := ⟨14, 0x54, 0, 8, 0, 0⟩
/-- MBOX_ACC.OFFSET, RO. -/
def Reg.MBOX_ACC_OFFSET : Fld := ⟨14, 0x54, 8, 12, 0, 0⟩
/-- MBOX_ACC.STATUS, RO. -/
def Reg.MBOX_ACC_STATUS : Fld := ⟨14, 0x54, 20, 3, 0, 0⟩
/-- MBOX_ACC.PATH, RO. -/
def Reg.MBOX_ACC_PATH : Fld := ⟨14, 0x54, 23, 2, 0, 0⟩
/-- MBOX_ACC.VALID, W1C. -/
def Reg.MBOX_ACC_VALID : Fld := ⟨14, 0x54, 31, 1, 0, 0⟩
/-- MBOX_ARG.ARG, RW. -/
def Reg.MBOX_ARG_ARG (k : Nat) : Fld := ⟨14, (0x60 + 4 * k), 0, 32, 0, 0⟩
/-- MBOX_RES.RES, RO. -/
def Reg.MBOX_RES_RES (k : Nat) : Fld := ⟨14, (0x80 + 4 * k), 0, 32, 0, 0⟩
/-- MBOX_IRQ.PEND, RO. -/
def Reg.MBOX_IRQ_PEND (k : Nat) : Fld := ⟨14, (0xa0 + 4 * k), 0, 32, 0, 0⟩
/-- MBOX_BUF.DATA, RW. -/
def Reg.MBOX_BUF_DATA (k : Nat) : Fld := ⟨14, (0x400 + 4 * k), 0, 32, 0, 0⟩
/-- HP_CFG.EN, RW. -/
def Reg.HP_CFG_EN (n : Nat) : Fld := ⟨(16 + n), 0x40, 0, 1, 1, 0⟩
/-- HP_CFG.MAX_RATE, RWL. -/
def Reg.HP_CFG_MAX_RATE (n : Nat) : Fld := ⟨(16 + n), 0x40, 1, 3, 4, 0⟩
/-- HP_CFG.L1_EN, RW. -/
def Reg.HP_CFG_L1_EN (n : Nat) : Fld := ⟨(16 + n), 0x40, 4, 1, 0, 0⟩
/-- HP_CFG.RETRY, RW. -/
def Reg.HP_CFG_RETRY (n : Nat) : Fld := ⟨(16 + n), 0x40, 5, 1, 1, 0⟩
/-- HP_STAT.STATE, RO. -/
def Reg.HP_STAT_STATE (n : Nat) : Fld := ⟨(16 + n), 0x44, 0, 4, 0, 0⟩
/-- HP_STAT.RATE, RO. -/
def Reg.HP_STAT_RATE (n : Nat) : Fld := ⟨(16 + n), 0x44, 4, 3, 0, 0⟩
/-- HP_STAT.WIDE, RO. -/
def Reg.HP_STAT_WIDE (n : Nat) : Fld := ⟨(16 + n), 0x44, 7, 1, 0, 0⟩
/-- HP_STAT.X40_FAIL, RO. -/
def Reg.HP_STAT_X40_FAIL (n : Nat) : Fld := ⟨(16 + n), 0x44, 8, 1, 0, 0⟩
/-- HP_STAT.EPOCH, RO. -/
def Reg.HP_STAT_EPOCH (n : Nat) : Fld := ⟨(16 + n), 0x44, 9, 4, 0, 0⟩
/-- HP_TRAIN.CAUSE, RO. -/
def Reg.HP_TRAIN_CAUSE (n : Nat) : Fld := ⟨(16 + n), 0x48, 0, 3, 0, 0⟩
/-- HP_TRAIN.FAIL_CNT, RC. -/
def Reg.HP_TRAIN_FAIL_CNT (n : Nat) : Fld := ⟨(16 + n), 0x48, 16, 16, 0, 0⟩
/-- HP_REPAIR.TX_CNT, RO. -/
def Reg.HP_REPAIR_TX_CNT (n : Nat) : Fld := ⟨(16 + n), 0x4c, 0, 3, 0, 0⟩
/-- HP_REPAIR.RX_CNT, RO. -/
def Reg.HP_REPAIR_RX_CNT (n : Nat) : Fld := ⟨(16 + n), 0x4c, 3, 3, 0, 0⟩
/-- HP_REPAIR.LAST_LANE, RO. -/
def Reg.HP_REPAIR_LAST_LANE (n : Nat) : Fld := ⟨(16 + n), 0x4c, 6, 6, 0, 0⟩
/-- HP_REPAIR.LAST_DIR, RO. -/
def Reg.HP_REPAIR_LAST_DIR (n : Nat) : Fld := ⟨(16 + n), 0x4c, 12, 1, 0, 0⟩
/-- HP_WIDE.RATE, RW. -/
def Reg.HP_WIDE_RATE (n : Nat) : Fld := ⟨(16 + n), 0x50, 0, 2, 3, 0⟩
/-- HP_WIDE.FAIL_CNT, RO. -/
def Reg.HP_WIDE_FAIL_CNT (n : Nat) : Fld := ⟨(16 + n), 0x50, 8, 9, 0, 0⟩
/-- HP_WIDE.FIRST, RO. -/
def Reg.HP_WIDE_FIRST (n : Nat) : Fld := ⟨(16 + n), 0x50, 17, 8, 0, 0⟩
/-- HP_SB.VID, RO. -/
def Reg.HP_SB_VID (n : Nat) : Fld := ⟨(16 + n), 0x54, 0, 16, 12139, 0⟩
/-- HP_SB.UNK, RC. -/
def Reg.HP_SB_UNK (n : Nat) : Fld := ⟨(16 + n), 0x54, 16, 16, 0, 0⟩
/-- HP_URG.STUCK_LIM, RW. -/
def Reg.HP_URG_STUCK_LIM (n : Nat) : Fld := ⟨(16 + n), 0x60, 0, 20, 1000, 0⟩
/-- HP_URG.LVL, RO. -/
def Reg.HP_URG_LVL (n : Nat) : Fld := ⟨(16 + n), 0x60, 24, 1, 0, 0⟩
/-- HP_URG.MASK, W1C. -/
def Reg.HP_URG_MASK (n : Nat) : Fld := ⟨(16 + n), 0x60, 25, 1, 0, 0⟩
/-- HP_URG.STUCK, RO. -/
def Reg.HP_URG_STUCK (n : Nat) : Fld := ⟨(16 + n), 0x60, 26, 1, 0, 0⟩
/-- HP_URG_CNT.STUCK, RC. -/
def Reg.HP_URG_CNT_STUCK (n : Nat) : Fld := ⟨(16 + n), 0x64, 0, 16, 0, 0⟩
/-- HP_URG_CNT.STORM, RC. -/
def Reg.HP_URG_CNT_STORM (n : Nat) : Fld := ⟨(16 + n), 0x64, 16, 16, 0, 0⟩
/-- HP_HINT.EN, RW. -/
def Reg.HP_HINT_EN (n : Nat) : Fld := ⟨(16 + n), 0x68, 0, 1, 1, 0⟩
/-- HP_HINT.UNIT, RW. -/
def Reg.HP_HINT_UNIT (n : Nat) : Fld := ⟨(16 + n), 0x68, 1, 3, 2, 0⟩
/-- HP_HINT.DROP, RC. -/
def Reg.HP_HINT_DROP (n : Nat) : Fld := ⟨(16 + n), 0x68, 16, 16, 0, 0⟩
/-- HP_HINT_LAST.MSG, RO. -/
def Reg.HP_HINT_LAST_MSG (n : Nat) : Fld := ⟨(16 + n), 0x6c, 0, 20, 0, 0⟩
/-- HP_HINT_LAST.PEND, RO. -/
def Reg.HP_HINT_LAST_PEND (n : Nat) : Fld := ⟨(16 + n), 0x6c, 20, 3, 0, 0⟩
/-- HP_CR_ING.OCC, RO. -/
def Reg.HP_CR_ING_OCC (n : Nat) : Fld := ⟨(16 + n), 0x70, 0, 16, 0, 0⟩
/-- HP_CR_ING.GRANTED, RO. -/
def Reg.HP_CR_ING_GRANTED (n : Nat) : Fld := ⟨(16 + n), 0x70, 16, 16, 0, 0⟩
/-- HP_CR_AUDIT.RECON, RO. -/
def Reg.HP_CR_AUDIT_RECON (n : Nat) : Fld := ⟨(16 + n), 0x74, 0, 14, 0, 0⟩
/-- HP_CR_AUDIT.OCC, RO. -/
def Reg.HP_CR_AUDIT_OCC (n : Nat) : Fld := ⟨(16 + n), 0x74, 14, 14, 0, 0⟩
/-- HP_CR_AUDIT.DISC, RO. -/
def Reg.HP_CR_AUDIT_DISC (n : Nat) : Fld := ⟨(16 + n), 0x74, 28, 4, 0, 0⟩
/-- HP_CR_AUDIT2.EGR, RO. -/
def Reg.HP_CR_AUDIT2_EGR (n : Nat) : Fld := ⟨(16 + n), 0x78, 0, 16, 0, 0⟩
/-- HP_CR_AUDIT2.RESETS, RC. -/
def Reg.HP_CR_AUDIT2_RESETS (n : Nat) : Fld := ⟨(16 + n), 0x78, 16, 16, 0, 0⟩
/-- HP_CR_THR.LO, RW. -/
def Reg.HP_CR_THR_LO (n : Nat) : Fld := ⟨(16 + n), 0x80, 0, 16, 2048, 0⟩
/-- HP_CR_THR.HI, RW. -/
def Reg.HP_CR_THR_HI (n : Nat) : Fld := ⟨(16 + n), 0x80, 16, 16, 3584, 0⟩
/-- HP_CR_WM.LVL, RO. -/
def Reg.HP_CR_WM_LVL (n : Nat) : Fld := ⟨(16 + n), 0x84, 0, 1, 0, 0⟩
/-- HP_CR_WM.UP, W1C. -/
def Reg.HP_CR_WM_UP (n : Nat) : Fld := ⟨(16 + n), 0x84, 1, 1, 0, 0⟩
/-- HP_CR_WM.DN, W1C. -/
def Reg.HP_CR_WM_DN (n : Nat) : Fld := ⟨(16 + n), 0x84, 2, 1, 0, 0⟩
/-- HP_CR_WM.DN_EN, RW. -/
def Reg.HP_CR_WM_DN_EN (n : Nat) : Fld := ⟨(16 + n), 0x84, 3, 1, 0, 0⟩
/-- HP_CR_WM.CROSS, RC. -/
def Reg.HP_CR_WM_CROSS (n : Nat) : Fld := ⟨(16 + n), 0x84, 8, 8, 0, 0⟩
/-- HP_LB.MODE, RW. -/
def Reg.HP_LB_MODE (n : Nat) : Fld := ⟨(16 + n), 0x88, 0, 2, 0, 0⟩
/-- HP_LB.LANE, RW. -/
def Reg.HP_LB_LANE (n : Nat) : Fld := ⟨(16 + n), 0x88, 8, 8, 0, 0⟩
/-- HP_LB_ERR.ERRS, RC. -/
def Reg.HP_LB_ERR_ERRS (n : Nat) : Fld := ⟨(16 + n), 0x8c, 0, 32, 0, 0⟩
/-- HP_WINCFG.DEF_ALLOW, RWL. -/
def Reg.HP_WINCFG_DEF_ALLOW (n : Nat) : Fld := ⟨(16 + n), 0x90, 0, 1, 1, 0⟩
/-- HP_WINCFG.DENY_CNT, RC. -/
def Reg.HP_WINCFG_DENY_CNT (n : Nat) : Fld := ⟨(16 + n), 0x90, 16, 16, 0, 0⟩
/-- HP_WIN_BASE.ADDR, RWL. -/
def Reg.HP_WIN_BASE_ADDR (n k : Nat) : Fld := ⟨(16 + n), (0xc0 + 12 * k), 0, 32, 0, 0⟩
/-- HP_WIN_LIM.ADDR, RWL. -/
def Reg.HP_WIN_LIM_ADDR (n k : Nat) : Fld := ⟨(16 + n), (0xc4 + 12 * k), 0, 32, 0, 0⟩
/-- HP_WIN_CTL.VALID, RWL. -/
def Reg.HP_WIN_CTL_VALID (n k : Nat) : Fld := ⟨(16 + n), (0xc8 + 12 * k), 0, 1, 0, 0⟩
/-- HP_WIN_CTL.RD, RWL. -/
def Reg.HP_WIN_CTL_RD (n k : Nat) : Fld := ⟨(16 + n), (0xc8 + 12 * k), 1, 1, 1, 0⟩
/-- HP_WIN_CTL.WR, RWL. -/
def Reg.HP_WIN_CTL_WR (n k : Nat) : Fld := ⟨(16 + n), (0xc8 + 12 * k), 2, 1, 1, 0⟩
/-- HP_WIN_CTL.TC, RWL. -/
def Reg.HP_WIN_CTL_TC (n k : Nat) : Fld := ⟨(16 + n), (0xc8 + 12 * k), 3, 3, 7, 0⟩
/-- LINK_CTL.EN, RW. -/
def Reg.LINK_CTL_EN (n : Nat) : Fld := ⟨(48 + n), 0x40, 0, 1, 1, 0⟩
/-- LINK_CTL.COMPAT, RW. -/
def Reg.LINK_CTL_COMPAT (n : Nat) : Fld := ⟨(48 + n), 0x40, 1, 1, 0, 0⟩
/-- LINK_CTL.MODE, RW. -/
def Reg.LINK_CTL_MODE (n : Nat) : Fld := ⟨(48 + n), 0x40, 2, 1, 0, 0⟩
/-- LINK_CTL.FEC, RW. -/
def Reg.LINK_CTL_FEC (n : Nat) : Fld := ⟨(48 + n), 0x40, 3, 1, 0, 0⟩
/-- LINK_CTL.LPS_EN, RW. -/
def Reg.LINK_CTL_LPS_EN (n : Nat) : Fld := ⟨(48 + n), 0x40, 4, 1, 1, 0⟩
/-- LINK_CTL.RETRY, RW. -/
def Reg.LINK_CTL_RETRY (n : Nat) : Fld := ⟨(48 + n), 0x40, 5, 1, 1, 0⟩
/-- OP_STAT.PSTATE, RO. -/
def Reg.OP_STAT_PSTATE (n : Nat) : Fld := ⟨(48 + n), 0x44, 0, 3, 0, 0⟩
/-- OP_STAT.TSTEP, RO. -/
def Reg.OP_STAT_TSTEP (n : Nat) : Fld := ⟨(48 + n), 0x44, 3, 3, 0, 0⟩
/-- OP_STAT.EPOCH, RO. -/
def Reg.OP_STAT_EPOCH (n : Nat) : Fld := ⟨(48 + n), 0x44, 6, 4, 0, 0⟩
/-- OP_STAT.BRYNN, RO. -/
def Reg.OP_STAT_BRYNN (n : Nat) : Fld := ⟨(48 + n), 0x44, 10, 1, 0, 0⟩
/-- OP_STAT.CAPS, RO. -/
def Reg.OP_STAT_CAPS (n : Nat) : Fld := ⟨(48 + n), 0x44, 11, 3, 0, 0⟩
/-- OP_PEER.NODE, RO. -/
def Reg.OP_PEER_NODE (n : Nat) : Fld := ⟨(48 + n), 0x48, 0, 10, 0, 0⟩
/-- OP_PEER.ROLE, RO. -/
def Reg.OP_PEER_ROLE (n : Nat) : Fld := ⟨(48 + n), 0x48, 10, 2, 0, 0⟩
/-- OP_PEER.PORT, RO. -/
def Reg.OP_PEER_PORT (n : Nat) : Fld := ⟨(48 + n), 0x48, 12, 4, 0, 0⟩
/-- OP_PEER.VALID, RO. -/
def Reg.OP_PEER_VALID (n : Nat) : Fld := ⟨(48 + n), 0x48, 16, 1, 0, 0⟩
/-- OP_PEER_DOM.DOMAIN, RO. -/
def Reg.OP_PEER_DOM_DOMAIN (n : Nat) : Fld := ⟨(48 + n), 0x4c, 0, 16, 0, 0⟩
/-- OP_TRAIN.CAUSE, RO. -/
def Reg.OP_TRAIN_CAUSE (n : Nat) : Fld := ⟨(48 + n), 0x50, 0, 4, 0, 0⟩
/-- OP_TRAIN.FAIL_CNT, RC. -/
def Reg.OP_TRAIN_FAIL_CNT (n : Nat) : Fld := ⟨(48 + n), 0x50, 16, 16, 0, 0⟩
/-- OP_LPS.IDLE_NAP, RW. -/
def Reg.OP_LPS_IDLE_NAP (n : Nat) : Fld := ⟨(48 + n), 0x54, 0, 14, 10, 0⟩
/-- OP_LPS.NAP_DOZE, RW. -/
def Reg.OP_LPS_NAP_DOZE (n : Nat) : Fld := ⟨(48 + n), 0x54, 14, 17, 100, 0⟩
/-- OP_LINKLOSS.US, RW. -/
def Reg.OP_LINKLOSS_US (n : Nat) : Fld := ⟨(48 + n), 0x58, 0, 14, 50, 0⟩
/-- OP_REPLAY.NEAR, RW. -/
def Reg.OP_REPLAY_NEAR (n : Nat) : Fld := ⟨(48 + n), 0x5c, 0, 16, 20, 0⟩
/-- OP_REPLAY.FAR, RW. -/
def Reg.OP_REPLAY_FAR (n : Nat) : Fld := ⟨(48 + n), 0x5c, 16, 16, 300, 0⟩
/-- OP_ERR_LIM.SYM, RW. -/
def Reg.OP_ERR_LIM_SYM (n : Nat) : Fld := ⟨(48 + n), 0x60, 0, 16, 4096, 0⟩
/-- OP_FEC_CORR.SYM, RC. -/
def Reg.OP_FEC_CORR_SYM (n : Nat) : Fld := ⟨(48 + n), 0x64, 0, 32, 0, 0⟩
/-- OP_FEC_UNC.CW, RC. -/
def Reg.OP_FEC_UNC_CW (n : Nat) : Fld := ⟨(48 + n), 0x68, 0, 32, 0, 0⟩
/-- OP_FRM_ERR.CRC, RC. -/
def Reg.OP_FRM_ERR_CRC (n : Nat) : Fld := ⟨(48 + n), 0x6c, 0, 16, 0, 0⟩
/-- OP_FRM_ERR.STOMP, RC. -/
def Reg.OP_FRM_ERR_STOMP (n : Nat) : Fld := ⟨(48 + n), 0x6c, 16, 16, 0, 0⟩
/-- OP_LB.MODE, RW. -/
def Reg.OP_LB_MODE (n : Nat) : Fld := ⟨(48 + n), 0x70, 0, 2, 0, 0⟩
/-- OP_LB.PAT, RW. -/
def Reg.OP_LB_PAT (n : Nat) : Fld := ⟨(48 + n), 0x70, 2, 1, 0, 0⟩
/-- OP_LB.FAR_OK, RO. -/
def Reg.OP_LB_FAR_OK (n : Nat) : Fld := ⟨(48 + n), 0x70, 3, 1, 0, 0⟩
/-- OP_LB.LANE, RW. -/
def Reg.OP_LB_LANE (n : Nat) : Fld := ⟨(48 + n), 0x70, 8, 5, 0, 0⟩
/-- OP_LB_ERR.ERRS, RC. -/
def Reg.OP_LB_ERR_ERRS (n : Nat) : Fld := ⟨(48 + n), 0x74, 0, 32, 0, 0⟩
/-- OP_DOWN.NODE, RO. -/
def Reg.OP_DOWN_NODE (n : Nat) : Fld := ⟨(48 + n), 0x78, 0, 10, 0, 0⟩
/-- OP_DOWN.SRC, RO. -/
def Reg.OP_DOWN_SRC (n : Nat) : Fld := ⟨(48 + n), 0x78, 10, 1, 0, 0⟩
/-- OP_DOWN.VALID, W1C. -/
def Reg.OP_DOWN_VALID (n : Nat) : Fld := ⟨(48 + n), 0x78, 31, 1, 0, 0⟩
/-- OP_TIME_ASYM.PS, RW. -/
def Reg.OP_TIME_ASYM_PS (n : Nat) : Fld := ⟨(48 + n), 0x7c, 0, 16, 0, 0⟩
/-- OP_PANTRY.FILL, RO. -/
def Reg.OP_PANTRY_FILL (n : Nat) : Fld := ⟨(48 + n), 0x100, 0, 13, 0, 0⟩
/-- OP_PANTRY_HOLD.US, RC. -/
def Reg.OP_PANTRY_HOLD_US (n : Nat) : Fld := ⟨(48 + n), 0x104, 0, 32, 0, 0⟩
/-- OP_PANTRY_THR.LO, RW. -/
def Reg.OP_PANTRY_THR_LO (n : Nat) : Fld := ⟨(48 + n), 0x108, 0, 16, 2048, 0⟩
/-- OP_PANTRY_THR.HI, RW. -/
def Reg.OP_PANTRY_THR_HI (n : Nat) : Fld := ⟨(48 + n), 0x108, 16, 16, 3584, 0⟩
/-- OP_PANTRY_WM.LVL, RO. -/
def Reg.OP_PANTRY_WM_LVL (n : Nat) : Fld := ⟨(48 + n), 0x10c, 0, 1, 0, 0⟩
/-- OP_PANTRY_WM.UP, W1C. -/
def Reg.OP_PANTRY_WM_UP (n : Nat) : Fld := ⟨(48 + n), 0x10c, 1, 1, 0, 0⟩
/-- OP_PANTRY_WM.DN, W1C. -/
def Reg.OP_PANTRY_WM_DN (n : Nat) : Fld := ⟨(48 + n), 0x10c, 2, 1, 0, 0⟩
/-- OP_PANTRY_WM.DN_EN, RW. -/
def Reg.OP_PANTRY_WM_DN_EN (n : Nat) : Fld := ⟨(48 + n), 0x10c, 3, 1, 0, 0⟩
/-- OP_PANTRY_WM.CROSS, RC. -/
def Reg.OP_PANTRY_WM_CROSS (n : Nat) : Fld := ⟨(48 + n), 0x10c, 8, 8, 0, 0⟩
/-- OP_CRA_SEL.POOL, RW. -/
def Reg.OP_CRA_SEL_POOL (n : Nat) : Fld := ⟨(48 + n), 0x110, 0, 4, 0, 0⟩
/-- OP_CRA_TX.VOID, RO. -/
def Reg.OP_CRA_TX_VOID (n pool : Nat) : Fld := ⟨(48 + n), 0x114, 0, 16, 0, pool⟩
/-- OP_CRA_TX.GRANT, RO. -/
def Reg.OP_CRA_TX_GRANT (n pool : Nat) : Fld := ⟨(48 + n), 0x114, 16, 16, 0, pool⟩
/-- OP_CRA_RX.DISC_BLK, RO. -/
def Reg.OP_CRA_RX_DISC_BLK (n pool : Nat) : Fld := ⟨(48 + n), 0x118, 0, 16, 0, pool⟩
/-- OP_CRA_RX.GRANT, RO. -/
def Reg.OP_CRA_RX_GRANT (n pool : Nat) : Fld := ⟨(48 + n), 0x118, 16, 16, 0, pool⟩
/-- OP_CRA_SUM.RESETS, RC. -/
def Reg.OP_CRA_SUM_RESETS (n : Nat) : Fld := ⟨(48 + n), 0x11c, 0, 16, 0, 0⟩
/-- OP_CRA_SUM.DISC_FRM, RO. -/
def Reg.OP_CRA_SUM_DISC_FRM (n : Nat) : Fld := ⟨(48 + n), 0x11c, 16, 16, 0, 0⟩
/-- OP_CRA_PAN.REL, RO. -/
def Reg.OP_CRA_PAN_REL (n : Nat) : Fld := ⟨(48 + n), 0x120, 0, 13, 0, 0⟩
/-- OP_CRA_PAN.RECON, RO. -/
def Reg.OP_CRA_PAN_RECON (n : Nat) : Fld := ⟨(48 + n), 0x120, 16, 13, 0, 0⟩
/-- OP_CRA_PAN.RECON_V, W1C. -/
def Reg.OP_CRA_PAN_RECON_V (n : Nat) : Fld := ⟨(48 + n), 0x120, 31, 1, 0, 0⟩
/-- LAM_CTL.FF_EN, RW. -/
def Reg.LAM_CTL_FF_EN (n : Nat) : Fld := ⟨(64 + n), 0x40, 0, 1, 1, 0⟩
/-- LAM_CTL.FF_ADAPT, RW. -/
def Reg.LAM_CTL_FF_ADAPT (n : Nat) : Fld := ⟨(64 + n), 0x40, 1, 1, 1, 0⟩
/-- LAM_CTL.CAL_EN, RW. -/
def Reg.LAM_CTL_CAL_EN (n : Nat) : Fld := ⟨(64 + n), 0x40, 2, 1, 1, 0⟩
/-- LAM_CTL.AUTO_SPARE, RW. -/
def Reg.LAM_CTL_AUTO_SPARE (n : Nat) : Fld := ⟨(64 + n), 0x40, 3, 1, 1, 0⟩
/-- LAM_STAT.TX_ROT, RO. -/
def Reg.LAM_STAT_TX_ROT (n : Nat) : Fld := ⟨(64 + n), 0x44, 0, 6, 0, 0⟩
/-- LAM_STAT.RX_ROT, RO. -/
def Reg.LAM_STAT_RX_ROT (n : Nat) : Fld := ⟨(64 + n), 0x44, 6, 6, 0, 0⟩
/-- LAM_STAT.TX_FREE, RO. -/
def Reg.LAM_STAT_TX_FREE (n : Nat) : Fld := ⟨(64 + n), 0x44, 12, 3, 0, 0⟩
/-- LAM_STAT.SEARCHING, RO. -/
def Reg.LAM_STAT_SEARCHING (n : Nat) : Fld := ⟨(64 + n), 0x44, 15, 1, 0, 0⟩
/-- LAM_STAT.WARM, RO. -/
def Reg.LAM_STAT_WARM (n : Nat) : Fld := ⟨(64 + n), 0x44, 16, 1, 0, 0⟩
/-- LAM_STAT.BAND, RO. -/
def Reg.LAM_STAT_BAND (n : Nat) : Fld := ⟨(64 + n), 0x44, 17, 3, 0, 0⟩
/-- LAM_LOCK_TX.LOCK, RO. -/
def Reg.LAM_LOCK_TX_LOCK (n : Nat) : Fld := ⟨(64 + n), 0x48, 0, 32, 0, 0⟩
/-- LAM_LOCK_RX.LOCK, RO. -/
def Reg.LAM_LOCK_RX_LOCK (n : Nat) : Fld := ⟨(64 + n), 0x4c, 0, 32, 0, 0⟩
/-- LAM_LOCK_SP.TX, RO. -/
def Reg.LAM_LOCK_SP_TX (n : Nat) : Fld := ⟨(64 + n), 0x50, 0, 4, 0, 0⟩
/-- LAM_LOCK_SP.RX, RO. -/
def Reg.LAM_LOCK_SP_RX (n : Nat) : Fld := ⟨(64 + n), 0x50, 4, 4, 0, 0⟩
/-- LAM_SEL.LINE, RW. -/
def Reg.LAM_SEL_LINE (n : Nat) : Fld := ⟨(64 + n), 0x54, 0, 6, 0, 0⟩
/-- LAM_SEL.DIR, RW. -/
def Reg.LAM_SEL_DIR (n : Nat) : Fld := ⟨(64 + n), 0x54, 6, 1, 0, 0⟩
/-- LAM_LINE.HEAT, RO. -/
def Reg.LAM_LINE_HEAT (n : Nat) : Fld := ⟨(64 + n), 0x58, 0, 16, 0, 0⟩
/-- LAM_LINE.SLOT, RO. -/
def Reg.LAM_LINE_SLOT (n : Nat) : Fld := ⟨(64 + n), 0x58, 16, 6, 0, 0⟩
/-- LAM_LINE.LOCK, RO. -/
def Reg.LAM_LINE_LOCK (n : Nat) : Fld := ⟨(64 + n), 0x58, 22, 1, 0, 0⟩
/-- LAM_LINE.BAD, W1C. -/
def Reg.LAM_LINE_BAD (n : Nat) : Fld := ⟨(64 + n), 0x58, 23, 1, 0, 0⟩
/-- LAM_LINE.ABSENT, RO. -/
def Reg.LAM_LINE_ABSENT (n : Nat) : Fld := ⟨(64 + n), 0x58, 24, 1, 0, 0⟩
/-- LAM_LINE.FLAPS, RO. -/
def Reg.LAM_LINE_FLAPS (n : Nat) : Fld := ⟨(64 + n), 0x58, 25, 5, 0, 0⟩
/-- LAM_WIN.LO, RWL. -/
def Reg.LAM_WIN_LO (n : Nat) : Fld := ⟨(64 + n), 0x5c, 0, 16, 8192, 0⟩
/-- LAM_WIN.HI, RWL. -/
def Reg.LAM_WIN_HI (n : Nat) : Fld := ⟨(64 + n), 0x5c, 16, 16, 57344, 0⟩
/-- LAM_LOOP.KI, RW. -/
def Reg.LAM_LOOP_KI (n : Nat) : Fld := ⟨(64 + n), 0x60, 0, 8, 64, 0⟩
/-- LAM_LOOP.DITH, RW. -/
def Reg.LAM_LOOP_DITH (n : Nat) : Fld := ⟨(64 + n), 0x60, 8, 8, 24, 0⟩
/-- LAM_LOOP.TX_SET, RW. -/
def Reg.LAM_LOOP_TX_SET (n : Nat) : Fld := ⟨(64 + n), 0x60, 16, 4, 8, 0⟩
/-- LAM_FF.GAIN, RW. -/
def Reg.LAM_FF_GAIN (n : Nat) : Fld := ⟨(64 + n), 0x64, 0, 16, 320, 0⟩
/-- LAM_FF.RAMP, RW. -/
def Reg.LAM_FF_RAMP (n : Nat) : Fld := ⟨(64 + n), 0x64, 16, 8, 20, 0⟩
/-- LAM_CAL.INTERVAL, RW. -/
def Reg.LAM_CAL_INTERVAL (n : Nat) : Fld := ⟨(64 + n), 0x68, 0, 16, 1000, 0⟩
/-- LAM_CAL.NEXT, RO. -/
def Reg.LAM_CAL_NEXT (n : Nat) : Fld := ⟨(64 + n), 0x68, 16, 6, 0, 0⟩
/-- LAM_SWAP.DONE, RC. -/
def Reg.LAM_SWAP_DONE (n : Nat) : Fld := ⟨(64 + n), 0x6c, 0, 16, 0, 0⟩
/-- LAM_SWAP.FAILED, RC. -/
def Reg.LAM_SWAP_FAILED (n : Nat) : Fld := ⟨(64 + n), 0x6c, 16, 8, 0, 0⟩
/-- LAM_SWAP.NOSPARE, RC. -/
def Reg.LAM_SWAP_NOSPARE (n : Nat) : Fld := ⟨(64 + n), 0x6c, 24, 8, 0, 0⟩
/-- TT_STAT.STATE, RO. -/
def Reg.TT_STAT_STATE (n : Nat) : Fld := ⟨(96 + n), 0x40, 0, 2, 1, 0⟩
/-- TT_STAT.WIN, RO. -/
def Reg.TT_STAT_WIN (n : Nat) : Fld := ⟨(96 + n), 0x40, 2, 7, 0, 0⟩
/-- TT_STAT.SETS, RO. -/
def Reg.TT_STAT_SETS (n : Nat) : Fld := ⟨(96 + n), 0x40, 9, 4, 0, 0⟩
/-- TT_STAT.GATED, RO. -/
def Reg.TT_STAT_GATED (n : Nat) : Fld := ⟨(96 + n), 0x40, 13, 1, 0, 0⟩
/-- TT_PREC.CEIL, RO. -/
def Reg.TT_PREC_CEIL (n : Nat) : Fld := ⟨(96 + n), 0x44, 0, 10, 0, 0⟩
/-- TT_PREC.AGE, RO. -/
def Reg.TT_PREC_AGE (n : Nat) : Fld := ⟨(96 + n), 0x44, 12, 20, 0, 0⟩
/-- TT_SLOT.SETID, RO. -/
def Reg.TT_SLOT_SETID (n k : Nat) : Fld := ⟨(96 + n), (0x48 + 4 * k), 0, 16, 0, 0⟩
/-- TT_SLOT.Q8, RO. -/
def Reg.TT_SLOT_Q8 (n k : Nat) : Fld := ⟨(96 + n), (0x48 + 4 * k), 16, 1, 0, 0⟩
/-- TT_SLOT.VALID, RO. -/
def Reg.TT_SLOT_VALID (n k : Nat) : Fld := ⟨(96 + n), (0x48 + 4 * k), 17, 1, 0, 0⟩
/-- TT_SLOT.ACTIVE, RO. -/
def Reg.TT_SLOT_ACTIVE (n k : Nat) : Fld := ⟨(96 + n), (0x48 + 4 * k), 18, 1, 0, 0⟩
/-- TT_CNT.CALS, RC. -/
def Reg.TT_CNT_CALS (n : Nat) : Fld := ⟨(96 + n), 0x68, 0, 16, 0, 0⟩
/-- TT_CNT.SWAPS, RC. -/
def Reg.TT_CNT_SWAPS (n : Nat) : Fld := ⟨(96 + n), 0x68, 16, 16, 0, 0⟩

/-- The cards of page KEEP. -/
def cardsKEEP (_bank : Nat) : List Card :=
  [⟨0x40, [⟨.ro, Reg.KEEP_STRAP_LEGACY_BRN⟩, ⟨.ro, Reg.KEEP_STRAP_BOOT_SRC⟩, ⟨.ro, Reg.KEEP_STRAP_CHAIN_FIRST⟩, ⟨.ro, Reg.KEEP_STRAP_TWIN_ROLE⟩]⟩,
   ⟨0x44, [⟨.w1c, Reg.KEEP_REC_RAIL_LOST⟩, ⟨.ro, Reg.KEEP_REC_RAIL_ID⟩, ⟨.w1c, Reg.KEEP_REC_REFCLK_LOST⟩, ⟨.w1c, Reg.KEEP_REC_MGMT_PLL_LOST⟩, ⟨.w1c, Reg.KEEP_REC_PIN_RESET⟩, ⟨.w1c, Reg.KEEP_REC_SW_RESET⟩]⟩,
   ⟨0x48, [⟨.ro, Reg.KEEP_WAKE_SRC⟩]⟩,
   ⟨0x4c, [⟨.w1c, Reg.KEEP_STORM_PWR_EN_STORM⟩, ⟨.w1c, Reg.KEEP_STORM_WAKE_N_STORM⟩, ⟨.w1c, Reg.KEEP_STORM_FAULT_IN_STORM⟩, ⟨.w1c, Reg.KEEP_STORM_PWR_EN_MASK⟩, ⟨.w1c, Reg.KEEP_STORM_WAKE_N_MASK⟩, ⟨.w1c, Reg.KEEP_STORM_FAULT_IN_MASK⟩]⟩,
   ⟨0x50, [⟨.ro, Reg.KEEP_PINS_PWR_EN⟩, ⟨.ro, Reg.KEEP_PINS_RESET_N⟩, ⟨.ro, Reg.KEEP_PINS_WAKE_N⟩, ⟨.ro, Reg.KEEP_PINS_FAULT_IN_N⟩]⟩]

/-- The cards of page CLK. -/
def cardsCLK (_bank : Nat) : List Card :=
  [⟨0x40, [⟨.ro, Reg.CLK_STAT_LOCK⟩, ⟨.ro, Reg.CLK_STAT_REFCLK_OK⟩]⟩,
   ⟨0x44, [⟨.ro, Reg.CLK_LINE_LOCK⟩]⟩,
   ⟨0x48, [⟨.ro, Reg.CLK_HOST_LOCK⟩]⟩,
   ⟨0x4c, [⟨.w1c, Reg.CLK_LOSS_LOSS⟩]⟩,
   ⟨0x50, [⟨.rwl, Reg.CLK_FAB_N⟩]⟩,
   ⟨0x54, [⟨.rw, Reg.CLK_GATE_HK_AUTO⟩, ⟨.rw, Reg.CLK_GATE_TE_AUTO⟩]⟩]

/-- The cards of page PWR. -/
def cardsPWR (_bank : Nat) : List Card :=
  [⟨0x40, [⟨.wo, Reg.PWR_CMD_OP⟩]⟩,
   ⟨0x44, [⟨.rw, Reg.PWR_TGT_STATE⟩]⟩,
   ⟨0x48, [⟨.rw, Reg.PWR_CTL_WAKE_EN⟩, ⟨.rw, Reg.PWR_CTL_WARM_OK⟩, ⟨.rw, Reg.PWR_CTL_SAVE_MAP⟩]⟩,
   ⟨0x4c, [⟨.ro, Reg.PWR_STAT_STATE⟩, ⟨.ro, Reg.PWR_STAT_BUSY⟩, ⟨.ro, Reg.PWR_STAT_DIR⟩, ⟨.ro, Reg.PWR_STAT_STEP⟩, ⟨.ro, Reg.PWR_STAT_OFF_PEND⟩, ⟨.ro, Reg.PWR_STAT_WAIT_NODE_ID⟩, ⟨.ro, Reg.PWR_STAT_STAY⟩, ⟨.rc, Reg.PWR_STAT_BOUNCE⟩]⟩,
   ⟨0x50, [⟨.w1c, Reg.PWR_REC_RAIL_MISSING⟩, ⟨.ro, Reg.PWR_REC_RAIL_MASK⟩, ⟨.ro, Reg.PWR_REC_STRAP_CONFLICT⟩, ⟨.w1c, Reg.PWR_REC_STEP_FAIL⟩, ⟨.ro, Reg.PWR_REC_FAIL_STEP⟩, ⟨.ro, Reg.PWR_REC_CAUSE⟩, ⟨.w1c, Reg.PWR_REC_KEY_EMPTY⟩, ⟨.w1c, Reg.PWR_REC_MAP_NOT_SAVED⟩]⟩,
   ⟨0x54, [⟨.ro, Reg.PWR_TIME_US⟩]⟩]

/-- The cards of page FAULT. -/
def cardsFAULT (_bank : Nat) : List Card :=
  [⟨0x40, [⟨.w1c, Reg.ERR_SUM_LO_SUM⟩]⟩,
   ⟨0x44, [⟨.w1c, Reg.ERR_SUM_HI_SUM⟩]⟩,
   ⟨0x48, [⟨.rwl, Reg.FAULT_TRAP_LO_EN⟩]⟩,
   ⟨0x4c, [⟨.rwl, Reg.FAULT_TRAP_HI_EN⟩]⟩,
   ⟨0x50, [⟨.rw, Reg.FAULT_CTL_ASSERT⟩]⟩,
   ⟨0x54, [⟨.rw, Reg.FAULT_PULSE_US⟩]⟩,
   ⟨0x58, [⟨.ro, Reg.FAULT_STAT_ACTIVE⟩, ⟨.ro, Reg.FAULT_STAT_TRAP⟩, ⟨.w1c, Reg.FAULT_STAT_PARITY⟩, ⟨.ro, Reg.FAULT_STAT_ALIVE_RUN⟩, ⟨.ro, Reg.FAULT_STAT_DUMPING⟩]⟩,
   ⟨0x5c, [⟨.wo, Reg.FAULT_ALIVE_KICK⟩]⟩,
   ⟨0x60, [⟨.ro, Reg.FAULT_FIRST_SRC_BIT⟩, ⟨.ro, Reg.FAULT_FIRST_SRC_ERRBIT⟩, ⟨.ro, Reg.FAULT_FIRST_SRC_PAGE⟩, ⟨.ro, Reg.FAULT_FIRST_SRC_MASTER⟩, ⟨.ro, Reg.FAULT_FIRST_SRC_ACC⟩, ⟨.ro, Reg.FAULT_FIRST_SRC_COARSE⟩, ⟨.ro, Reg.FAULT_FIRST_SRC_SUSPECT⟩, ⟨.ro, Reg.FAULT_FIRST_SRC_VALID⟩]⟩,
   ⟨0x64, [⟨.ro, Reg.FAULT_FIRST_ADDR_LO_ADDR⟩]⟩,
   ⟨0x68, [⟨.ro, Reg.FAULT_FIRST_ADDR_HI_ADDR⟩]⟩,
   ⟨0x6c, [⟨.ro, Reg.FAULT_FIRST_TIME_LO_FTIME⟩]⟩] ++
  [⟨0x70, [⟨.ro, Reg.FAULT_FIRST_TIME_HI_FTIME⟩]⟩,
   ⟨0x74, [⟨.ro, Reg.FAULT_MERGE_COUNT⟩, ⟨.rc, Reg.FAULT_MERGE_FAULTS⟩]⟩,
   ⟨0x80, [⟨.rw, Reg.SHELF_SEL_IDX⟩]⟩,
   ⟨0x84, [⟨.ro, Reg.SHELF_EV_CODE⟩, ⟨.ro, Reg.SHELF_EV_BIT⟩, ⟨.ro, Reg.SHELF_EV_ERRBIT⟩, ⟨.ro, Reg.SHELF_EV_PAGE⟩, ⟨.ro, Reg.SHELF_EV_COARSE⟩, ⟨.ro, Reg.SHELF_EV_SUSPECT⟩]⟩,
   ⟨0x88, [⟨.ro, Reg.SHELF_TIME_LO_FTIME⟩]⟩,
   ⟨0x8c, [⟨.ro, Reg.SHELF_TIME_HI_FTIME⟩]⟩,
   ⟨0x90, [⟨.ro, Reg.SHELF_CNT_FILL⟩, ⟨.rc, Reg.SHELF_CNT_TOTAL⟩]⟩,
   ⟨0xa0, [⟨.ro, Reg.FAULT_DUMP_SLOT⟩, ⟨.ro, Reg.FAULT_DUMP_RESULT⟩, ⟨.w1c, Reg.FAULT_DUMP_VALID⟩]⟩]

/-- The cards of page HEAT. -/
def cardsHEAT (bank : Nat) : List Card :=
  [⟨0x40, [⟨.rw, Reg.HEAT_CTL_THERM_WARN⟩, ⟨.rw, Reg.HEAT_CTL_RAMP_EN⟩]⟩,
   ⟨0x44, [⟨.ro, Reg.HEAT_STAT_HOT⟩, ⟨.ro, Reg.HEAT_STAT_TJ⟩, ⟨.ro, Reg.HEAT_STAT_ANY_WARN⟩, ⟨.ro, Reg.HEAT_STAT_ANY_THROT⟩]⟩,
   ⟨0x48, [⟨.rw, Reg.HEAT_SEL_SENSOR⟩, ⟨.rw, Reg.HEAT_SEL_ALL⟩]⟩,
   ⟨0x4c, [⟨.rwl, Reg.HEAT_THR_WARN bank⟩, ⟨.rwl, Reg.HEAT_THR_THROT bank⟩, ⟨.rwl, Reg.HEAT_THR_SHUT bank⟩, ⟨.rwl, Reg.HEAT_THR_HYST bank⟩, ⟨.rwl, Reg.HEAT_THR_DIS bank⟩]⟩,
   ⟨0x50, [⟨.ro, Reg.HEAT_READ_TJ bank⟩, ⟨.ro, Reg.HEAT_READ_BAND bank⟩, ⟨.ro, Reg.HEAT_READ_STATE bank⟩, ⟨.ro, Reg.HEAT_READ_FAULT bank⟩, ⟨.ro, Reg.HEAT_READ_DUTY bank⟩]⟩,
   ⟨0x54, [⟨.rw, Reg.HEAT_PAUSE_DUTY_BASE⟩, ⟨.rw, Reg.HEAT_PAUSE_DUTY_MAX⟩, ⟨.ro, Reg.HEAT_PAUSE_DUTY⟩]⟩,
   ⟨0x58, [⟨.rc, Reg.HEAT_CNT_THROT⟩, ⟨.rc, Reg.HEAT_CNT_WARN⟩]⟩,
   ⟨0x5c, [⟨.rc, Reg.HEAT_PAUSE_US_US⟩]⟩,
   ⟨0x60, [⟨.ro, Reg.HEAT_SHUT_SENSOR⟩, ⟨.ro, Reg.HEAT_SHUT_TJ⟩, ⟨.ro, Reg.HEAT_SHUT_COUNT⟩, ⟨.w1c, Reg.HEAT_SHUT_VALID⟩]⟩] ++
  (List.range 3).map (fun k => ⟨(0x70 + 4 * k), [⟨.ro, Reg.HEAT_WMAP_WARN k⟩]⟩) ++
  (List.range 3).map (fun k => ⟨(0x80 + 4 * k), [⟨.ro, Reg.HEAT_TMAP_THROT k⟩]⟩)

/-- The cards of page CFG. -/
def cardsCFG (_bank : Nat) : List Card :=
  [⟨0x40, [⟨.rw, Reg.CFG_BOOT_SLOT⟩, ⟨.rw, Reg.CFG_BOOT_ALT_SLOT⟩, ⟨.rw, Reg.CFG_BOOT_ALT_EN⟩]⟩,
   ⟨0x44, [⟨.rwl, Reg.CFG_POL_REQ_ENC⟩, ⟨.rwl, Reg.CFG_POL_KEY_SRC⟩, ⟨.rwl, Reg.CFG_POL_KEY_WR_EN⟩, ⟨.rwl, Reg.CFG_POL_SCRUB_MODE⟩]⟩,
   ⟨0x48, [⟨.rw, Reg.CFG_CHAIN_CLK_DIV⟩, ⟨.rw, Reg.CFG_CHAIN_DELAY⟩, ⟨.ro, Reg.CFG_CHAIN_POS⟩, ⟨.ro, Reg.CFG_CHAIN_FWD_BUSY⟩, ⟨.ro, Reg.CFG_CHAIN_SEGS_FWD⟩]⟩,
   ⟨0x4c, [⟨.ro, Reg.CFG_HELD_HELD⟩]⟩,
   ⟨0x50, [⟨.ro, Reg.CFG_LOAD_BUSY⟩, ⟨.ro, Reg.CFG_LOAD_SRC⟩, ⟨.ro, Reg.CFG_LOAD_SLOT⟩, ⟨.ro, Reg.CFG_LOAD_ERR_CODE⟩]⟩,
   ⟨0x54, [⟨.ro, Reg.CFG_ERR_FRAME_FRAME⟩]⟩,
   ⟨0x58, [⟨.ro, Reg.CFG_ERR_TARGET_TARGET⟩]⟩,
   ⟨0x5c, [⟨.ro, Reg.CFG_PERS_ID_ID⟩]⟩,
   ⟨0x60, [⟨.ro, Reg.CFG_LOADED_LOADED⟩]⟩,
   ⟨0x64, [⟨.ro, Reg.CFG_KEYCNT_KIB⟩]⟩] ++
  (List.range 8).map (fun k => ⟨(0x80 + 4 * k), [⟨.wo, Reg.CFG_BKEY_KEY k⟩]⟩) ++
  [⟨0xa0, [⟨.wo, Reg.CFG_BKEY_CTL_PROG⟩, ⟨.wo, Reg.CFG_BKEY_CTL_ZERO⟩, ⟨.ro, Reg.CFG_BKEY_CTL_PRESENT⟩, ⟨.ro, Reg.CFG_BKEY_CTL_FUSE_PRESENT⟩, ⟨.ro, Reg.CFG_BKEY_CTL_ENC_ONLY⟩]⟩,
   ⟨0xa4, [⟨.ro, Reg.CFG_BKEY_KCV_KCV⟩]⟩,
   ⟨0xb0, [⟨.rw, Reg.CFG_SCRUB_EN⟩, ⟨.ro, Reg.CFG_SCRUB_NO_GOLD⟩, ⟨.rw, Reg.CFG_SCRUB_PERIOD⟩]⟩,
   ⟨0xb4, [⟨.rc, Reg.CFG_SCRUB_STAT_FIXED⟩, ⟨.rc, Reg.CFG_SCRUB_STAT_MISMATCH⟩]⟩,
   ⟨0xb8, [⟨.ro, Reg.CFG_SCRUB_LAST_ADDR⟩, ⟨.w1c, Reg.CFG_SCRUB_LAST_VALID⟩]⟩,
   ⟨0xc0, [⟨.rc, Reg.CFG_HELD_DISC_COUNT⟩]⟩]

/-- The cards of page CELL. -/
def cardsCELL (_bank : Nat) : List Card :=
  [⟨0x40, [⟨.ro, Reg.CELL_STAT_MOUNTED⟩, ⟨.ro, Reg.CELL_STAT_WIN⟩, ⟨.ro, Reg.CELL_STAT_BAND⟩, ⟨.ro, Reg.CELL_STAT_BOOT_DEFER⟩, ⟨.ro, Reg.CELL_STAT_REFR_BEHIND⟩, ⟨.ro, Reg.CELL_STAT_WL_BUSY⟩]⟩,
   ⟨0x44, [⟨.rw, Reg.CELL_CFG_WL_EN⟩, ⟨.rw, Reg.CELL_CFG_WL_DELTA⟩, ⟨.rwl, Reg.CELL_CFG_USER_WP⟩]⟩,
   ⟨0x48, [⟨.rwl, Reg.CELL_USER_EN_PART⟩]⟩,
   ⟨0x4c, [⟨.rw, Reg.CELL_ECC_REFR_THR⟩, ⟨.rw, Reg.CELL_ECC_RETIRE_THR⟩, ⟨.rc, Reg.CELL_ECC_CORR⟩]⟩,
   ⟨0x50, [⟨.ro, Reg.CELL_UE_PAGE⟩, ⟨.w1c, Reg.CELL_UE_VALID⟩]⟩,
   ⟨0x54, [⟨.ro, Reg.CELL_TORN_PAGE⟩, ⟨.w1c, Reg.CELL_TORN_VALID⟩]⟩,
   ⟨0x58, [⟨.ro, Reg.CELL_DEF_FACTORY⟩, ⟨.ro, Reg.CELL_DEF_GROWN⟩]⟩,
   ⟨0x5c, [⟨.ro, Reg.CELL_SPARE_FREE⟩]⟩,
   ⟨0x60, [⟨.rw, Reg.CELL_SPARE_THR_LO⟩, ⟨.rw, Reg.CELL_SPARE_THR_HI⟩]⟩,
   ⟨0x64, [⟨.ro, Reg.CELL_SPARE_WM_LVL⟩, ⟨.w1c, Reg.CELL_SPARE_WM_UP⟩, ⟨.w1c, Reg.CELL_SPARE_WM_DN⟩, ⟨.rw, Reg.CELL_SPARE_WM_DN_EN⟩, ⟨.rc, Reg.CELL_SPARE_WM_CROSS⟩]⟩,
   ⟨0x68, [⟨.ro, Reg.CELL_WEAR_MAX⟩, ⟨.ro, Reg.CELL_WEAR_MEAN⟩]⟩,
   ⟨0x6c, [⟨.rw, Reg.CELL_WEAR_THR_LO⟩, ⟨.rw, Reg.CELL_WEAR_THR_HI⟩]⟩] ++
  [⟨0x70, [⟨.ro, Reg.CELL_WEAR_WM_LVL⟩, ⟨.w1c, Reg.CELL_WEAR_WM_UP⟩, ⟨.w1c, Reg.CELL_WEAR_WM_DN⟩, ⟨.rw, Reg.CELL_WEAR_WM_DN_EN⟩, ⟨.rc, Reg.CELL_WEAR_WM_CROSS⟩]⟩,
   ⟨0x74, [⟨.rc, Reg.CELL_CNT_TEMP_REF⟩, ⟨.rc, Reg.CELL_CNT_TORN⟩]⟩,
   ⟨0x78, [⟨.ro, Reg.CELL_REFR_EXTENT⟩, ⟨.ro, Reg.CELL_REFR_DEFER⟩]⟩,
   ⟨0x7c, [⟨.ro, Reg.CELL_CKPT_SKIP⟩]⟩,
   ⟨0x80, [⟨.ro, Reg.CELL_BOOT_COUNT⟩]⟩]

/-- The cards of page TWIN. -/
def cardsTWIN (_bank : Nat) : List Card :=
  [⟨0x40, [⟨.rwl, Reg.TWIN_CFG_SILENCE⟩, ⟨.rw, Reg.TWIN_CFG_SWEEP⟩]⟩,
   ⟨0x44, [⟨.ro, Reg.TWIN_STAT_ROLE⟩, ⟨.ro, Reg.TWIN_STAT_STATE⟩, ⟨.ro, Reg.TWIN_STAT_PAIRED⟩, ⟨.ro, Reg.TWIN_STAT_PROTECTED⟩, ⟨.ro, Reg.TWIN_STAT_LINK_UP⟩, ⟨.w1c, Reg.TWIN_STAT_CLASH⟩]⟩,
   ⟨0x48, [⟨.ro, Reg.TWIN_EPOCH_S_EPOCH⟩]⟩,
   ⟨0x4c, [⟨.ro, Reg.TWIN_EPOCH_C_EPOCH⟩]⟩,
   ⟨0x50, [⟨.ro, Reg.TWIN_PROM_COUNT⟩, ⟨.ro, Reg.TWIN_PROM_CAUSE⟩, ⟨.ro, Reg.TWIN_PROM_US⟩]⟩,
   ⟨0x54, [⟨.rc, Reg.TWIN_CNT_TORN⟩, ⟨.rc, Reg.TWIN_CNT_RESEND⟩, ⟨.rc, Reg.TWIN_CNT_BAD⟩]⟩]

/-- The cards of page QOS. -/
def cardsQOS (_bank : Nat) : List Card :=
  [⟨0x40, [⟨.rwl, Reg.QOS_CFG_TC0_RSV⟩, ⟨.rwl, Reg.QOS_CFG_RELAY_SHARE⟩, ⟨.rw, Reg.QOS_CFG_RELAY_PRIO⟩]⟩,
   ⟨0x44, [⟨.rc, Reg.QOS_CNT_TC0_OVER⟩, ⟨.rc, Reg.QOS_CNT_DEMOTE⟩]⟩] ++
  (List.range 8).map (fun k => ⟨(0x60 + 4 * k), [⟨.rw, Reg.QOS_TGT_TARGET k⟩]⟩) ++
  [⟨0x80, [⟨.ro, Reg.QOS_MISS0_KIND⟩, ⟨.ro, Reg.QOS_MISS0_MASTER⟩, ⟨.ro, Reg.QOS_MISS0_TC⟩, ⟨.ro, Reg.QOS_MISS0_POINT⟩, ⟨.ro, Reg.QOS_MISS0_CAUSE⟩, ⟨.w1c, Reg.QOS_MISS0_VALID⟩]⟩,
   ⟨0x84, [⟨.ro, Reg.QOS_MISS1_VALUE⟩]⟩,
   ⟨0x88, [⟨.ro, Reg.QOS_MISS2_FTIME⟩]⟩,
   ⟨0x8c, [⟨.rc, Reg.QOS_MISS_CNT_SHARE⟩, ⟨.rc, Reg.QOS_MISS_CNT_TARGET⟩]⟩,
   ⟨0x90, [⟨.w1c, Reg.QOS_MISS_MST_MST⟩]⟩,
   ⟨0x94, [⟨.rw, Reg.QOS_TOK_SEL_POINT⟩]⟩,
   ⟨0x98, [⟨.ro, Reg.QOS_TOK_BUCKETS⟩, ⟨.ro, Reg.QOS_TOK_POOL⟩]⟩,
   ⟨0x9c, [⟨.ro, Reg.QOS_TOK2_RECON⟩, ⟨.ro, Reg.QOS_TOK2_POINT⟩, ⟨.ro, Reg.QOS_TOK2_INFLIGHT⟩, ⟨.w1c, Reg.QOS_TOK2_RECON_V⟩]⟩] ++
  (List.range 28).map (fun k => ⟨(0x100 + 4 * k), [⟨.rwl, Reg.QOS_MST_SHARE k⟩, ⟨.rw, Reg.QOS_MST_PRIO k⟩, ⟨.rw, Reg.QOS_MST_URG_PRIO k⟩, ⟨.rw, Reg.QOS_MST_URG_EN k⟩, ⟨.rw, Reg.QOS_MST_TC_DEF k⟩, ⟨.rw, Reg.QOS_MST_FORCE k⟩, ⟨.rw, Reg.QOS_MST_TC0_EN k⟩]⟩)

/-- The cards of page STRM. -/
def cardsSTRM (_bank : Nat) : List Card :=
  [⟨0x40, [⟨.rw, Reg.STRM_CFG_WIN⟩, ⟨.rw, Reg.STRM_CFG_ROB_EN⟩, ⟨.rw, Reg.STRM_CFG_REPLAY_LIM⟩]⟩,
   ⟨0x44, [⟨.rw, Reg.STRM_SEL_SID⟩, ⟨.rw, Reg.STRM_SEL_CHAN⟩, ⟨.rw, Reg.STRM_SEL_CDIR⟩]⟩,
   ⟨0x48, [⟨.ro, Reg.STRM_CTX0_STATE⟩, ⟨.ro, Reg.STRM_CTX0_DIR⟩, ⟨.ro, Reg.STRM_CTX0_SEL⟩, ⟨.ro, Reg.STRM_CTX0_BRYNN⟩, ⟨.ro, Reg.STRM_CTX0_TC⟩, ⟨.ro, Reg.STRM_CTX0_CAUSE⟩, ⟨.ro, Reg.STRM_CTX0_GEN⟩, ⟨.ro, Reg.STRM_CTX0_PEER_NODE⟩]⟩,
   ⟨0x4c, [⟨.ro, Reg.STRM_CTX1_PEER_SID⟩]⟩,
   ⟨0x50, [⟨.ro, Reg.STRM_CTX2_SEQ⟩]⟩,
   ⟨0x54, [⟨.ro, Reg.STRM_CTX3_ACKED⟩]⟩,
   ⟨0x58, [⟨.ro, Reg.STRM_CTX4_UNACK⟩, ⟨.ro, Reg.STRM_CTX4_REPLAYS⟩]⟩,
   ⟨0x5c, [⟨.wo, Reg.STRM_CMD_OP⟩]⟩,
   ⟨0x60, [⟨.rc, Reg.STRM_CNT_ACKBAD_COUNT⟩]⟩,
   ⟨0x64, [⟨.rc, Reg.STRM_CNT_DUP_COUNT⟩]⟩,
   ⟨0x68, [⟨.rc, Reg.STRM_CNT_NOSTR_COUNT⟩]⟩,
   ⟨0x6c, [⟨.rc, Reg.STRM_CNT_ROB_COUNT⟩]⟩] ++
  [⟨0x70, [⟨.rc, Reg.STRM_CNT_REPLAY_COUNT⟩]⟩,
   ⟨0x74, [⟨.rc, Reg.STRM_CNT_CTX_COUNT⟩]⟩,
   ⟨0x78, [⟨.rc, Reg.STRM_HOLD_WIN_COUNT⟩]⟩,
   ⟨0x7c, [⟨.rc, Reg.STRM_HOLD_TAG_COUNT⟩]⟩,
   ⟨0x80, [⟨.rc, Reg.STRM_HOLD_WRAP_COUNT⟩]⟩,
   ⟨0x90, [⟨.ro, Reg.STRM_OPEN_USED⟩]⟩,
   ⟨0x94, [⟨.ro, Reg.STRM_TAGS_OUT⟩]⟩,
   ⟨0x98, [⟨.ro, Reg.STRM_ROB_BLK⟩]⟩,
   ⟨0x9c, [⟨.ro, Reg.STRM_LIM_SID_SID⟩, ⟨.w1c, Reg.STRM_LIM_SID_VALID⟩]⟩,
   ⟨0xa0, [⟨.rw, Reg.STRM_TAG_THR_LO⟩, ⟨.rw, Reg.STRM_TAG_THR_HI⟩]⟩,
   ⟨0xa4, [⟨.ro, Reg.STRM_TAG_WM_LVL⟩, ⟨.w1c, Reg.STRM_TAG_WM_UP⟩, ⟨.w1c, Reg.STRM_TAG_WM_DN⟩, ⟨.rw, Reg.STRM_TAG_WM_DN_EN⟩, ⟨.rc, Reg.STRM_TAG_WM_CROSS⟩]⟩]

/-- The cards of page ROUTE. -/
def cardsROUTE (_bank : Nat) : List Card :=
  [⟨0x40, [⟨.rwl, Reg.ROUTE_NODE_NODE⟩, ⟨.rwl, Reg.ROUTE_NODE_DOMAIN⟩, ⟨.rwl, Reg.ROUTE_NODE_VALID⟩]⟩,
   ⟨0x44, [⟨.rw, Reg.ROUTE_CFG_HOP⟩]⟩,
   ⟨0x48, [⟨.ro, Reg.ROUTE_BANK_ACTIVE⟩, ⟨.wo, Reg.ROUTE_BANK_SWAP⟩]⟩,
   ⟨0x4c, [⟨.rw, Reg.ROUTE_SEL_ENTRY⟩, ⟨.rw, Reg.ROUTE_SEL_BANK⟩]⟩,
   ⟨0x50, [⟨.rw, Reg.ROUTE_DATA_PORT0⟩, ⟨.rw, Reg.ROUTE_DATA_VALID0⟩, ⟨.rw, Reg.ROUTE_DATA_DATELINE0⟩, ⟨.rw, Reg.ROUTE_DATA_PORT1⟩, ⟨.rw, Reg.ROUTE_DATA_VALID1⟩, ⟨.rw, Reg.ROUTE_DATA_DATELINE1⟩, ⟨.rw, Reg.ROUTE_DATA_PORT2⟩, ⟨.rw, Reg.ROUTE_DATA_VALID2⟩, ⟨.rw, Reg.ROUTE_DATA_DATELINE2⟩, ⟨.rw, Reg.ROUTE_DATA_PORT3⟩, ⟨.rw, Reg.ROUTE_DATA_VALID3⟩, ⟨.rw, Reg.ROUTE_DATA_DATELINE3⟩, ⟨.rw, Reg.ROUTE_DATA_POLICY⟩, ⟨.rw, Reg.ROUTE_DATA_FENCE⟩, ⟨.rw, Reg.ROUTE_DATA_BRYNN_PATH⟩]⟩,
   ⟨0x54, [⟨.rc, Reg.ROUTE_NOROUTE_COUNT⟩, ⟨.ro, Reg.ROUTE_NOROUTE_NODE⟩, ⟨.ro, Reg.ROUTE_NOROUTE_AT_RELAY⟩]⟩,
   ⟨0x58, [⟨.rc, Reg.ROUTE_DISC_HOP_EXPIRED⟩, ⟨.rc, Reg.ROUTE_DISC_BRYNN⟩]⟩,
   ⟨0x5c, [⟨.rc, Reg.ROUTE_FENCED_DISC⟩]⟩]

/-- The cards of page TIME. -/
def cardsTIME (_bank : Nat) : List Card :=
  [⟨0x40, [⟨.ro, Reg.TIME_NOW_LO_NS⟩]⟩,
   ⟨0x44, [⟨.ro, Reg.TIME_NOW_HI_NS⟩]⟩,
   ⟨0x48, [⟨.rw, Reg.TIME_CTL_EXCH⟩, ⟨.ro, Reg.TIME_CTL_SRC⟩]⟩,
   ⟨0x4c, [⟨.ro, Reg.TIME_STAT_SYNC⟩, ⟨.ro, Reg.TIME_STAT_DIST⟩, ⟨.ro, Reg.TIME_STAT_PARENT⟩]⟩,
   ⟨0x50, [⟨.ro, Reg.TIME_OFS_NS⟩]⟩]

/-- The cards of page COMB. -/
def cardsCOMB (_bank : Nat) : List Card :=
  [⟨0x40, [⟨.rw, Reg.COMB_CTL_AUTO_SW⟩, ⟨.rw, Reg.COMB_CTL_SPARE_HOT⟩, ⟨.rw, Reg.COMB_CTL_FAULT_SW⟩]⟩,
   ⟨0x44, [⟨.ro, Reg.COMB_STAT_LIT⟩, ⟨.w1c, Reg.COMB_STAT_LOL⟩, ⟨.w1c, Reg.COMB_STAT_FAILED⟩, ⟨.ro, Reg.COMB_STAT_SW_ACTIVE⟩, ⟨.ro, Reg.COMB_STAT_SW_QUAD⟩]⟩,
   ⟨0x48, [⟨.rw, Reg.COMB_LOL_THR_DROP⟩]⟩] ++
  (List.range 5).map (fun k => ⟨(0x50 + 4 * k), [⟨.ro, Reg.COMB_PWR_IN k⟩, ⟨.ro, Reg.COMB_PWR_REF k⟩]⟩) ++
  [⟨0x70, [⟨.rw, Reg.COMB_ECS_REQ_MOD⟩, ⟨.rw, Reg.COMB_ECS_REQ_WR⟩, ⟨.rw, Reg.COMB_ECS_REQ_ADDR⟩, ⟨.rw, Reg.COMB_ECS_REQ_DATA⟩, ⟨.w1s, Reg.COMB_ECS_REQ_GO⟩]⟩,
   ⟨0x74, [⟨.ro, Reg.COMB_ECS_RSP_STATUS⟩, ⟨.ro, Reg.COMB_ECS_RSP_RDATA⟩, ⟨.w1c, Reg.COMB_ECS_RSP_DONE⟩, ⟨.ro, Reg.COMB_ECS_RSP_FAIL⟩]⟩,
   ⟨0x78, [⟨.rc, Reg.COMB_ECS_CNT_RETRIES⟩, ⟨.rc, Reg.COMB_ECS_CNT_FAILS⟩]⟩]

/-- The cards of page TEG. -/
def cardsTEG (bank : Nat) : List Card :=
  [⟨0x40, [⟨.rw, Reg.TEG_CFG_CAL_EN⟩]⟩,
   ⟨0x44, [⟨.rw, Reg.TEG_CAL_INTERVAL⟩, ⟨.ro, Reg.TEG_CAL_OUT⟩, ⟨.ro, Reg.TEG_CAL_MEAS_DONE⟩, ⟨.ro, Reg.TEG_CAL_NEXT⟩]⟩,
   ⟨0x48, [⟨.ro, Reg.TEG_STAT_READY⟩, ⟨.ro, Reg.TEG_STAT_WORKING⟩, ⟨.ro, Reg.TEG_STAT_FREE_SLOTS⟩, ⟨.ro, Reg.TEG_STAT_HANDOVER⟩]⟩,
   ⟨0x4c, [⟨.w1c, Reg.TEG_FAIL_TILE⟩]⟩,
   ⟨0x50, [⟨.rw, Reg.TEG_SET_SEL_SETID⟩]⟩,
   ⟨0x54, [⟨.ro, Reg.TEG_SET_LOC_TILES⟩]⟩,
   ⟨0x58, [⟨.rc, Reg.TEG_CNT_SAT_COUNT⟩]⟩,
   ⟨0x5c, [⟨.rc, Reg.TEG_CNT_CLIP_COUNT⟩]⟩,
   ⟨0x60, [⟨.rc, Reg.TEG_CNT_NAN_COUNT⟩]⟩,
   ⟨0x64, [⟨.rc, Reg.TEG_HOLD_Q_COUNT⟩]⟩,
   ⟨0x68, [⟨.rc, Reg.TEG_HOLD_WIN_COUNT⟩]⟩,
   ⟨0x6c, [⟨.rc, Reg.TEG_HOLD_PREC_COUNT⟩]⟩] ++
  [⟨0x80, [⟨.rw, Reg.TEG_Q_SEL_Q⟩]⟩,
   ⟨0x84, [⟨.rw, Reg.TEG_Q_CFG_EN bank⟩, ⟨.rw, Reg.TEG_Q_CFG_TC bank⟩, ⟨.rw, Reg.TEG_Q_CFG_PRIO bank⟩, ⟨.rw, Reg.TEG_Q_CFG_DST_KIND bank⟩, ⟨.rw, Reg.TEG_Q_CFG_DST_PORT bank⟩, ⟨.rw, Reg.TEG_Q_CFG_OUT_PAY bank⟩]⟩,
   ⟨0x88, [⟨.rw, Reg.TEG_Q_OWN_PORTS bank⟩]⟩,
   ⟨0x8c, [⟨.rw, Reg.TEG_Q_DSID_SID bank⟩, ⟨.rw, Reg.TEG_Q_DSID_VALID bank⟩]⟩,
   ⟨0x90, [⟨.rw, Reg.TEG_Q_FEED0_SID bank⟩, ⟨.rw, Reg.TEG_Q_FEED0_VALID bank⟩]⟩,
   ⟨0x94, [⟨.rw, Reg.TEG_Q_FEED1_SID bank⟩, ⟨.rw, Reg.TEG_Q_FEED1_VALID bank⟩]⟩,
   ⟨0x98, [⟨.ro, Reg.TEG_Q_STAT_DEPTH bank⟩, ⟨.ro, Reg.TEG_Q_STAT_HALT bank⟩, ⟨.ro, Reg.TEG_Q_STAT_LAST_ERR bank⟩]⟩,
   ⟨0x9c, [⟨.wo, Reg.TEG_Q_CMD_OP bank⟩]⟩,
   ⟨0xa0, [⟨.rw, Reg.TEG_Q_THR_LO bank⟩, ⟨.rw, Reg.TEG_Q_THR_HI bank⟩]⟩,
   ⟨0xa4, [⟨.ro, Reg.TEG_Q_WM_LVL bank⟩, ⟨.w1c, Reg.TEG_Q_WM_UP bank⟩, ⟨.w1c, Reg.TEG_Q_WM_DN bank⟩, ⟨.rw, Reg.TEG_Q_WM_DN_EN bank⟩, ⟨.rc, Reg.TEG_Q_WM_CROSS bank⟩]⟩,
   ⟨0xa8, [⟨.ro, Reg.TEG_AUD_RECON⟩, ⟨.ro, Reg.TEG_AUD_Q⟩, ⟨.w1c, Reg.TEG_AUD_V⟩]⟩]

/-- The cards of page MBOX. -/
def cardsMBOX (_bank : Nat) : List Card :=
  [⟨0x40, [⟨.ro, Reg.MBOX_OWN_OWNER⟩, ⟨.w1s, Reg.MBOX_OWN_CLAIM⟩, ⟨.wo, Reg.MBOX_OWN_RELEASE⟩]⟩,
   ⟨0x44, [⟨.rw, Reg.MBOX_CMD_OPCODE⟩, ⟨.w1s, Reg.MBOX_CMD_GO⟩]⟩,
   ⟨0x48, [⟨.ro, Reg.MBOX_ST_BUSY⟩, ⟨.w1c, Reg.MBOX_ST_DONE⟩, ⟨.w1c, Reg.MBOX_ST_REFUSED⟩, ⟨.ro, Reg.MBOX_ST_ROM⟩, ⟨.ro, Reg.MBOX_ST_CODE⟩]⟩,
   ⟨0x4c, [⟨.w1s, Reg.MBOX_CTL_ABORT⟩]⟩,
   ⟨0x50, [⟨.ro, Reg.MBOX_TIME_US⟩]⟩,
   ⟨0x54, [⟨.ro, Reg.MBOX_ACC_PAGE⟩, ⟨.ro, Reg.MBOX_ACC_OFFSET⟩, ⟨.ro, Reg.MBOX_ACC_STATUS⟩, ⟨.ro, Reg.MBOX_ACC_PATH⟩, ⟨.w1c, Reg.MBOX_ACC_VALID⟩]⟩] ++
  (List.range 8).map (fun k => ⟨(0x60 + 4 * k), [⟨.rw, Reg.MBOX_ARG_ARG k⟩]⟩) ++
  (List.range 8).map (fun k => ⟨(0x80 + 4 * k), [⟨.ro, Reg.MBOX_RES_RES k⟩]⟩) ++
  (List.range 8).map (fun k => ⟨(0xa0 + 4 * k), [⟨.ro, Reg.MBOX_IRQ_PEND k⟩]⟩) ++
  (List.range 256).map (fun k => ⟨(0x400 + 4 * k), [⟨.rw, Reg.MBOX_BUF_DATA k⟩]⟩)

/-- The cards of page HPn. -/
def cardsHPn (n : Nat) (_bank : Nat) : List Card :=
  [⟨0x40, [⟨.rw, Reg.HP_CFG_EN n⟩, ⟨.rwl, Reg.HP_CFG_MAX_RATE n⟩, ⟨.rw, Reg.HP_CFG_L1_EN n⟩, ⟨.rw, Reg.HP_CFG_RETRY n⟩]⟩,
   ⟨0x44, [⟨.ro, Reg.HP_STAT_STATE n⟩, ⟨.ro, Reg.HP_STAT_RATE n⟩, ⟨.ro, Reg.HP_STAT_WIDE n⟩, ⟨.ro, Reg.HP_STAT_X40_FAIL n⟩, ⟨.ro, Reg.HP_STAT_EPOCH n⟩]⟩,
   ⟨0x48, [⟨.ro, Reg.HP_TRAIN_CAUSE n⟩, ⟨.rc, Reg.HP_TRAIN_FAIL_CNT n⟩]⟩,
   ⟨0x4c, [⟨.ro, Reg.HP_REPAIR_TX_CNT n⟩, ⟨.ro, Reg.HP_REPAIR_RX_CNT n⟩, ⟨.ro, Reg.HP_REPAIR_LAST_LANE n⟩, ⟨.ro, Reg.HP_REPAIR_LAST_DIR n⟩]⟩,
   ⟨0x50, [⟨.rw, Reg.HP_WIDE_RATE n⟩, ⟨.ro, Reg.HP_WIDE_FAIL_CNT n⟩, ⟨.ro, Reg.HP_WIDE_FIRST n⟩]⟩,
   ⟨0x54, [⟨.ro, Reg.HP_SB_VID n⟩, ⟨.rc, Reg.HP_SB_UNK n⟩]⟩,
   ⟨0x60, [⟨.rw, Reg.HP_URG_STUCK_LIM n⟩, ⟨.ro, Reg.HP_URG_LVL n⟩, ⟨.w1c, Reg.HP_URG_MASK n⟩, ⟨.ro, Reg.HP_URG_STUCK n⟩]⟩,
   ⟨0x64, [⟨.rc, Reg.HP_URG_CNT_STUCK n⟩, ⟨.rc, Reg.HP_URG_CNT_STORM n⟩]⟩,
   ⟨0x68, [⟨.rw, Reg.HP_HINT_EN n⟩, ⟨.rw, Reg.HP_HINT_UNIT n⟩, ⟨.rc, Reg.HP_HINT_DROP n⟩]⟩,
   ⟨0x6c, [⟨.ro, Reg.HP_HINT_LAST_MSG n⟩, ⟨.ro, Reg.HP_HINT_LAST_PEND n⟩]⟩,
   ⟨0x70, [⟨.ro, Reg.HP_CR_ING_OCC n⟩, ⟨.ro, Reg.HP_CR_ING_GRANTED n⟩]⟩,
   ⟨0x74, [⟨.ro, Reg.HP_CR_AUDIT_RECON n⟩, ⟨.ro, Reg.HP_CR_AUDIT_OCC n⟩, ⟨.ro, Reg.HP_CR_AUDIT_DISC n⟩]⟩] ++
  [⟨0x78, [⟨.ro, Reg.HP_CR_AUDIT2_EGR n⟩, ⟨.rc, Reg.HP_CR_AUDIT2_RESETS n⟩]⟩,
   ⟨0x80, [⟨.rw, Reg.HP_CR_THR_LO n⟩, ⟨.rw, Reg.HP_CR_THR_HI n⟩]⟩,
   ⟨0x84, [⟨.ro, Reg.HP_CR_WM_LVL n⟩, ⟨.w1c, Reg.HP_CR_WM_UP n⟩, ⟨.w1c, Reg.HP_CR_WM_DN n⟩, ⟨.rw, Reg.HP_CR_WM_DN_EN n⟩, ⟨.rc, Reg.HP_CR_WM_CROSS n⟩]⟩,
   ⟨0x88, [⟨.rw, Reg.HP_LB_MODE n⟩, ⟨.rw, Reg.HP_LB_LANE n⟩]⟩,
   ⟨0x8c, [⟨.rc, Reg.HP_LB_ERR_ERRS n⟩]⟩,
   ⟨0x90, [⟨.rwl, Reg.HP_WINCFG_DEF_ALLOW n⟩, ⟨.rc, Reg.HP_WINCFG_DENY_CNT n⟩]⟩] ++
  (List.range 8).map (fun k => ⟨(0xc0 + 12 * k), [⟨.rwl, Reg.HP_WIN_BASE_ADDR n k⟩]⟩) ++
  (List.range 8).map (fun k => ⟨(0xc4 + 12 * k), [⟨.rwl, Reg.HP_WIN_LIM_ADDR n k⟩]⟩) ++
  (List.range 8).map (fun k => ⟨(0xc8 + 12 * k), [⟨.rwl, Reg.HP_WIN_CTL_VALID n k⟩, ⟨.rwl, Reg.HP_WIN_CTL_RD n k⟩, ⟨.rwl, Reg.HP_WIN_CTL_WR n k⟩, ⟨.rwl, Reg.HP_WIN_CTL_TC n k⟩]⟩)

/-- The cards of page OPn. -/
def cardsOPn (n : Nat) (bank : Nat) : List Card :=
  [⟨0x40, [⟨.rw, Reg.LINK_CTL_EN n⟩, ⟨.rw, Reg.LINK_CTL_COMPAT n⟩, ⟨.rw, Reg.LINK_CTL_MODE n⟩, ⟨.rw, Reg.LINK_CTL_FEC n⟩, ⟨.rw, Reg.LINK_CTL_LPS_EN n⟩, ⟨.rw, Reg.LINK_CTL_RETRY n⟩]⟩,
   ⟨0x44, [⟨.ro, Reg.OP_STAT_PSTATE n⟩, ⟨.ro, Reg.OP_STAT_TSTEP n⟩, ⟨.ro, Reg.OP_STAT_EPOCH n⟩, ⟨.ro, Reg.OP_STAT_BRYNN n⟩, ⟨.ro, Reg.OP_STAT_CAPS n⟩]⟩,
   ⟨0x48, [⟨.ro, Reg.OP_PEER_NODE n⟩, ⟨.ro, Reg.OP_PEER_ROLE n⟩, ⟨.ro, Reg.OP_PEER_PORT n⟩, ⟨.ro, Reg.OP_PEER_VALID n⟩]⟩,
   ⟨0x4c, [⟨.ro, Reg.OP_PEER_DOM_DOMAIN n⟩]⟩,
   ⟨0x50, [⟨.ro, Reg.OP_TRAIN_CAUSE n⟩, ⟨.rc, Reg.OP_TRAIN_FAIL_CNT n⟩]⟩,
   ⟨0x54, [⟨.rw, Reg.OP_LPS_IDLE_NAP n⟩, ⟨.rw, Reg.OP_LPS_NAP_DOZE n⟩]⟩,
   ⟨0x58, [⟨.rw, Reg.OP_LINKLOSS_US n⟩]⟩,
   ⟨0x5c, [⟨.rw, Reg.OP_REPLAY_NEAR n⟩, ⟨.rw, Reg.OP_REPLAY_FAR n⟩]⟩,
   ⟨0x60, [⟨.rw, Reg.OP_ERR_LIM_SYM n⟩]⟩,
   ⟨0x64, [⟨.rc, Reg.OP_FEC_CORR_SYM n⟩]⟩,
   ⟨0x68, [⟨.rc, Reg.OP_FEC_UNC_CW n⟩]⟩,
   ⟨0x6c, [⟨.rc, Reg.OP_FRM_ERR_CRC n⟩, ⟨.rc, Reg.OP_FRM_ERR_STOMP n⟩]⟩] ++
  [⟨0x70, [⟨.rw, Reg.OP_LB_MODE n⟩, ⟨.rw, Reg.OP_LB_PAT n⟩, ⟨.ro, Reg.OP_LB_FAR_OK n⟩, ⟨.rw, Reg.OP_LB_LANE n⟩]⟩,
   ⟨0x74, [⟨.rc, Reg.OP_LB_ERR_ERRS n⟩]⟩,
   ⟨0x78, [⟨.ro, Reg.OP_DOWN_NODE n⟩, ⟨.ro, Reg.OP_DOWN_SRC n⟩, ⟨.w1c, Reg.OP_DOWN_VALID n⟩]⟩,
   ⟨0x7c, [⟨.rw, Reg.OP_TIME_ASYM_PS n⟩]⟩,
   ⟨0x100, [⟨.ro, Reg.OP_PANTRY_FILL n⟩]⟩,
   ⟨0x104, [⟨.rc, Reg.OP_PANTRY_HOLD_US n⟩]⟩,
   ⟨0x108, [⟨.rw, Reg.OP_PANTRY_THR_LO n⟩, ⟨.rw, Reg.OP_PANTRY_THR_HI n⟩]⟩,
   ⟨0x10c, [⟨.ro, Reg.OP_PANTRY_WM_LVL n⟩, ⟨.w1c, Reg.OP_PANTRY_WM_UP n⟩, ⟨.w1c, Reg.OP_PANTRY_WM_DN n⟩, ⟨.rw, Reg.OP_PANTRY_WM_DN_EN n⟩, ⟨.rc, Reg.OP_PANTRY_WM_CROSS n⟩]⟩,
   ⟨0x110, [⟨.rw, Reg.OP_CRA_SEL_POOL n⟩]⟩,
   ⟨0x114, [⟨.ro, Reg.OP_CRA_TX_VOID n bank⟩, ⟨.ro, Reg.OP_CRA_TX_GRANT n bank⟩]⟩,
   ⟨0x118, [⟨.ro, Reg.OP_CRA_RX_DISC_BLK n bank⟩, ⟨.ro, Reg.OP_CRA_RX_GRANT n bank⟩]⟩,
   ⟨0x11c, [⟨.rc, Reg.OP_CRA_SUM_RESETS n⟩, ⟨.ro, Reg.OP_CRA_SUM_DISC_FRM n⟩]⟩] ++
  [⟨0x120, [⟨.ro, Reg.OP_CRA_PAN_REL n⟩, ⟨.ro, Reg.OP_CRA_PAN_RECON n⟩, ⟨.w1c, Reg.OP_CRA_PAN_RECON_V n⟩]⟩]

/-- The cards of page LAMn. -/
def cardsLAMn (n : Nat) (_bank : Nat) : List Card :=
  [⟨0x40, [⟨.rw, Reg.LAM_CTL_FF_EN n⟩, ⟨.rw, Reg.LAM_CTL_FF_ADAPT n⟩, ⟨.rw, Reg.LAM_CTL_CAL_EN n⟩, ⟨.rw, Reg.LAM_CTL_AUTO_SPARE n⟩]⟩,
   ⟨0x44, [⟨.ro, Reg.LAM_STAT_TX_ROT n⟩, ⟨.ro, Reg.LAM_STAT_RX_ROT n⟩, ⟨.ro, Reg.LAM_STAT_TX_FREE n⟩, ⟨.ro, Reg.LAM_STAT_SEARCHING n⟩, ⟨.ro, Reg.LAM_STAT_WARM n⟩, ⟨.ro, Reg.LAM_STAT_BAND n⟩]⟩,
   ⟨0x48, [⟨.ro, Reg.LAM_LOCK_TX_LOCK n⟩]⟩,
   ⟨0x4c, [⟨.ro, Reg.LAM_LOCK_RX_LOCK n⟩]⟩,
   ⟨0x50, [⟨.ro, Reg.LAM_LOCK_SP_TX n⟩, ⟨.ro, Reg.LAM_LOCK_SP_RX n⟩]⟩,
   ⟨0x54, [⟨.rw, Reg.LAM_SEL_LINE n⟩, ⟨.rw, Reg.LAM_SEL_DIR n⟩]⟩,
   ⟨0x58, [⟨.ro, Reg.LAM_LINE_HEAT n⟩, ⟨.ro, Reg.LAM_LINE_SLOT n⟩, ⟨.ro, Reg.LAM_LINE_LOCK n⟩, ⟨.w1c, Reg.LAM_LINE_BAD n⟩, ⟨.ro, Reg.LAM_LINE_ABSENT n⟩, ⟨.ro, Reg.LAM_LINE_FLAPS n⟩]⟩,
   ⟨0x5c, [⟨.rwl, Reg.LAM_WIN_LO n⟩, ⟨.rwl, Reg.LAM_WIN_HI n⟩]⟩,
   ⟨0x60, [⟨.rw, Reg.LAM_LOOP_KI n⟩, ⟨.rw, Reg.LAM_LOOP_DITH n⟩, ⟨.rw, Reg.LAM_LOOP_TX_SET n⟩]⟩,
   ⟨0x64, [⟨.rw, Reg.LAM_FF_GAIN n⟩, ⟨.rw, Reg.LAM_FF_RAMP n⟩]⟩,
   ⟨0x68, [⟨.rw, Reg.LAM_CAL_INTERVAL n⟩, ⟨.ro, Reg.LAM_CAL_NEXT n⟩]⟩,
   ⟨0x6c, [⟨.rc, Reg.LAM_SWAP_DONE n⟩, ⟨.rc, Reg.LAM_SWAP_FAILED n⟩, ⟨.rc, Reg.LAM_SWAP_NOSPARE n⟩]⟩]

/-- The cards of page TTt. -/
def cardsTTt (n : Nat) (_bank : Nat) : List Card :=
  [⟨0x40, [⟨.ro, Reg.TT_STAT_STATE n⟩, ⟨.ro, Reg.TT_STAT_WIN n⟩, ⟨.ro, Reg.TT_STAT_SETS n⟩, ⟨.ro, Reg.TT_STAT_GATED n⟩]⟩,
   ⟨0x44, [⟨.ro, Reg.TT_PREC_CEIL n⟩, ⟨.ro, Reg.TT_PREC_AGE n⟩]⟩] ++
  (List.range 8).map (fun k => ⟨(0x48 + 4 * k), [⟨.ro, Reg.TT_SLOT_SETID n k⟩, ⟨.ro, Reg.TT_SLOT_Q8 n k⟩, ⟨.ro, Reg.TT_SLOT_VALID n k⟩, ⟨.ro, Reg.TT_SLOT_ACTIVE n k⟩]⟩) ++
  [⟨0x68, [⟨.rc, Reg.TT_CNT_CALS n⟩, ⟨.rc, Reg.TT_CNT_SWAPS n⟩]⟩]

/-- The cards of a page (Table PAGE-1); none on a fabric-owned or unassigned page. -/
def cardsOf (page bank : Nat) : List Card :=
  match page with
  | 0 => cardsKEEP bank
  | 1 => cardsCLK bank
  | 2 => cardsPWR bank
  | 3 => cardsFAULT bank
  | 4 => cardsHEAT bank
  | 5 => cardsCFG bank
  | 6 => cardsCELL bank
  | 7 => cardsTWIN bank
  | 8 => cardsQOS bank
  | 9 => cardsSTRM bank
  | 10 => cardsROUTE bank
  | 11 => cardsTIME bank
  | 12 => cardsCOMB bank
  | 13 => cardsTEG bank
  | 14 => cardsMBOX bank
  | p =>
    if 16 ≤ p ∧ p < 40 then cardsHPn (p - 16) bank
    else if 48 ≤ p ∧ p < 64 then cardsOPn (p - 48) bank
    else if 64 ≤ p ∧ p < 80 then cardsLAMn (p - 64) bank
    else if 96 ≤ p ∧ p < 128 then cardsTTt (p - 96) bank
    else []

/-- A page of Table PAGE-1 that is assigned. -/
def pageAssigned (p : Nat) : Bool :=
  decide (p ≤ 14) || (decide (16 ≤ p) && decide (p < 40)) || (decide (48 ≤ p) && decide (p < 80)) ||
    (decide (96 ≤ p) && decide (p < 192))

/-- A fabric-owned page (R91). -/
def pageFabric (p : Nat) : Bool := decide (128 ≤ p) && decide (p < 192)

/-- The header registers that act by access type alone: CTL, ERR, ERR_MSK, EVT, EVT_EN (R90). On page FAULT bit 2 of ERR_MSK reads 0 and ignores writes; the operation that writes it sees to that. -/
def cardsHeader (p : Nat) : List Card :=
  [⟨0x8, [⟨.w1s, Reg.LOCK p⟩, ⟨.rw, Reg.IRQ_EN p⟩]⟩, ⟨0x10, [⟨.w1c, Reg.ERR p⟩]⟩, ⟨0x14, [⟨.rw, Reg.ERR_MSK p⟩]⟩,
   ⟨0x18, [⟨.w1c, Reg.EVT p⟩]⟩, ⟨0x1C, [⟨.rw, Reg.EVT_EN p⟩]⟩]

/-- The fields of the register at an offset of a page. -/
def fieldsAt (page off bank : Nat) : List CardField :=
  match (cardsHeader page ++ cardsOf page bank).find? (fun c => c.off == off) with
  | some c => c.fields
  | none => []

end Sys2Proof.Machine
end

