-- ==== Sys2Proof/Machine/State.lean ====
section
/-! DEFINITION. The state of the block as plain data: the register fields of every page, the keeper's own state, what survives without power, the state of each unit behind the registers, what the block has sent, and the queue of waiting commands. Each field's default is its value right after the power-on reset. -/

namespace Sys2Proof.Machine

/-- Why the machine stops. -/
inductive Fault where
  /-- A state that no command of the spec reaches; raised by no command. Safe. -/
  | unreachable
  deriving DecidableEq, Repr

/-- Why a command has no meaning. -/
inductive Refusal where
  /-- A row of the opcode table without a meaning yet; raised by its arm of exec. Safe. -/
  | notModelled (mnemonic : String)
  deriving DecidableEq, Repr

/-- What waits for a Cellar page program before the isolation of a reset or a shutdown (R87, R353). -/
inductive HoldCause where
  | pin | software | thermal
  deriving DecidableEq, Repr

/-- A running undo of power-up steps (R82): the lowest state it goes down to, and whether PWR_EN is sampled when it reaches KEEP (R80, R84). -/
structure Undo where
  target : Nat
  sample : Bool
  /-- Ended by a lowered target rather than by an off request, a failure or the Trapdoor: the target is read again at the end (R77). -/
  again  : Bool
  deriving DecidableEq, Repr

/-- An entry of the Shelf (R362). -/
structure ShelfEntry where
  code    : Nat
  bit     : Nat
  errbit  : Nat
  page    : Nat
  coarse  : Bool
  suspect : Bool
  time    : Nat
  deriving DecidableEq, Repr

/-- The fatal dump's progress (R371): none, due, or running. -/
inductive DumpPhase where
  | idle | due | running
  deriving DecidableEq, Repr

/-- The keeper domain beyond its register pages. -/
structure Keep where
  /-- VAUX is good (R51). -/
  vauxGood : Bool := true
  /-- VBAT holds the key memory (R54, R387). -/
  vbatHolds : Bool := true
  /-- The rails whose monitors report good (R52, R385). -/
  railsGood : RailMask := 0
  /-- Filtered pin levels (R64). -/
  pwrEn : Bool := false
  wakeN : Bool := true
  faultInN : Bool := true
  resetN : Bool := true
  /-- The level PWR_EN is treated as (R66). -/
  pwrEnTaken : Bool := false
  /-- Filtered edges of the running storm window (R66). -/
  edgesPwrEn : Nat := 0
  edgesWakeN : Nat := 0
  edgesFaultInN : Nat := 0
  /-- The thermal-shutdown latch (R352). -/
  thermLatch : Bool := false
  /-- A Cellar page program that the isolation of a reset or shutdown waits for (R87). -/
  hold : Option HoldCause := none
  /-- A reset is held (R87). -/
  inReset : Bool := false
  /-- A running undo (R82). -/
  undo : Option Undo := none
  /-- An orderly power-down is owed after the Trapdoor (R369). -/
  trapDown : Bool := false
  /-- The FAULT_N pulse runs (R363). -/
  pulse : Bool := false
  /-- The level of ALIVE (R61). -/
  alive : Bool := false
  /-- The watchdog is armed; a kick has arrived within 1.5 ms (R364). -/
  hkArmed : Bool := false
  hkFresh : Bool := false
  /-- MGMT, and the other domains, are powered and clocked (R58, R80). -/
  mgmtOn : Bool := false
  domainsOn : Bool := false
  /-- The model clock when the running transition was requested (R75). -/
  seqStart : Nat := 0
  /-- The model clock at the latched off request, and at the latest write of PWR_TGT (R75, R77, R82). -/
  offStart : Nat := 0
  tgtStart : Nat := 0
  /-- The rail watch is open: from the end of S1 until KEEP is reached (R53). -/
  railWatch : Bool := false
  /-- The Shelf, newest first (R362). -/
  shelf : List ShelfEntry := []
  /-- The fatal dump (R371), and the slot pages its writer skips (R297). -/
  dump : DumpPhase := .idle
  dumpSkip : List Nat := []
  /-- FTIME when the running dump started (Table FAULT-6). -/
  dumpStart : Nat := 0
  /-- The Trapdoor started during the climb in progress, which stops at its next abort point (R368). -/
  trapStop : Bool := false
  /-- The collector's last evaluation of the Trapdoor condition (R366). -/
  inTrap : Bool := false
  /-- P3 has ended while P2 still runs (Table PWR-6). -/
  p3Done : Bool := false
  /-- FTIME, and the model clock, when CORE last stopped (R360). -/
  lastFtime : Nat := 0
  coreStop : Nat := 0
  deriving DecidableEq, Repr

/-- A directory entry of a Loft object (R295). -/
structure LoftEntry where
  committed : Bool := false
  len       : Nat := 0
  digest    : List Byte := []
  gen       : Nat := 0
  deriving DecidableEq, Repr

/-- The state of an Attic slot (R297). -/
inductive AtticState where
  | free | writing | full | part
  deriving DecidableEq, Repr

/-- What a ring map saves of one ring (R184): its heater code and slot, its pitch and coefficients, and its marks. -/
structure RingSaved where
  code   : Nat := 0
  slot   : Nat := 0
  pitch  : Nat := 0
  coeff  : Int := 0
  bad    : Bool := false
  absent : Bool := false
  deriving DecidableEq, Repr

/-- A committed copy of the ring map (R184, R296): its age, its format, the chiplet's fuse serial number, the saved rings, and the SHA-256 that closes it. -/
structure CalCopy where
  gen   : Nat
  format : Nat
  serial : Nat
  /-- Tj at each bank's sensor S32 to S63 at the save, in eighths of a degree. -/
  tj    : List Int
  /-- TX_ROT and RX_ROT of each port, and whether it ran Brynn mode. -/
  rots  : List (Nat × Nat × Bool)
  rings : Table RingSaved
  digest : List Byte
  deriving DecidableEq, Repr

/-- An open program intent (R300): the logical page, its data and write sequence number before the program. -/
structure Intent where
  page : Nat
  old  : List Byte
  seq  : Nat
  deriving DecidableEq, Repr

/-- A Cellar request (R313) with what the Cellar meets when it serves it. -/
inductive CellReq where
  | read (part off len tag : Nat) (env : CellEnv)
  | write (part off tag : Nat) (bytes : List Byte) (env : CellEnv)
  deriving DecidableEq, Repr

/-- What survives without power: the key memory and the Cellar die. -/
structure Nv where
  /-- The battery key memory (R54, R119). -/
  batteryKey : Option (List Byte) := none
  /-- The 60 GiB of logical bytes of the Cellar (R293, R294), by byte address. -/
  mem : List Host.Cell := []
  /-- The Loft directory: objects 0 and 1 firmware slots, 2 to 17 personality slots (R295). -/
  loft : Table LoftEntry := []
  /-- The Attic directory (R297). -/
  attic : Table AtticState := []
  /-- USER pages marked TORN (R301). -/
  tornUser : List Nat := []
  /-- Pages whose data a failed program has lost, with no replacement page left (R304): reads of them give free bytes. -/
  lost : List Nat := []
  /-- Physical pages retired as grown defects, with the replacement page each is remapped to (R303), and how many there are. -/
  retired : Table (Option Nat) := []
  grown   : Nat := 0
  /-- Open program intents (R300). -/
  intents : List Intent := []
  /-- Factory-defect pages, which drew on the replacement pool at manufacture (R293). -/
  factory : Nat := 0
  /-- Write sequence numbers (R292, R300): the latest, and that of each logical page. -/
  writeNo : Nat := 0
  pageSeq : Table Nat := []
  /-- Page programs of each physical extent (R305). -/
  wear : Table Nat := []
  /-- Logical extents that are not on the physical extent of the same number (R306). -/
  emap : Table (Option Nat) := []
  /-- The committed boot count (R299). -/
  bootCount : Nat := 0
  /-- The two copies of the ring map (R184, R296). -/
  calA : Option CalCopy := none
  calB : Option CalCopy := none
  /-- Tiles with a correction record in CAL (R286, R296): whether copy B is the newer. -/
  tileCorr : Table (Option Bool) := []
  /-- The running and the staging set of golden signatures, by frame (R134, R296), and which of the two places in GOLD the running one has. -/
  goldSet : Bool := false
  gold : Table (List Byte) := []
  goldStaged : Table (List Byte) := []
  deriving DecidableEq, Repr

/-- A running mailbox command (R107): its opcode and arguments, and the code and results it will end with. -/
structure MboxRun where
  op    : Nat
  args  : List Nat
  code  : Nat
  res   : List Nat
  start : Nat
  /-- It ends with an event of its own (the load, the swap, the slot, the pairing) rather than with MBOX_COMMAND_END. -/
  wait  : Bool := false
  deriving DecidableEq, Repr

/-- A REGACC access (R104): waiting for Capture-DR with its status and data; the model clock by which it has completed (R100); and whether a Capture-DR has found it not completed. -/
structure RegAccRun where
  status : Nat
  rdata  : Nat
  due    : Nat
  late   : Bool := false
  deriving DecidableEq, Repr

/-- The instruction in the Hatch instruction register (R103). -/
inductive HatchIr where
  | extest | idcode | samplePreload | regacc | cfgload | bypass
  deriving DecidableEq, Repr

/-- Where a personality load comes from (R121). -/
inductive LoadSrc where
  | loft | chain | hatch
  deriving DecidableEq, Repr

/-- The header a load has accepted (Table CFG-4). -/
structure LoadHdr where
  fabN    : Nat
  wide    : Nat
  pmask   : Nat
  persId  : Nat
  salt    : List Byte
  records : Nat
  enc     : Bool
  digest  : List Byte
  deriving DecidableEq, Repr

/-- Where a frame written from a Loft slot came from (R135): the byte of the slot its record starts at, and the frame key and SALT in force for it; no key where it came in clear. -/
structure FrameSrc where
  pos  : Nat
  key  : Option (List Byte)
  salt : List Byte
  deriving DecidableEq, Repr

/-- A running personality load (R121 to R131). -/
structure LoadRun where
  src       : LoadSrc
  slot      : Nat
  /-- The host-port mask of PERS_LOAD; all 24 ports at S10. -/
  hpMask    : Nat
  /-- Started by S10 rather than by PERS_LOAD. -/
  atS10     : Bool
  /-- The alternate slot has been tried (R122). -/
  altTried  : Bool := false
  hdr       : Option LoadHdr := none
  nextFrame : Nat := 0
  frameKey  : Option (List Byte) := none
  keyBytes  : Nat := 0
  /-- Loft: the bytes of the slot read so far, its length, and its commit generation when the load began (R122, R131, R135). -/
  pos       : Nat := 0
  len       : Nat := 0
  gen       : Nat := 0
  /-- The partitions this load holds. -/
  held      : Nat := 0
  /-- The frames written, with where each came from (R135). -/
  written   : Table (Option FrameSrc) := []
  /-- A chain member has seen the start marker; its segment; and how many segments remain. -/
  started   : Bool := false
  segSeen   : Bool := false
  remain    : Nat := 0
  deriving DecidableEq, Repr

/-- Where a partition's configuration came from (R135). -/
structure LoadedFrom where
  src : LoadSrc := .hatch
  slot : Nat := 0
  gen : Nat := 0
  persId : Nat := 0
  deriving DecidableEq, Repr

/-- The chain (R125, R126). -/
structure Chain where
  /-- Segments that remain to be forwarded after this chiplet's own RELEASE. -/
  forward  : Nat := 0
  /-- This chiplet's own RELEASE has been applied, and the rest of the stream is to be forwarded. -/
  ownDone  : Bool := false
  /-- The rest of the stream comes through the Hatch; or from a Loft slot: its object, the bytes read so far and its length. -/
  hatch    : Bool := false
  loft     : Option (Nat × Nat × Nat) := none
  deriving DecidableEq, Repr

/-- An ECS_CTL transaction that runs or waits (R168, R169). -/
structure EcsTxn where
  write : Bool
  addr  : Nat
  data  : Nat
  /-- Requested by software through COMB_ECS_REQ (else by Isax itself). -/
  sw    : Bool
  deriving DecidableEq, Repr

/-- A comb module's controller (R167 to R169). -/
structure Ecs where
  en       : Bool := false
  queue    : List EcsTxn := []
  attempts : Nat := 0
  status   : Nat := 0
  power    : Nat := 0
  /-- The module's own cause code, recorded and not interpreted (Table COMB-2). -/
  faultCode : Nat := 0
  /-- The input detector is masked as storming, and its live level (R193). -/
  lolMask  : Bool := false
  lolLive  : Bool := false
  deriving DecidableEq, Repr

/-- The state of a sensor between conversions (R342 to R349). -/
structure Sensor where
  tj    : Int := 0
  valid : Bool := false
  fault : Bool := false
  fails : Nat := 0
  goods : Nat := 0
  band  : Nat := 4
  st    : Nat := 0
  duty  : Nat := 0
  deriving DecidableEq, Repr

/-- The MGMT domain beyond its register pages. -/
structure Mgmt where
  /-- Fuse shadows are read (S4). -/
  fuseRead : Bool := false
  /-- The boot ROM runs and serves the mailbox (S5). -/
  hkRun : Bool := false
  /-- The firmware slot that runs, with its commit generation when it was loaded (R295); none while the boot ROM serves (R105, R401). -/
  fwSlot : Option (Nat × Nat) := none
  /-- The running mailbox command (R107). -/
  mbox : Option MboxRun := none
  /-- MBOX_RES0 to MBOX_RES7 (R107). -/
  mboxRes : List Word := [0, 0, 0, 0, 0, 0, 0, 0]
  /-- The Hatch (R103, R104). -/
  hatchIr : HatchIr := .idcode
  regacc : Option RegAccRun := none
  bscan : List Bool := []
  extest : Bool := false
  /-- Registers that hold a parity error, by address (R99). -/
  parityBad : List Nat := []
  /-- The running personality load. -/
  load : Option LoadRun := none
  /-- Keys loaded in the configuration engine (R118). -/
  engineFuse : Bool := false
  engineBat : Option (List Byte) := none
  /-- Battery-key staging registers (R119). -/
  bkey : List Nat := [0, 0, 0, 0, 0, 0, 0, 0]
  /-- Configuration memory, by frame target (R110); an unlisted frame is blank. -/
  cfgMem : Table (List Byte) := []
  /-- Provenance of each partition's configuration (R135). -/
  loadedFrom : Table LoadedFrom := []
  /-- Where the frames of the released configurations came from (R135). -/
  frameSrc : Table (Option FrameSrc) := []
  /-- Partitions whose running personality has committed signatures, as a mask (R134). -/
  goldOk : Nat := 0
  /-- Partitions held because they have not been loaded (R128). -/
  cfgHeld : Nat := 0x1FFFFFF
  /-- The scrubber's next frame (R133). -/
  scrubNext : Nat := 0
  /-- The CFGLOAD FIFO (R123), oldest first. -/
  hatchFifo : List Word := []
  chain : Chain := {}
  /-- The FAB PLL relocks and holds the fabric (R73). -/
  fabHold : Bool := false
  /-- The comb modules' controllers, COMB0 to COMB3 and COMBS. -/
  ecs : Table Ecs := []
  /-- Logical pages listed for rewriting when the window opens (R309). -/
  deferred : List Nat := []
  /-- The levelling move that runs: the logical extent and the two physical extents (R306). -/
  wl : Option (Nat × Nat × Nat) := none
  /-- A move that a closed write window abandoned, to be tried again when it opens (R306). -/
  wlRetry : Option (Nat × Nat × Nat) := none
  /-- Cellar requests that wait for the extent under the levelling move, in order (R306, R312). -/
  cellWait : List CellReq := []
  /-- A refresh pass at the B4 pace after a mount (R308). -/
  firstPass : Bool := false
  /-- Sensors S0 to S95. -/
  sensors : Table Sensor := []
  /-- The sixteenth of the 1 us pause period that runs (R348). -/
  pausePart : Nat := 0
  /-- The rings each quad's sweep engine still has to sweep, in order, with the sweeps left for each (R179). -/
  sweep : Table (List (Nat × Nat)) := []
  /-- What the sweeps of a bank's slots have found: pitch, and the code of each line, none where absent (R177). -/
  swept : Table (Option (Nat × List (Option Nat))) := []
  /-- Slots swept alone in this warm S12 (R185). -/
  lone : List Nat := []
  /-- The ports under RING_SEARCH (R180). -/
  searchPorts : Nat := 0
  /-- The ring map as P2 found it, which P3 saves (Table PWR-6). -/
  mapStash : Option CalCopy := none
  deriving DecidableEq, Repr

/-- A primitive of the personality toward the stream engine (Table FLEET-2). -/
inductive Primitive where
  | streamOpen (req : OpenReq)
  | streamClose (sid : Nat)
  | streamSend (sid : Nat) (payload : List Byte)
  | transaction (t : Txn)
  | completion (c : TargetCpl)
  deriving DecidableEq, Repr

/-- Something that waits in a module for its host (Table FLEET-2, Table TWIN-2). -/
inductive Delivery where
  /-- A frame of a RECV stream: SID, sequence, generation, payload (R227). -/
  | stream (sid seq gen : Nat) (payload : List Byte)
  /-- A transaction's completion: tag, status of Table STRM-5, data. -/
  | cpl (tag status : Nat) (data : List Byte)
  /-- Output of a queue of the transit engine (R266). -/
  | engine (q : Nat) (payload : List Byte)
  /-- A completion record of the transit engine (Table TE-5), as its four words. -/
  | record (words : List Nat)
  /-- RELEASE, RESUME_SEND and RESUME_RECV (Table TWIN-2). -/
  | release (sid gen seq : Nat)
  | resumeSend (sid gen seq : Nat)
  | resumeRecv (sid : Nat)
  /-- A transfer returned by loop-back mode 2, by its blocks; a primitive of the personality so returned (R162). -/
  | looped (blocks : Nat)
  | returned (p : Primitive)
  deriving DecidableEq, Repr

/-- A pending heat hint (R149): when it falls due on the model clock, and its step in watts. -/
structure Hint where
  due  : Nat
  step : Int
  deriving DecidableEq, Repr

/-- A host-port module beyond its registers. -/
structure Hp where
  /-- The sideband is trained; X40_CAP has come on it (R139). -/
  sbUp : Bool := false
  x40  : Bool := false
  /-- CR_INIT of the current epoch has been sent (R153). -/
  crSent : Bool := false
  /-- CR_INIT_ACK has come while the gates were closed (R141). -/
  crAcked : Bool := false
  /-- The ingress transfers whose last beat has not arrived, with the blocks held of each; none for one that was sent without credit, the rest of which is discarded too (R143, R155). -/
  parts : List (Nat × Option Nat) := []
  /-- The complete ingress transfers held, by their blocks, oldest first (R143, R154). -/
  whole : List Nat := []
  /-- Egress credits held, and deliveries that wait, oldest first (R155). -/
  egr : Nat := 0
  deliveries : List Delivery := []
  /-- Pending heat hints, in order of arrival (R149). -/
  hints : List Hint := []
  /-- The URG wire's filtered level (R159). -/
  level : Bool := false
  /-- The URG wire is taken as active; it waits to be inactive for 10 us (R159 to R161). -/
  urg : Bool := false
  urgWait : Bool := false
  /-- Filtered edges of the URG wire in the storm window (R161). -/
  urgEdges : Nat := 0
  /-- Isax's L1 request is out (R142). -/
  l1Req : Bool := false
  /-- Every receive lane of the Wide port has locked (R152). -/
  wideLock : Bool := false
  /-- PRBS31 bit errors of each lane in a loop-back (HP_LB_ERR). -/
  lbErr : Table Nat := []
  deriving DecidableEq, Repr

/-- The transmitting end of a running spare swap (R187 to R189). -/
structure SwapT where
  id     : Nat
  lane   : Nat
  old    : Nat
  new    : Nat
  /-- The second spare is being tried (R189). -/
  again  : Bool
  /-- For rolling calibration, or from LINE_SWAP. -/
  cal    : Bool
  cmd    : Bool
  /-- SWAP_CANCEL has been sent. -/
  cancel : Bool
  /-- The lane's old line is lost (R190). -/
  lost   : Bool := false
  deriving DecidableEq, Repr

/-- A need for a spare swap (R187): the lane, the spare named, whether the line is lost, and who asks. -/
structure SwapWant where
  lane  : Nat
  fixed : Option Nat := none
  lost  : Bool := false
  cal   : Bool := false
  cmd   : Bool := false
  deriving DecidableEq, Repr

/-- The receiving end of a swap (R188): how it was answered, none while the spare aligns. -/
structure SwapR where
  id    : Nat
  lane  : Nat
  old   : Nat
  new   : Nat
  nak   : Nat := 0
  ready : Bool := false
  deriving DecidableEq, Repr

/-- Which low-power request a port has sent and awaits an answer to (R214). -/
inductive LpsReq where
  | none | nap | doze
  deriving DecidableEq, Repr

/-- An optical port beyond its registers. -/
structure Op where
  /-- Logical lane to line (R205). -/
  remapTx : List Nat := List.range 32
  remapRx : List Nat := List.range 32
  swapT : Option SwapT := none
  swapQ : List SwapWant := []
  swapR : Option SwapR := none
  /-- Unanswered SWAP_ASKs: lane and cause (R187). -/
  asks : List (Nat × Nat) := []
  /-- ID of the latest swap started, and of the latest one done. -/
  swapId : Nat := 0
  swapDone : Option Nat := none
  /-- The line under rolling calibration, and the lane moved off it; at the receiving end, the line CAL_LINE names (R191). -/
  cal : Option (Nat × Option Nat) := none
  calRx : Option Nat := none
  /-- Lanes found dark in the attempt, as a mask (R211). -/
  dark : Nat := 0
  /-- Link credits held, blocks occupied in the receive buffer and freed blocks to return, per pool (R208). -/
  txCr : List Nat := List.replicate 16 0
  rxOcc : List Nat := List.replicate 16 0
  rxFreed : List Nat := List.replicate 16 0
  /-- The epoch this end grants under. -/
  rxEpoch : Nat := 0
  /-- Training progress in T5 and T6 (R209, R210): TRAIN_ACK sent, and received. -/
  ackSent : Bool := false
  ackGot : Bool := false
  /-- The latest TRAIN_ID of the attempt (R210). -/
  peerId : Option TrainId := none
  /-- Brynn mode as this attempt, and the link it makes, runs it (R217); none before the first. -/
  brynn : Option Bool := none
  /-- The port holds in T5 (R210). -/
  held : Bool := false
  /-- The transmitter is stopped for want of a spare (R190). -/
  exhausted : Bool := false
  /-- The link-loss timer runs; every receive line is low (R213). -/
  lossTimer : Bool := false
  rxLow : Bool := false
  lps : LpsReq := .none
  /-- A wake runs; the port loops at the peer's request; a LOOP_REQ awaits its answer (R215, R216). -/
  waking : Bool := false
  farLoop : Bool := false
  loopReq : Option Bool := none
  /-- t1 of the outstanding TIME_REQ; the peer's distance (R219). -/
  t1 : Option Nat := none
  peerDist : Nat := 63
  /-- Lanes that reached the error limit in the window, as a mask, and the corrected symbols of each lane in it (R206). -/
  errLanes : Nat := 0
  errs : Table Nat := []
  /-- Link-control messages that wait for the port to wake, or for their turn: code and fields (R215, R250). -/
  lctlQ : List (Nat × List Nat) := []
  /-- The last frame sent took no token: a token-granted one that waits goes before the next such frame (R250). -/
  owed : Bool := false
  /-- Bit errors of each lane in a loop-back (OP_LB_ERR). -/
  lbErr : Table Nat := []
  /-- The Pantry: slot to the stream or channel frame it holds (R237). -/
  pantry : Table (Option Frame) := []
  /-- Frames without a Pantry slot that wait for credit (R230, R250). -/
  ackQ : List Frame := []
  /-- A node's claim being answered, with its promotion count (R333). -/
  claim : Option (Nat × Nat) := none
  deriving DecidableEq, Repr

/-- A line of a bank with the ring that serves it (R165 to R192). -/
structure Ring where
  code   : Nat := 0
  /-- The slot of the ring that serves the line, plus one; 0 where no ring does. -/
  slot   : Nat := 0
  lock   : Bool := false
  bad    : Bool := false
  absent : Bool := false
  flaps  : Nat := 0
  /-- The line's detector is masked as storming (R193). -/
  masked : Bool := false
  /-- The loop holds the heater code; light is low; the ring is parked at a rail (R182). -/
  frozen : Bool := false
  low    : Bool := false
  /-- The drop photodetector of a receive line is below one eighth of its value at lock (Table LAM-4). -/
  los    : Bool := false
  parked : Bool := false
  pitch  : Nat := 0
  coeff  : Int := 0
  deriving DecidableEq, Repr

/-- A frame that has been sent and is not acknowledged (R226, R237): its sequence, the Pantry slot it occupies, the port it last left on, the master and class it is charged to, and its replays. -/
structure Unacked where
  seq     : Nat
  port    : Nat
  slot    : Nat
  last    : Nat
  master  : Nat
  tc      : Nat
  replays : Nat := 0
  /-- Released by a selective range, with its Pantry slot kept until twin-confirmed (R233, R327). -/
  ranged  : Bool := false
  deriving DecidableEq, Repr

/-- A stream context (R221). State codes are those of Table STRM-2. -/
structure Ctx where
  state    : Nat := 0
  recv     : Bool := false
  sel      : Bool := false
  brynn    : Bool := false
  tc       : Nat := 0
  cause    : Bool := false
  gen      : Nat := 0
  peerNode : Nat := 0
  peerSid  : Nat := 0
  /-- SEND: the next sequence to send. RECV: CUM. -/
  seq      : Nat := 0
  /-- SEND: the last valid CUM received. RECV: the last CUM sent. -/
  acked    : Nat := 0
  /-- SEND: frames unacknowledged, oldest first. -/
  unack    : List Unacked := []
  /-- RECV: frames held for reordering (R234), by sequence. -/
  held     : List (Nat × List Byte) := []
  replays  : Nat := 0
  /-- The module the stream was opened through. -/
  module   : Nat := 0
  /-- RECV: the host-accepted point; and the point the standby has confirmed (R323, R327). -/
  accepted : Nat := 0
  conf     : Nat := 0
  /-- RECV, copied to a promoted standby: 1 not yet resumed, 2 waiting for the host's answer (R335). -/
  resume   : Nat := 0
  deriving DecidableEq, Repr

/-- A transaction channel (R239): outgoing, the next sequence, the last acknowledged one and the frames unacknowledged; incoming, the sequence expected, the last CA_SEQ sent and whether an acknowledgement is due; the frames replayed. -/
structure Chan where
  seq     : Nat := 0
  acked   : Nat := 0
  unack   : List Unacked := []
  due     : Bool := false
  replays : Nat := 0
  deriving DecidableEq, Repr

/-- An outstanding transaction (R241). -/
structure TagRec where
  master : Nat
  node   : Nat
  op     : Nat
  opx    : Nat
  addr   : Nat
  deriving DecidableEq, Repr

/-- The stream engine (R221 to R247). -/
structure Strm where
  larder : Table Ctx := []
  /-- Channels by 2 x node, plus 1 for the incoming one. -/
  chans  : Table Chan := []
  tags   : Table (Option TagRec) := []
  /-- RECV SIDs whose acknowledgement is due in this window (R230). -/
  due    : List Nat := []
  /-- Channel-reset count last seen from each node, plus 1 (R336). -/
  resetSeen : Table Nat := []
  /-- Nodes that owe an answer to this chiplet's channel reset (R336). -/
  resetOwed : List Nat := []
  /-- SPREAD: the alternate, plus 1, that a stream of destination SID d at node N is bound to, by 2^21 N + d (R27). -/
  binds : Table Nat := []
  deriving DecidableEq, Repr

/-- What a request at an arbitration point will do when it is granted. -/
inductive QItem where
  /-- A stream's or channel's frame passes the intake; the port and the Pantry slot that holds it (R237, R248). -/
  | enter (port slot : Nat)
  /-- A frame of a stream with this node itself passes the intake; the SEND context (R225). -/
  | own (sid : Nat) (f : Frame)
  /-- A send that waits at the intake for a Pantry slot; its SEND context and payload (R237, R259). -/
  | hold (sid : Nat) (payload : List Byte)
  /-- Other traffic that enters CORE (R251, R314, R321). -/
  | core
  /-- The frame in a Pantry slot leaves, as a replay or not (R237). -/
  | slot (port slot : Nat) (rpl : Bool)
  /-- A relayed frame leaves; the receiving port and pool whose blocks it frees (R244). -/
  | relay (f : Frame) (port pool : Nat)
  deriving DecidableEq, Repr

/-- A request that waits at a point (R248, R255, R259). -/
structure QReq where
  /-- 0 to 27 for M0 to M27, 28 for RLY. -/
  master : Nat
  tc     : Nat
  /-- Tokens it needs, and tokens it has drawn. -/
  cost   : Nat
  got    : Nat := 0
  /-- When it was presented, on the model clock. -/
  born   : Nat
  /-- Nanoseconds held, as a head, by each cause of R259. -/
  holds  : List Nat := [0, 0, 0, 0]
  /-- Its target miss has been judged; its wait for a new round counted. -/
  judged : Bool := false
  overdue : Bool := false
  /-- Blocks it frees in its module's ingress buffer as it enters CORE (R154). -/
  ing    : Nat := 0
  item   : QItem
  deriving DecidableEq, Repr

/-- An arbitration point (R252, R261). A fresh point has dealt no token yet: its first request begins its first round. -/
structure QosPoint where
  dealt   : Bool := false
  /-- Tokens in the buckets of M0 to M27 and RLY. -/
  buckets : List Nat := []
  pool    : Nat := 0
  rsv     : Nat := 0
  /-- Tokens of blocks that have gone through, which the next round deals again; all of them at a point that has not dealt. -/
  spent   : Nat := 1024
  /-- SHARE of each requester as dealt, what each has received in the round, and who has waited throughout. -/
  share   : List Nat := []
  recvd   : List Nat := []
  whole   : List Bool := []
  waiting : List QReq := []
  last    : Nat := 28
  deriving DecidableEq, Repr

/-- A set of weights (R268, R273): its name, width, used rows, and each row's exponent. -/
structure WSet where
  setid : Nat
  q8    : Bool
  klen  : Nat
  rows  : List (List Int)
  exps  : List Int
  deriving DecidableEq, Repr

/-- A tile (R265, R273, R285). -/
structure Tile where
  slots  : List (Option WSet) := List.replicate 8 none
  active : Option Nat := none
  /-- Descriptors in the execution window. -/
  win    : Nat := 0
  /-- It takes no dispatches: it drains before its measurement. -/
  drain  : Bool := false
  /-- When its last measurement ended, on the model clock; none before the first. -/
  meas   : Option Nat := none
  /-- It must measure before it works again. -/
  due    : Bool := false
  deriving DecidableEq, Repr

/-- What a dispatched descriptor has computed: status of Table TE-6, effective bits in 0.1 bit, counts, result values as mantissas and binary exponents, and a converted weight set. -/
structure Computed where
  status : Nat
  eb     : Nat := 0
  sat    : Nat := 0
  clip   : Nat := 0
  nan    : Nat := 0
  vals   : List (Int × Int) := []
  wset   : Option WSet := none
  deriving DecidableEq, Repr

/-- A descriptor in a queue (R275): its words, who submitted it, its inline data, the tile it runs on, its place in the order of dispatch, what it computed, whether its results are committed to the sink's buffer, and whether EVT.PREC_WAIT has been raised for it as the head (R290). -/
structure Desc where
  words  : List Nat
  port   : Nat
  inline : List Byte
  tile   : Option Nat := none
  ord    : Nat := 0
  res    : Option Computed := none
  laid   : Bool := false
  told   : Bool := false
  deriving DecidableEq, Repr

/-- A queue of the transit engine (R277 to R282). -/
structure TQueue where
  slots : List Desc := []
  /-- The accumulator's rows and vectors, and its FP32 words; none while it is zero (R280). -/
  accV  : Nat := 0
  accN  : Nat := 0
  acc   : Option (List Nat) := none
  /-- Bytes that have arrived from FEED0 and FEED1. -/
  feed0 : List Byte := []
  feed1 : List Byte := []
  /-- Output not yet sent. -/
  out   : List Byte := []
  deriving DecidableEq, Repr

/-- Where the rotation stands (R285). -/
inductive RotPhase where
  | none | drain | copy | measure | rest
  deriving DecidableEq, Repr

/-- The transit engine. -/
structure Te where
  queues : Table TQueue := []
  tiles  : Table Tile := []
  phase  : RotPhase := .none
  /-- The tile CAL_NOW named for the next boundary, and the one whose slot ends the command (R288). -/
  calNow : Option Nat := none
  calCmd : Option Nat := none
  /-- The start measurement runs (R287). -/
  start  : Bool := false
  /-- The tile that stands as the spare; the outgoing tile of the boundary or measurement that runs. -/
  spare  : Option Nat := none
  outg   : Option Nat := none
  /-- A failed tile whose sets wait for the spare's measurement (R289). -/
  failWait : Option Nat := none
  /-- Descriptors dispatched so far, and the queue of the latest (R278). -/
  ord    : Nat := 0
  lastQ  : Nat := 63
  deriving DecidableEq, Repr

/-- A record of the twin link that a batch carries (Table TWIN-1). -/
inductive TwinRec where
  | ctx (r : CtxRec)
  | route (r : RouteRec)
  | chan (node : Nat)
  deriving DecidableEq, Repr

/-- A sealed batch that waits for its confirmation (R324). -/
structure Batch where
  epoch : Nat
  recs  : List TwinRec
  deriving DecidableEq, Repr

/-- The twin link (R318 to R341). -/
structure Twin where
  /-- TWIN_CTL enable has been run; HELLO has been sent; the partner's HELLO. -/
  enabled : Bool := false
  sent    : Bool := false
  hello   : Option Hello := none
  /-- Records gathered for the open batch, and sealed batches not confirmed, oldest first. -/
  recs    : List TwinRec := []
  batches : List Batch := []
  /-- The next SID, or 2^21 plus the next route entry, of the sweep; the epoch that sealed the first pass's last record. -/
  sweep   : Nat := 0
  sweepEnd : Option Nat := none
  /-- Standby: records since the last seal; batches are discarded until the next epoch comes again. -/
  rx      : List TwinRec := []
  naked   : Bool := false
  /-- Nodes whose channels have carried traffic since pairing. -/
  chans   : List Nat := []
  /-- The claim that runs: when it began, its cause, and whether an ACK and a NAK have come (R333). -/
  claim   : Option (Nat × Nat × Bool × Bool) := none
  /-- The hand-over that waits for the confirmation of this epoch (R340). -/
  hand    : Option Nat := none
  /-- Silence lasts: nothing valid has arrived since it was found (R331, R333). -/
  quiet   : Bool := false
  /-- A failed lane is repaired onto the spare lane, transmitted and received (R321). -/
  laneTx  : Bool := false
  laneRx  : Bool := false
  deriving DecidableEq, Repr

/-- Something the block has sent, or an answer it has given. -/
inductive Out where
  /-- A register access completed: path, status of Table PAGE-2, data (R99, R100). -/
  | access (p : Path) (status : Nat) (data : Nat)
  /-- A sideband completion on module n: successful or UR, and data (R101). -/
  | sbCpl (n : Nat) (ok : Bool) (data : Nat)
  /-- What MSP_DO carries after the start bit: data bits for a read, and the status (R102). -/
  | mspOut (data : Option Nat) (status : Nat)
  /-- What a Hatch data register gives at Capture-DR (R103, R104). -/
  | tdo (bits : Nat) (value : Nat)
  | bscanOut (cells : List Bool)
  /-- A vendor-defined sideband message: module, subcode, payload (Table HP-4). -/
  | sbMsg (n : Nat) (subcode : Nat) (payload : Nat)
  /-- A credit or capability message that travels in band, on a module whose sideband is not trained (R147). -/
  | inBand (n : Nat) (subcode : Nat) (payload : Nat)
  /-- The answer to the features a partner asks for in parameter exchange: each with whether the module has it (R136, Table HP-1). -/
  | paramAnswer (n : Nat) (l : List (UcieFeature × Bool))
  /-- On a Wide port, named by its even module: Isax drives its training pattern; it ends it with 64 UI of zero beats with valid low, and idles (R152). -/
  | widePattern (n : Nat)
  | wideIdle (n : Nat)
  /-- Beats received on module n, passed to the fabric as received (R137). -/
  | beats (n : Nat) (bytes : List Byte)
  /-- A request on an ECS_CTL bus: module, OP, ADDR, DATA, CRC (Table COMB-1). -/
  | ecs (m : Nat) (op addr data crc : Nat)
  /-- A link-control message on a port: LCODE, the fields of its payload (Table LINK-6, Table TWIN-3), DST and SRC; HOP is 0 (R207). -/
  | lctl (n : Nat) (code : Nat) (fields : List Nat) (dst src : Nat)
  /-- A record on the twin link, of Table TWIN-1. -/
  | twinDown (reason : Nat)
  | twinRec (r : TwinRec)
  | twinHello (h : Hello)
  | twinSeal (epoch count : Nat) (crc : Nat)
  | twinConfirm (epoch : Nat)
  | twinNak (epoch : Nat)
  | twinBeat
  | twinHand (epoch : Nat)
  /-- The wake pattern on a port (R215). -/
  | wake (n : Nat)
  /-- A frame leaving on a port; one that a relay had to cut short, with the inverted CRC (R200). -/
  | frame (n : Nat) (f : Frame)
  | stomped (n : Nat) (f : Frame)
  /-- A delivery that the host of module n has accepted. -/
  | delivered (n : Nat) (d : Delivery)
  /-- Ingress credits returned in band to the host of module n (R154). -/
  | credits (n : Nat) (blocks : Nat)
  /-- A Cellar request's completion: partition, tag, status of Table CELL-5 (0 OK, 1 RANGE, 2 DENIED, 3 TEMP, 4 UE, 5 TORN, 6 SPARE), data (R313). -/
  | cellar (part tag status : Nat) (data : List Byte)
  /-- A remote transaction handed to the personality, which executes it (R241): requesting node, tag, operation, sub-operation, address, blocks wanted, data. -/
  | request (node tag op opx addr blocks : Nat) (data : List Byte)
  /-- An open's result (Table STRM-1): module, 0 OK, 1 NO_CONTEXT, 2 SID_BUSY, 3 BAD_PEER, and the SID. -/
  | opened (n : Nat) (result : Nat) (sid : Nat)
  /-- A send refused with NOT_OPEN (R224). -/
  | notOpen (n : Nat) (sid : Nat)
  /-- A request met a bound and waits for credit at its requester (R243). -/
  | stalled (n : Nat)
  /-- L1 requested, and an L1 or L2 request answered: module, and whether it is granted (R136, R142). -/
  | l1Request (n : Nat)
  | l1Leave (n : Nat)
  | l2Refused (n : Nat)
  /-- What Isax forwards on CFG_DO (R125): a start marker, a record, the end of the stream. -/
  | cfgStart
  | cfgRecord (r : Record)
  deriving DecidableEq, Repr

/-- The state of the block. -/
structure State where
  /-- Register fields that differ from their reset value, by `Fld.key`. -/
  regs    : Table Nat := []
  keep    : Keep := {}
  nv      : Nv := {}
  mgmt    : Mgmt := {}
  /-- The traffic gates are open (S14, R80). -/
  gates   : Bool := false
  hp      : Table Hp := []
  op      : Table Op := []
  rings   : Table Ring := []
  strm    : Strm := {}
  /-- ROUTE_DATA of bank b, entry e at key 1024 b + e (R25). -/
  routes  : Table Nat := []
  qos     : Table QosPoint := []
  te      : Te := {}
  twin    : Twin := {}
  /-- The host-power estimate of the tuning loops, in watts (R149). -/
  hostPower : Int := 0
  /-- FTIME (R219). -/
  ftime   : Nat := 0
  /-- What is left of the slew of FTIME toward the parent, in nanoseconds (R219). -/
  slew    : Int := 0
  /-- The MODEL's own clock: nanoseconds of idle steps. -/
  now     : Nat := 0
  /-- The MODEL's own counter of free values taken. -/
  fresh   : Nat := 0
  /-- The MODEL's own record of everything the block has sent, newest first. -/
  sent    : List Out := []
  /-- The commands that wait, first in first out. -/
  pending : List Instr := []
  deriving DecidableEq, Repr

/-- What a command answers. -/
abbrev Result := Host.Outcome State Fault Refusal

/-- The block right after the power-on reset, in KEEP with VAUX good. (DESIGN CHOICE: assumption 4) -/
def State.reset : State := {}

end Sys2Proof.Machine
end

