-- ==== Sys2Proof/Machine/Ops.lean ====
section
/-! DEFINITION. The named operations that every family shares: reading and writing register fields, the state's parts, what is sent, events and interrupts, errors and the fault collector, watermarks. -/

namespace Sys2Proof.Machine

/-! Register fields. -/

/-- The value of a register field. -/
def State.get (s : State) (f : Fld) : Nat := tget f.dflt s.regs f.key

/-- The state with a register field set, cut to the field's width. -/
def State.put (s : State) (f : Fld) (v : Nat) : State :=
  { s with regs := tset f.dflt s.regs f.key (v % 2 ^ f.width) }

/-- A field read as a truth value. -/
def State.bit (s : State) (f : Fld) : Bool := s.get f != 0

/-- A field set to a truth value. -/
def State.putB (s : State) (f : Fld) (b : Bool) : State := s.put f (b2n b)

/-- A counter raised by `n`, saturating at its width. -/
def State.bump (s : State) (f : Fld) (n : Nat := 1) : State := s.put f (min (s.get f + n) (2 ^ f.width - 1))

/-- A counter raised by one, wrapping at its width. -/
def State.incr (s : State) (f : Fld) : State := s.put f (s.get f + 1)

/-! The parts of the state. -/

def State.onKeep (s : State) (f : Keep → Keep) : State := { s with keep := f s.keep }
def State.onNv (s : State) (f : Nv → Nv) : State := { s with nv := f s.nv }
def State.onMgmt (s : State) (f : Mgmt → Mgmt) : State := { s with mgmt := f s.mgmt }
def State.onStrm (s : State) (f : Strm → Strm) : State := { s with strm := f s.strm }
def State.onTe (s : State) (f : Te → Te) : State := { s with te := f s.te }
def State.onTwin (s : State) (f : Twin → Twin) : State := { s with twin := f s.twin }

/-- Module HPn beyond its registers. -/
def State.hpAt (s : State) (n : Nat) : Hp := tget {} s.hp n
def State.onHp (s : State) (n : Nat) (f : Hp → Hp) : State := { s with hp := tset {} s.hp n (f (s.hpAt n)) }

/-- Port OPn beyond its registers. -/
def State.opAt (s : State) (n : Nat) : Op := tget {} s.op n
def State.onOp (s : State) (n : Nat) (f : Op → Op) : State := { s with op := tset {} s.op n (f (s.opAt n)) }

/-- Something sent, or an answer given. (DESIGN CHOICE: assumption 53) -/
def State.emit (s : State) (o : Out) : State := { s with sent := o :: s.sent }

/-- The state changed only where a condition holds. -/
def State.cond (s : State) (c : Bool) (f : State → State) : State := if c then f s else s

/-- A change made for every element of a list, in its order. -/
def State.forAll {α : Type} (s : State) (l : List α) (f : α → State → State) : State := l.foldl (fun s a => f a s) s

/-! Power state. -/

/-- The power state's code (Table PWR-1): KEEP 0, MGMT 1, DARK 2, LIT 3, RUN 4. -/
def State.power (s : State) : Nat := s.get Reg.PWR_STAT_STATE

/-- CORE is powered and clocked. -/
def State.coreClocked (s : State) : Bool := s.keep.domainsOn && bitOf (s.get Reg.CLK_STAT_LOCK) 1

/-- The sequencer is at step `k` of a climb. -/
def State.atStep (s : State) (k : Nat) : Bool := s.bit Reg.PWR_STAT_BUSY && !s.bit Reg.PWR_STAT_DIR && !s.bit Reg.PWR_STAT_WAIT_NODE_ID && s.get Reg.PWR_STAT_STEP == k

/-- TUNE is powered and clocked: its PLL has locked, and Isax is in LIT or above or climbs there from S11 on (Table CLK-1). (DEDUCED: assumption 56) -/
def State.tuneRuns (s : State) : Bool :=
  s.keep.domainsOn && bitOf (s.get Reg.CLK_STAT_LOCK) 2 &&
    (decide (3 ≤ s.power) || (s.bit Reg.PWR_STAT_BUSY && !s.bit Reg.PWR_STAT_DIR && decide (11 ≤ s.get Reg.PWR_STAT_STEP)))

/-- The rings are set: TUNE runs, in LIT or above or from S12 on. -/
def State.ringsOn (s : State) : Bool := s.tuneRuns && (decide (3 ≤ s.power) || decide (12 ≤ s.get Reg.PWR_STAT_STEP))

/-- The TE and CELL clocks run: the PLL of each has locked (Tables CLK-1, CLK-2); the Cellar is clocked from MGMT where a command has powered it (R298). -/
def State.teClocked (s : State) : Bool := s.keep.domainsOn && bitOf (s.get Reg.CLK_STAT_LOCK) 5
def State.cellClocked (s : State) : Bool := s.keep.mgmtOn && bitOf (s.get Reg.CLK_STAT_LOCK) 3

/-- Traffic is frozen: by the Trapdoor (R367), or because the CORE clock has stopped (Table CLK-2). (DESIGN CHOICE: assumption 35) -/
def State.frozen (s : State) : Bool := s.keep.inTrap || (s.keep.domainsOn && !s.coreClocked)

/-- The partitions held (R73, R128, R129): those never released, those the running load holds, and all of them while the FAB PLL relocks. -/
def State.heldMask (s : State) : Nat :=
  s.mgmt.cfgHeld ||| (match s.mgmt.load with | some l => l.held | none => 0) ||| (if s.mgmt.fabHold then 0x1FFFFFF else 0)

/-- Partition Pn, and with it module HPn, is held. -/
def State.held (s : State) (n : Nat) : Bool := bitOf s.heldMask n

/-- A page whose registers are powered and clocked: KEEP and PWR always, every other with MGMT (R68, R58). -/
def State.pageLive (s : State) (p : Nat) : Bool := p == 0 || p == 2 || s.keep.mgmtOn

/-! Events and interrupts. -/

/-- A page's interrupt line (R96). -/
def State.irqLine (s : State) (p : Nat) : Bool :=
  s.bit (Reg.IRQ_EN p) && (s.get (Reg.EVT p) &&& s.get (Reg.EVT_EN p)) != 0

/-- Sends the IRQ message of page `p` where its line has risen since `before` and HP0's sideband is trained (R96). -/
def State.irqRise (s : State) (p : Nat) (before : Bool) : State :=
  if !before && s.irqLine p && s.keep.mgmtOn && (s.hpAt 0).sbUp then s.emit (.sbMsg 0 0x20 p) else s

/-- Sets event bit `b` of page `p` (R96). -/
def State.raiseEvt (s : State) (p b : Nat) : State :=
  if s.pageLive p then
    (s.put (Reg.EVT p) (setBitOf (s.get (Reg.EVT p)) b)).irqRise p (s.irqLine p)
  else s

/-! The fault collector. -/

/-- ERR_SUM as one number (R358). -/
def State.errSum (s : State) : Nat := s.get Reg.ERR_SUM_LO_SUM + 2 ^ 32 * s.get Reg.ERR_SUM_HI_SUM

/-- FAULT_TRAP as one number (R366). -/
def State.faultTrap (s : State) : Nat := s.get Reg.FAULT_TRAP_LO_EN + 2 ^ 32 * s.get Reg.FAULT_TRAP_HI_EN

/-- The ERR_SUM bit a page's error line feeds (Table FAULT-1); fabric pages FAB0 to FAB47 feed the bit of their host port, FAB48 to FAB63 that of CFG. -/
def errBitOfPage (p : Nat) : Nat :=
  if p ≤ 14 then p
  else if p < 40 then p
  else if p < 64 then p - 48 + 40
  else if p < 80 then (p - 64) / 4 + 56
  else if p < 128 then (p - 96) / 8 + 60
  else if p < 176 then (p - 128) / 2 + 16
  else 5

/-- A page's error line (R95). -/
def State.errLine (s : State) (p : Nat) : Bool :=
  (s.get (Reg.ERR p) &&& (2 ^ 32 - 1 - s.get (Reg.ERR_MSK p))) != 0

/-- The time stamp of the collector: FTIME, or the last FTIME extended by 320 ns for each KEEP tick since CORE stopped (R360). -/
def State.stamp (s : State) : Nat :=
  (if s.coreClocked then s.ftime else s.keep.lastFtime + (s.now - s.keep.coreStop) / 320 * 320) % 2 ^ 64

/-- Adds an entry to the Shelf (R362). (DESIGN CHOICE: assumption 49) -/
def State.shelve (s : State) (code bit errbit page : Nat) : State :=
  (s.onKeep fun k => { k with shelf := (⟨code, bit, errbit, page, !s.coreClocked, s.bit Reg.FAULT_STAT_PARITY, s.stamp⟩ :: k.shelf).take 16 })
    |>.bump Reg.SHELF_CNT_TOTAL

/-- What the collector captures of a first error (Table FAULT-2). -/
structure Capture where
  master : Nat := 31
  acc    : Nat := 0
  addr   : Nat := 0
  deriving DecidableEq, Repr

/-- The first-error capture (R360). (DESIGN CHOICE: assumption 34) -/
def State.capture (s : State) (bit errbit page : Nat) (c : Capture) : State :=
  s |>.put Reg.FAULT_FIRST_SRC_BIT bit
    |>.put Reg.FAULT_FIRST_SRC_ERRBIT errbit
    |>.put Reg.FAULT_FIRST_SRC_PAGE page
    |>.put Reg.FAULT_FIRST_SRC_MASTER c.master
    |>.put Reg.FAULT_FIRST_SRC_ACC c.acc
    |>.putB Reg.FAULT_FIRST_SRC_COARSE (!s.coreClocked)
    |>.putB Reg.FAULT_FIRST_SRC_SUSPECT (s.bit Reg.FAULT_STAT_PARITY)
    |>.put Reg.FAULT_FIRST_SRC_VALID 1
    |>.put Reg.FAULT_FIRST_ADDR_LO_ADDR (c.addr % 2 ^ 32)
    |>.put Reg.FAULT_FIRST_ADDR_HI_ADDR (c.addr / 2 ^ 32)
    |>.put Reg.FAULT_FIRST_TIME_LO_FTIME (s.stamp % 2 ^ 32)
    |>.put Reg.FAULT_FIRST_TIME_HI_FTIME (s.stamp / 2 ^ 32)

/-- Sets a bit of ERR_SUM. (DESIGN CHOICE: assumption 49) -/
def State.sumSet (s : State) (bit : Nat) : State :=
  if bit < 32 then s.put Reg.ERR_SUM_LO_SUM (setBitOf (s.get Reg.ERR_SUM_LO_SUM) bit)
  else s.put Reg.ERR_SUM_HI_SUM (setBitOf (s.get Reg.ERR_SUM_HI_SUM) (bit - 32))

/-! The mailbox's end of a command. -/

/-- Ends the running mailbox command with a code and results: the results listed, free values in the other MBOX_RES, the duration, DONE and its event (R107). (DESIGN CHOICE: assumption 11) -/
def State.mboxFinish (s : State) (code : Nat) (res : List Nat) : State :=
  match s.mgmt.mbox with
  | none => s
  | some r =>
    ((((({ s with fresh := s.fresh + 1 }.onMgmt fun m =>
        { m with mbox := none,
                 mboxRes := (res.map (BitVec.ofNat 32) ++ (List.range 8).map (fun i => Config.freeWord (8 * s.fresh + i))).take 8 }).onNv
      fun v => { v with intents := [] }).put Reg.MBOX_ST_CODE code).put Reg.MBOX_TIME_US
        (min ((s.now - r.start) / 1000) (2 ^ 32 - 1))).put Reg.MBOX_ST_BUSY 0
      |>.put Reg.MBOX_CMD_GO 0 |>.put Reg.MBOX_CTL_ABORT 0 |>.put Reg.MBOX_ST_DONE 1).raiseEvt 14 0

/-- The event a running command of this opcode waits for ends it. (DESIGN CHOICE: assumption 11) -/
def State.mboxEnd (s : State) (op code : Nat) (res : List Nat) : State :=
  match s.mgmt.mbox with
  | some r => if r.op = op ∧ r.wait then s.mboxFinish code res else s
  | none => s

/-- A load ends without release (R131): the holds stay, the code and the failing record are recorded, LOAD_FAIL rises. A member of a chain forwards nothing of the stream after it. (DESIGN CHOICE: assumption 32) -/
def State.loadHalt (s : State) (code : Nat) (rec : Option (Nat × Nat)) : State :=
  match s.mgmt.load with
  | none => s
  | some l =>
    let t := s.onMgmt fun m => { m with load := none, cfgHeld := m.cfgHeld ||| l.held, hatchFifo := [] }
    let t := (t.put Reg.CFG_LOAD_BUSY 0).put Reg.CFG_LOAD_ERR_CODE code
    let t := match rec with
      | some (f, g) => (t.put Reg.CFG_ERR_FRAME_FRAME f).put Reg.CFG_ERR_TARGET_TARGET g
      | none => t
    t.raiseEvt 5 1

/-- A load ends without release, and with it a PERS_LOAD (R131). -/
def State.loadStop (s : State) (code : Nat) (rec : Option (Nat × Nat)) : State :=
  if s.mgmt.load.isSome then (s.loadHalt code rec).mboxEnd 0x20 (if code = 0x16 then 0x06 else 0x0A) [code] else s

/-- What a command that ends early leaves undone is dropped (R107, R131): the load of PERS_LOAD: the sweeps of RING_SEARCH, the claims of LINE_SWAP and CAL_NOW on a swap and a slot, and the pairing or hand-over of TWIN_CTL. -/
def State.mboxDrop (s : State) : State :=
  match s.mgmt.mbox with
  | none => s
  | some r =>
    if r.op = 0x20 ∧ r.wait then s.loadHalt 0x16 none
    else if r.op = 0x30 then
      ((s.onMgmt fun m => { m with sweep := [], searchPorts := 0 }).forAll (List.range 16) fun n t => t.put (Reg.LAM_STAT_SEARCHING n) 0)
    else if r.op = 0x32 then
      { s with op := tmap {} (fun _ o =>
          { o with swapT := o.swapT.map (fun w => { w with cmd := false }), swapQ := o.swapQ.map (fun w => { w with cmd := false }) }) s.op }
    else if r.op = 0x40 then s.onTe fun e => { e with calNow := none, calCmd := none }
    else if r.op = 0x50 ∧ r.wait then
      if s.twin.hand.isSome then s.onTwin fun w => { w with hand := none }
      else (s.onTwin fun w => { w with enabled := false, sent := false, hello := none }).put Reg.TWIN_STAT_STATE
        (if s.get Reg.TWIN_STAT_ROLE = 1 then 4 else 0)
    else s

/-- The running command ends with ABORTED (R107, R131, R370); RES0 of a PERS_LOAD is 0x16. -/
def State.mboxAbandon (s : State) : State :=
  match s.mgmt.mbox with
  | none => s
  | some r => s.mboxDrop.mboxFinish 0x06 (if r.op = 0x20 ∧ r.wait then [0x16] else [])

/-- The opcodes the mailbox runs in the Trapdoor (R370). (DEDUCED: assumption 10) -/
def mboxInTrap (op : Nat) : Bool := op ∈ [0x01, 0x02, 0x03, 0x10, 0x11, 0x61, 0x62, 0x60]

/-! Sensors and bands. -/

/-- A sensor S0 to S95 between conversions. -/
def State.sensor (s : State) (i : Nat) : Sensor := tget ({} : Sensor) s.mgmt.sensors i
def State.onSensor (s : State) (i : Nat) (f : Sensor → Sensor) : State :=
  s.onMgmt fun m => { m with sensors := tset {} m.sensors i (f (s.sensor i)) }

/-- A sensor takes part: neither faulted nor disabled (R344). -/
def State.takesPart (s : State) (i : Nat) : Bool := !(s.sensor i).fault && !s.bit (Reg.HEAT_THR_DIS i)

/-- The band a consumer takes from a sensor: B4 from one that is faulted or disabled (R344). -/
def State.bandOf (s : State) (i : Nat) : Nat := if s.takesPart i then (s.sensor i).band else 4

/-- The highest band of several sensors (R356). -/
def State.bandMax (s : State) (l : List Nat) : Nat := l.foldl (fun b i => max b (s.bandOf i)) 0

/-- The PIC sensors nearest a port's banks. (DESIGN CHOICE: assumption 39) -/
def portSensors (n : Nat) : List Nat := [32 + 2 * n, 33 + 2 * n]

/-! The Trapdoor. -/

/-- The port is trained: ACTIVE, NAP or DOZE (R26). -/
def State.trained (s : State) (n : Nat) : Bool := s.get (Reg.OP_STAT_PSTATE n) ∈ [2, 3, 4]

/-- The destination of a link-control frame: the peer's node ID, or 0x3FF before IDENT completes (R207). -/
def State.lctlDst (s : State) (n : Nat) : Nat :=
  if s.trained n || (s.get (Reg.OP_STAT_PSTATE n) == 1 && s.get (Reg.OP_STAT_TSTEP n) == 6) then s.get (Reg.OP_PEER_NODE n) else 0x3FF

/-- A link-control message leaves on a port (R207). -/
def State.lctl (s : State) (n code : Nat) (fields : List Nat) : State :=
  s.emit (.lctl n code fields (s.lctlDst n) (s.get Reg.ROUTE_NODE_NODE))

/-- The optical ports in ACTIVE, NAP or DOZE (R36). -/
def State.livePorts (s : State) : List Nat :=
  (List.range 16).filter fun n => s.get (Reg.OP_STAT_PSTATE n) ∈ [2, 3, 4]

/-- Sends DOWN with a reason on every port in ACTIVE, NAP or DOZE, waking ports from NAP and DOZE first (R36, R367). -/
def State.sendDown (s : State) (reason : Nat) : State :=
  s.forAll s.livePorts fun n t =>
    ((t.cond (t.get (Reg.OP_STAT_PSTATE n) != 2) fun u => u.emit (.wake n)).put (Reg.OP_STAT_PSTATE n) 2).lctl n 0x40 [t.get Reg.ROUTE_NODE_NODE, reason]

/-- Sends TWIN_DOWN where the chiplet is paired (R330, R367). -/
def State.sendTwinDown (s : State) (reason : Nat) : State :=
  if s.bit Reg.TWIN_STAT_PAIRED then s.emit (.twinDown reason) else s

/-- A sequence that leads to KEEP runs or is latched: a power-down, an undo, or an off request waiting (R371). -/
def State.goingDown (s : State) : Bool :=
  (s.bit Reg.PWR_STAT_BUSY && s.bit Reg.PWR_STAT_DIR) || s.bit Reg.PWR_STAT_OFF_PEND

/-- Records the outcome of a fatal dump that takes no slot (R371). -/
def State.dumpRecord (s : State) (result : Nat) : State :=
  (s.put Reg.FAULT_DUMP_RESULT result).put Reg.FAULT_DUMP_VALID 1

/-- P1 of a power-down, and the first acts of the Trapdoor: the traffic gates close and DOWN is sent (R85, R367). -/
def State.closeGates (s : State) (reason : Nat) : State :=
  ({ s with gates := false }.sendDown reason).sendTwinDown reason

/-- The transit engine in the Trapdoor (Table FAULT-3): what was dispatched is abandoned and its results are discarded; queues and weight sets are kept. -/
def State.teAbandon (s : State) : State :=
  s.onTe fun e => { e with
    queues := tmap {} (fun _ k => { k with slots := k.slots.map fun d => { d with tile := none, res := none, laid := false } }) e.queues,
    tiles := tmap {} (fun _ x => { x with win := 0 }) e.tiles }

/-- Entry to the Trapdoor (R366, R367, R370, R371). (DEDUCED: assumption 37; DESIGN CHOICE: assumption 49) -/
def State.enterTrap (s : State) : State :=
  let t := ((s.onKeep fun k => { k with inTrap := true, trapStop := s.bit Reg.PWR_STAT_BUSY && !s.bit Reg.PWR_STAT_DIR }).shelve 3 0 0 0).raiseEvt 3 2
  if t.power < 2 then
    match t.mgmt.mbox with
    | some r => t.cond (!mboxInTrap r.op) (·.mboxAbandon)
    | none => t
  else
    let u := (t.closeGates 1).teAbandon
    let v := match u.mgmt.mbox with
      | some r => u.cond (!mboxInTrap r.op || r.op == 0x60) (·.mboxAbandon)
      | none => u
    if v.goingDown then v.dumpRecord 5 else v.onKeep fun k => { k with dump := .due }

/-- Starts an orderly power-down: P1 runs, and P2 and P3 are next (R85). -/
def State.powerDown (s : State) : State :=
  (s.closeGates 0).onKeep (fun k => { k with seqStart := s.now, p3Done := false, trapDown := false })
    |>.put Reg.PWR_STAT_BUSY 1 |>.put Reg.PWR_STAT_DIR 1 |>.put Reg.PWR_STAT_STEP 18
    |>.put Reg.PWR_STAT_WAIT_NODE_ID 0

/-- Runs the power-down owed after the Trapdoor once no dump is due or running (R369). (DEDUCED: assumption 37) -/
def State.trapPowerDown (s : State) : State :=
  if s.keep.trapDown && s.keep.dump == .idle && !(s.bit Reg.PWR_STAT_BUSY && s.bit Reg.PWR_STAT_DIR) && decide (2 ≤ s.power)
  then s.powerDown else s

/-- Exit from the Trapdoor (R369). (DEDUCED: assumption 37; DESIGN CHOICE: assumption 49) -/
def State.exitTrap (s : State) : State :=
  let t := (s.onKeep fun k => { k with inTrap := false }).shelve 5 0 0 0
  if decide (2 ≤ t.power) then (t.onKeep fun k => { k with trapDown := true }).trapPowerDown else t

/-- The Trapdoor condition (R366). -/
def State.trapCond (s : State) : Bool := (s.errSum &&& s.faultTrap) != 0 || s.bit Reg.FAULT_STAT_PARITY

/-- Evaluates the Trapdoor condition and enters or leaves it. -/
def State.evalTrap (s : State) : State :=
  if s.trapCond && !s.keep.inTrap then s.enterTrap
  else if !s.trapCond && s.keep.inTrap then s.exitTrap
  else s

/-- An error reaches the collector: the first one is captured, any other is merged (R359, R360, R361); then the Trapdoor is evaluated. -/
def State.latchError (s : State) (bit errbit page : Nat) (c : Capture) : State :=
  if s.errSum = 0 then
    (((((s.sumSet bit).capture bit errbit page c).bump Reg.FAULT_MERGE_FAULTS).put Reg.FAULT_MERGE_COUNT 0
      |>.onKeep fun k => { k with pulse := true }).shelve 1 bit errbit page).raiseEvt 3 0 |>.evalTrap
  else
    (((s.sumSet bit).bump Reg.FAULT_MERGE_COUNT).shelve 2 bit errbit page).raiseEvt 3 1 |>.evalTrap

/-- Sets ERR bit `b` of page `p`; its setting, where it was 0 and is not masked, is an error (R359). -/
def State.raiseErr (s : State) (p b : Nat) (c : Capture := {}) : State :=
  if bitOf (s.get (Reg.ERR p)) b then s
  else
    let t := s.put (Reg.ERR p) (setBitOf (s.get (Reg.ERR p)) b)
    if bitOf (s.get (Reg.ERR_MSK p)) b then t else t.latchError (errBitOfPage p) b p c

/-! The Hatch. -/

/-- Capture-IR gives 0x01, or 0x05 while the MGMT domain is not powered and clocked (R103). -/
def State.captureIr (s : State) : State := s.emit (.tdo 8 (if s.keep.mgmtOn then 1 else 5))

/-- An instruction is selected; the boundary drives its pins under EXTEST alone (R103). -/
def State.hatchSelect (s : State) (ir : HatchIr) : State := s.captureIr.onMgmt fun m => { m with hatchIr := ir, extest := ir == .extest }

/-- BYPASS is selected, where the Hatch is powered (R57, R103): its one bit captures 0. (PRESUMED: assumption 6) -/
def State.hatchBypass (s : State) : State := s.cond s.keep.vauxGood fun t => (t.hatchSelect .bypass).emit (.tdo 1 0)

/-! Watermarks. -/

/-- A watermark: its fields, the page and EVT bits UP and DN are routed to (R97). -/
structure Wm where
  lo : Fld
  hi : Fld
  lvl : Fld
  up : Fld
  dn : Fld
  dnEn : Fld
  cross : Fld
  page : Nat
  evUp : Nat
  evDn : Nat
  deriving DecidableEq, Repr

/-- Judges a level against a mark (R98). -/
def State.judge (s : State) (w : Wm) (level : Nat) : State :=
  if !s.bit w.lvl && decide (s.get w.hi ≤ level) then
    (((s.put w.lvl 1).put w.up 1).bump w.cross).raiseEvt w.page w.evUp
  else if s.bit w.lvl && decide (level < s.get w.lo) then
    (s.put w.lvl 0).cond (s.bit w.dnEn) fun t => (t.put w.dn 1).raiseEvt w.page w.evDn
  else s

/-! Free values. -/

/-- The next free 32-bit value, and the state with it taken. (DESIGN CHOICE: assumption 3) -/
def State.takeFree (s : State) : Word × State := (Config.freeWord (8 * s.fresh), { s with fresh := s.fresh + 1 })

/-- An error of a source whose unit Table FAULT-2 does not name: the captured address is a free value. (DESIGN CHOICE: assumption 34) -/
def State.raiseErrFree (s : State) (p b : Nat) : State :=
  let (w, t) := s.takeFree
  t.raiseErr p b { addr := w.toNat }

/-- A quotient, rounded as a free value says where it is not exact. (DESIGN CHOICE: assumptions 3, 27) -/
def State.quot (s : State) (a : Int) (b : Nat) : Int × State :=
  if a % b = 0 then (a / b, s) else (a / b + b2n (Config.roundUp s.fresh), { s with fresh := s.fresh + 1 })

/-! PRBS31 counters of loop-backs. -/

/-- The count a lane's counter shows: what it holds, and while the check runs a free number more, saturating. (DESIGN CHOICE: assumption 54) -/
def lbView (errs : Table Nat) (lane fresh : Nat) (live : Bool) : Nat :=
  min (2 ^ 32 - 1) (tget 0 errs lane + if live then (Config.freeWord (8 * fresh)).toNat else 0)

/-- The bit errors that `lanes` counters have come to while the check ran: what they held, and a free number more on each, saturating. (DESIGN CHOICE: assumption 54) -/
def lbCounted (errs : Table Nat) (lanes fresh : Nat) : Table Nat :=
  (List.range lanes).foldl (fun t i => tset 0 t i (min (2 ^ 32 - 1) (tget 0 t i + (Config.freeWord (8 * (fresh + i))).toNat))) errs

/-! Time. -/

/-- FTIME one nanosecond on: the free-running count, and one nanosecond of slew in each 10,000 while an offset is left, which is 100 ppm (R219). (DESIGN CHOICE: assumption 2) -/
def State.ftimeTick (s : State) : State :=
  if !s.coreClocked then s
  else if s.slew = 0 ∨ s.now % 10000 ≠ 0 then { s with ftime := (s.ftime + 1) % 2 ^ 64 }
  else if 0 < s.slew then { s with ftime := (s.ftime + 2) % 2 ^ 64, slew := s.slew - 1 }
  else { s with slew := s.slew + 1 }

end Sys2Proof.Machine
end

