-- ==== Sys2Proof/Machine/Points.lean ====
section
/-! DEFINITION. The arbitration points as every unit sees them: their tables and heads, what holds a request at a transmitter, the tokens a head may use, the withdrawal of requests, and the turn of frames that take no token (R248 to R254, R258, R261). The rounds are in Qos.lean, the grants in Grant.lean. -/

namespace Sys2Proof.Machine

/-- A pool of link credit: 2 × TC + RL (Table LINK-6). -/
def poolOf (tc rl : Nat) : Nat := 2 * tc + rl

/-- A list with one element replaced. -/
def setAt {α : Type} (l : List α) (i : Nat) (v : α) : List α := l.set i v

/-- Blocks a frame needs in its pool: one for each 64 bytes of payload and one for its header (R208). -/
def frameBlocks (f : Frame) : Nat := f.payload.length / 64 + 1

/-- Blocks that some bytes take. -/
def blocksOf (n : Nat) : Nat := (n + 63) / 64

def State.point (s : State) (pt : Nat) : QosPoint := tget {} s.qos pt
def State.onPoint (s : State) (pt : Nat) (f : QosPoint → QosPoint) : State :=
  { s with qos := tset {} s.qos pt (f (s.point pt)) }

/-- The tokens that waiting requests have drawn: those of granted blocks not yet through the point (R261). (DEDUCED: assumption 25) -/
def QosPoint.drawn (p : QosPoint) : Nat := (p.waiting.map (·.got)).sum

/-- Does a requester have a request waiting at the point? -/
def QosPoint.waits (p : QosPoint) (k : Nat) : Bool := p.waiting.any fun q => q.master == k

/-- The head requests: the first of each master and class. -/
def QosPoint.heads (p : QosPoint) : List QReq :=
  p.waiting.foldl (fun l q => if l.any fun h => h.master == q.master && h.tc == q.tc then l else l ++ [q]) []

/-- The tokens lent by owners with no request waiting (R254). -/
def QosPoint.lendable (p : QosPoint) : Nat :=
  ((List.range 29).filter fun k => !p.waits k).foldl (fun a k => a + p.buckets.getD k 0) 0

/-- A requester waits throughout a round only while it has a request waiting (R259). -/
def QosPoint.keepWhole (p : QosPoint) : QosPoint := { p with whole := p.whole.zipIdx.map fun x => x.1 && p.waits x.2 }

/-! What holds a request. -/

/-- The sensors that cover a point (Table HEAT-2). -/
def pointSensors (pt : Nat) : List Nat :=
  if pt = 0 then (List.range 20).map (72 + ·)
  else [32 + 2 * (pt - 1), 33 + 2 * (pt - 1), 92 + (pt - 1) / 4]

/-- A point is in a thermal pause (R258, R347, R348). -/
def State.pointPaused (s : State) (pt : Nat) : Bool :=
  (pointSensors pt).any fun i => decide (16 ≤ (tget {} s.mgmt.sensors i).duty + s.mgmt.pausePart)

/-- The route lane of a request's frame. -/
def State.laneOf (s : State) (q : QReq) : Nat :=
  match q.item with
  | .slot p k _ => ((tget none (s.opAt p).pantry k).map (·.rl)).getD 0
  | .relay f _ _ => f.rl
  | _ => 0

/-- Why a request cannot leave port n now (R259): none where it can, else CREDIT or THERMAL. -/
def State.portBlocked (s : State) (n : Nat) (q : QReq) : Option Nat :=
  if s.get (Reg.OP_STAT_PSTATE n) ≠ 2 ∨ (s.opAt n).txCr.getD (poolOf q.tc (s.laneOf q)) 0 < q.cost then some 1
  else if q.tc ≠ 0 ∧ s.pointPaused (1 + n) then some 3
  else none

/-- The heads that could leave port n now, where grants are made at all. -/
def State.portReady (s : State) (n : Nat) : List QReq :=
  if s.gates && !s.frozen then (s.point (1 + n)).heads.filter fun q => (s.portBlocked n q).isNone else []

/-! Frames that take no token. -/

/-- A TC0 frame that can be granted waits at port n (R250). -/
def State.tc0Waits (s : State) (n : Nat) : Bool :=
  let p := s.point (1 + n)
  decide (0 < p.rsv + p.pool) && (s.portReady n).any fun q => q.tc == 0

/-- A token-granted frame that can be granted waits at port n (R250, R257). -/
def State.canGrant (s : State) (n : Nat) : Bool :=
  let p := s.point (1 + n)
  s.tc0Waits n || (s.portReady n).any fun q => q.tc != 0 && (decide (0 < p.buckets.getD q.master 0) || decide (0 < p.pool + p.lendable))

/-- A frame that takes no token has its turn at port n (R250): no TC0 frame waits, and none that is token-granted is owed after the last such frame. -/
def State.freeTurn (s : State) (n : Nat) : Bool := !s.tc0Waits n && !((s.opAt n).owed && s.canGrant n)

/-- A port in NAP or DOZE starts to wake (R215). -/
def State.wakePort (s : State) (n : Nat) : State :=
  if s.get (Reg.OP_STAT_PSTATE n) ∈ [3, 4] ∧ !(s.opAt n).waking then
    (s.onOp n fun o => { o with waking := true, lps := .none }).emit (.wake n)
  else s

/-- A link-control message waits in its port's queue. -/
def State.lctlWait (s : State) (n code : Nat) (fields : List Nat) : State := s.onOp n fun o => { o with lctlQ := o.lctlQ ++ [(code, fields)] }

/-- A link-control message that leaves in its turn, which an ACTIVE port notes (R250): a TIME_REQ and a TIME_RSP are stamped as they do (R219). -/
def State.lctlGo (s : State) (n code : Nat) (fields : List Nat) : State :=
  let t := s.cond (s.get (Reg.OP_STAT_PSTATE n) == 2) (·.onOp n fun o => { o with owed := true })
  match code, fields with
  | 0x30, dist :: _ => (t.onOp n fun o => { o with t1 := some s.ftime }).lctl n 0x30 [dist, s.ftime]
  | 0x31, [dist, t1, t2, _] => t.lctl n 0x31 [dist, t1, t2, s.ftime]
  | _, _ => t.lctl n code fields

/-- A link-control message is sent on a port: at once, or after what has its turn before it (R250). -/
def State.lctlTurn (s : State) (n code : Nat) (fields : List Nat) : State :=
  if s.get (Reg.OP_STAT_PSTATE n) = 2 ∧ ((s.opAt n).lctlQ ≠ [] ∨ s.freeTurn n = false) then s.lctlWait n code fields else s.lctlGo n code fields

/-- A link-control message of a protocol: framing is idle in NAP and DOZE, so there it wakes the port and waits the exit time (R26, R215). -/
def State.lctlSend (s : State) (n code : Nat) (fields : List Nat) : State :=
  if s.get (Reg.OP_STAT_PSTATE n) ∈ [3, 4] then (s.lctlWait n code fields).wakePort n else s.lctlTurn n code fields

/-- The messages that waited leave, each in its turn. -/
def State.lctlFlush (s : State) (n : Nat) : State :=
  (s.onOp n fun o => { o with lctlQ := [] }).forAll (s.opAt n).lctlQ fun e t => t.lctlTurn n e.1 e.2

/-! Requests withdrawn. -/

/-- Is a request that of a relayed frame in port n's receive buffer? -/
def QReq.fromPort (n : Nat) (q : QReq) : Bool := match q.item with | .relay _ p _ => p == n | _ => false

/-- The requests of a point that satisfy a test are withdrawn; tokens they had drawn return to the shared pool (R261). (DEDUCED: assumption 25) -/
def QosPoint.withdraw (test : QReq → Bool) (p : QosPoint) : QosPoint :=
  QosPoint.keepWhole { p with waiting := p.waiting.filter (fun q => !test q), pool := p.pool + ((p.waiting.filter test).map (·.got)).sum }

/-- Every point withdraws the requests that satisfy a test. (DEDUCED: assumption 25) -/
def State.withdraw (s : State) (test : QReq → Bool) : State :=
  { s with qos := tmap {} (fun _ p => p.withdraw test) s.qos }

/-- The requests of a point stay, and what they had drawn returns to the shared pool: the frames granted at a port's own transmitter, at a link reset (R261). -/
def QosPoint.regain (p : QosPoint) : QosPoint :=
  { p with pool := p.pool + p.drawn, waiting := p.waiting.map fun q => { q with got := 0 } }

/-- Is a request at the intake that of a frame in a slot? -/
def QReq.enters (n k : Nat) (q : QReq) : Bool := match q.item with | .enter p j => p == n && j == k | _ => false

/-- A frame whose slot is released goes no further than the intake, which its blocks still pass (R237, R261). -/
def State.enterOff (s : State) (n k : Nat) : State :=
  s.cond ((s.point 0).waiting.any (·.enters n k)) fun t =>
    t.onPoint 0 fun p => { p with waiting := p.waiting.map fun q => if q.enters n k then { q with item := .core } else q }

/-- Relayed frames of port n's receive buffer that wait at any transmitter. -/
def State.relayedFrom (s : State) (n : Nat) : Nat :=
  (s.qos.map fun e => (e.2.waiting.filter (·.fromPort n)).length).sum

end Sys2Proof.Machine
end

