-- ==== Sys2Proof/Machine/PortOps.lean ====
section
/-! DEFINITION. Shared operations of the optical ports: the rings' lines, link resets, PEER_DOWN, and the spare swap from its trigger to its end (R187 to R190, R212, R213). -/

namespace Sys2Proof.Machine

/-- The key of a line of a bank in the table of rings. -/
def ringKey (port : Nat) (rx : Bool) (line : Nat) : Nat := (port * 2 + b2n rx) * 36 + line

def State.ringAt (s : State) (port : Nat) (rx : Bool) (line : Nat) : Ring := tget {} s.rings (ringKey port rx line)

def State.onRing (s : State) (port : Nat) (rx : Bool) (line : Nat) (f : Ring → Ring) : State :=
  { s with rings := tset {} s.rings (ringKey port rx line) (f (s.ringAt port rx line)) }

/-- The port runs Brynn mode: a change of COMPAT takes effect at the next training (R217). -/
def State.brynn (s : State) (n : Nat) : Bool := (s.opAt n).brynn.getD (s.bit (Reg.LINK_CTL_COMPAT n))

/-- The port is in Brynn mode or has no answer to swap messages, which ride only on a trained link or in T6 (R166, R187). -/
def State.canSwap (s : State) (n : Nat) : Bool :=
  !s.brynn n && (s.trained n || (s.get (Reg.OP_STAT_PSTATE n) == 1 && s.get (Reg.OP_STAT_TSTEP n) == 6))

/-- The lanes a port carries: 32, or 16 in Brynn mode (R166). -/
def State.laneCount (s : State) (n : Nat) : Nat := if s.brynn n then 16 else 32

/-- The line of a lane. -/
def laneLine (m : List Nat) (lane : Nat) : Nat := m.getD lane lane

/-- The lane a line carries, where it carries one. -/
def lineLane (m : List Nat) (line : Nat) : Option Nat := (List.range 32).find? fun l => laneLine m l == line

/-- A line whose ring can serve a lane: locked, lit, not parked, neither BAD nor ABSENT. -/
def Ring.good (r : Ring) : Bool := r.lock && !r.low && !r.parked && !r.bad && !r.absent

/-- The free spare lines of a transmit bank whose rings are locked, lowest first (R188). (DESIGN CHOICE: assumption 30) -/
def State.freeSpares (s : State) (n : Nat) : List Nat :=
  [32, 33, 34, 35].filter fun k =>
    (s.ringAt n false k).good && (lineLane (s.opAt n).remapTx k).isNone &&
      (match (s.opAt n).swapT with | some w => w.new != k | none => true) &&
      (match (s.opAt n).cal with | some c => c.1 != k | none => true)

/-- Isax is in LIT or above, or in S13: a port may be in service (R88, R209). -/
def State.portsLit (s : State) : Bool := decide (3 ≤ s.power) || s.atStep 13

/-- The power state and the port's settings let it train (R209): LIT or RUN, or S13 in progress; EN 1; no loop-back; a transmitter that is not stopped; no RING_SEARCH of the port (R180). -/
def State.mayTrain (s : State) (n : Nat) : Bool :=
  s.portsLit && !s.frozen && s.bit (Reg.LINK_CTL_EN n) &&
    s.get (Reg.OP_LB_MODE n) == 0 && !(s.opAt n).exhausted && !bitOf s.mgmt.searchPorts n

/-- Sets the port's state: TRAIN begins at T1. -/
def State.setPort (s : State) (n pstate : Nat) : State :=
  (s.put (Reg.OP_STAT_PSTATE n) pstate).put (Reg.OP_STAT_TSTEP n) (if pstate = 1 then 1 else 0)

/-- Drops what a link that leaves service drops beside its credits: swaps, calibration, low-power handshakes, loop requests, timers (R189, R212). -/
def Op.dropLink (o : Op) : Op :=
  { o with swapT := none, swapQ := [], swapR := none, asks := [], cal := none, calRx := none, dark := 0,
           txCr := List.replicate 16 0, rxOcc := List.replicate 16 0, rxFreed := List.replicate 16 0,
           ackSent := false, ackGot := false, held := false, lossTimer := false, lps := .none, waking := false,
           farLoop := false, loopReq := none, t1 := none, peerDist := 63, ackQ := [], lctlQ := [], owed := false, peerId := none, brynn := none }

/-- A relayed frame of port n's receive buffer that has begun to draw its tokens is being forwarded: it leaves its egress port stomped (R200, R212, R245). (DESIGN CHOICE: assumption 22) -/
def State.stompFrom (s : State) (n : Nat) : State :=
  s.forAll (List.range 16) fun p t =>
    t.forAll ((tget {} t.qos (1 + p)).waiting.filter fun q => q.fromPort n && decide (0 < q.got)) fun q u =>
      match q.item with
      | .relay f _ _ => (u.onOp p fun o => { o with txCr := setAt o.txCr (poolOf f.tc f.rl) (o.txCr.getD (poolOf f.tc f.rl) 0 - frameBlocks f) }).emit
          (.stomped p (framed (u.brynn p) { f with cut := true }))
      | _ => u

/-- A link reset (R212, R245, R247): the grants of the latest TRAIN_ACKs stay shown; credits void in both directions and are reported, the receive buffer is discarded and reported, what its own transmitter's requests had drawn returns to the pool (R261), the swap is dropped, and the port goes to `pstate`. -/
def State.linkReset (s : State) (n pstate : Nat) : State :=
  let o := s.opAt n
  let t := s.forAll (List.range 16) fun p u =>
    (u.put (Reg.OP_CRA_TX_VOID n p) (o.txCr.getD p 0)).put (Reg.OP_CRA_RX_DISC_BLK n p) (o.rxOcc.getD p 0)
  let t := (((((t.put (Reg.OP_CRA_SUM_DISC_FRM n) (min (s.relayedFrom n) 65535)).stompFrom n).withdraw (·.fromPort n)).onPoint (1 + n) QosPoint.regain).bump (Reg.OP_CRA_SUM_RESETS n)).onOp n Op.dropLink
  let t := t.cond ((match o.swapT with | some w => w.cmd | none => false) || o.swapQ.any (·.cmd)) (·.mboxEnd 0x32 0x0B [])
  ((((t.put (Reg.OP_PEER_VALID n) 0).put (Reg.OP_STAT_CAPS n) 0).put (Reg.OP_STAT_BRYNN n) 0).put (Reg.OP_LB_FAR_OK n) 0
    |>.setPort n pstate).raiseEvt (48 + n) 2

/-- A training attempt begins in the mode COMPAT now selects (R217); in Brynn mode each lane is fixed to the line of its number (R166, R205). -/
def State.trainMode (s : State) (n : Nat) : State :=
  let b := s.bit (Reg.LINK_CTL_COMPAT n)
  s.onOp n fun o => { o with brynn := some b, remapTx := if b then List.range 32 else o.remapTx, remapRx := if b then List.range 32 else o.remapRx }

/-- Where a port goes that leaves service: it trains where it may; with a loop-back set, in LIT or RUN and with EN 1, it loops; else it is dark (R88, R209, R216). -/
def State.outState (s : State) (n : Nat) : Nat :=
  if s.mayTrain n then 1
  else if s.get (Reg.OP_LB_MODE n) ≠ 0 ∧ s.portsLit ∧ s.bit (Reg.LINK_CTL_EN n) ∧ !s.frozen then 5 else 0

/-- The port leaves service: a link reset where it was trained or looping, and it trains again where it may (R209, R212). -/
def State.portRetrain (s : State) (n : Nat) : State :=
  let p := s.outState n
  let t := if s.trained n || s.get (Reg.OP_STAT_PSTATE n) == 5 then s.linkReset n p
    else (s.onOp n fun o => { o with ackSent := false, ackGot := false, held := false, dark := 0, peerId := none, brynn := none }).setPort n p
  t.cond (p == 1) (·.trainMode n)

/-- The port goes dark (R82 S13, R85 P2, LINK_CTL.EN 0): a link reset where it was trained. -/
def State.portDark (s : State) (n : Nat) : State :=
  (if s.trained n then s.linkReset n 0 else (s.onOp n Op.dropLink).setPort n 0).put Reg.CLK_LINE_LOCK
    (clrBitOf (s.get Reg.CLK_LINE_LOCK) n)

/-- A port whose transmitter was stopped for want of a spare trains again after what can end that (R190). (DESIGN CHOICE: assumption 30) -/
def State.unexhaust (s : State) (n : Nat) : State :=
  if (s.opAt n).exhausted then (s.onOp n fun o => { o with exhausted := false }).portRetrain n else s

/-- A spare of the port may have been freed: a stopped transmitter starts again where one stands free (R190). -/
def State.spareFreed (s : State) (n : Nat) : State := s.cond (!(s.freeSpares n).isEmpty) (·.unexhaust n)

/-- The transmitter of a port stops for want of a spare: the port leaves service (R190, R211). (DESIGN CHOICE: assumption 30) -/
def State.exhaust (s : State) (n : Nat) : State :=
  (((s.onOp n fun o => { o with exhausted := true }).portDark n)).raiseEvt (64 + n) 7

/-- A need for a spare that none can meet (R190, R191): the event, and the transmitter stops where the line is lost. -/
def State.noSpare (s : State) (n : Nat) (w : SwapWant) : State :=
  if w.cal then s.raiseEvt (64 + n) 8
  else
    let t := ((s.bump (Reg.LAM_SWAP_NOSPARE n)).raiseEvt (64 + n) 4).cond w.cmd (·.mboxEnd 0x32 0x0B [])
    t.cond w.lost (·.exhaust n)

/-- Starts the swap a need asks for, on the spare named or the lowest free one (R188). (DESIGN CHOICE: assumption 30) -/
def State.startSwap (s : State) (n : Nat) (w : SwapWant) (again : Bool) (skip : Option Nat) : State :=
  match ((match w.fixed with
      | some k => if (s.ringAt n false k).good && (lineLane (s.opAt n).remapTx k).isNone then [k] else []
      | none => s.freeSpares n).filter fun k => some k != skip).head? with
  | none => s.noSpare n w
  | some k =>
    (s.onOp n fun o => { o with
        swapId := (o.swapId + 1) % 16,
        swapT := some { id := (o.swapId + 1) % 16, lane := w.lane, old := laneLine o.remapTx w.lane, new := k,
                        again := again, cal := w.cal, cmd := w.cmd, cancel := false, lost := w.lost } })
      |>.lctlSend n 0x10 [((s.opAt n).swapId + 1) % 16, w.lane, k]

/-- Starts the first of a port's waiting swaps that finds a spare; each before it meets R190 (R187). (DESIGN CHOICE: assumption 30) -/
def State.startSwaps (s : State) (n : Nat) : List SwapWant → State
  | [] => s.onOp n fun o => { o with swapQ := [] }
  | w :: q =>
    let t := (s.onOp n fun o => { o with swapQ := q }).startSwap n w false none
    if (t.opAt n).swapT.isSome || (t.opAt n).exhausted then t else t.startSwaps n q

/-- Starts the next waiting swap of a port, where none runs and its link can carry one. -/
def State.nextSwap (s : State) (n : Nat) : State :=
  if (s.opAt n).swapT.isSome || !s.canSwap n then s else s.startSwaps n (s.opAt n).swapQ

/-- A trigger for a spare swap at the transmitting end: at most one swap runs, and others wait in order (R187). -/
def State.wantSwap (s : State) (n : Nat) (w : SwapWant) : State := (s.onOp n fun o => { o with swapQ := o.swapQ ++ [w] }).nextSwap n

/-- The automatic trigger of a line's loss at the transmitting end (R187): only while AUTO_SPARE is 1, and only where the line carries a lane. -/
def State.txLineLost (s : State) (n line : Nat) (lost : Bool) : State :=
  match lineLane (s.opAt n).remapTx line with
  | some lane => s.cond (s.bit (Reg.LAM_CTL_AUTO_SPARE n) && !s.brynn n && decide (lane < s.laneCount n))
      (·.wantSwap n { lane := lane, lost := lost })
  | none => s

/-- The receiving end asks for a swap of the lane on a line, with a cause of Table LAM-3 (R187). -/
def State.askSwap (s : State) (n line cause : Nat) : State :=
  match lineLane (s.opAt n).remapRx line with
  | some lane =>
    s.cond (s.bit (Reg.LAM_CTL_AUTO_SPARE n) && s.canSwap n) fun t =>
      (t.onOp n fun o => { o with asks := o.asks.filter (fun a => a.1 != lane) ++ [(lane, cause)] }).lctlSend n 0x16 [lane, cause]
  | none => s

/-- A line is marked BAD (R192): its transmit lane swaps, its line `lost` or not, or the receiving end asks with the cause given. -/
def State.markBad (s : State) (n : Nat) (rx : Bool) (line : Nat) (ask : Option Nat) (lost : Bool) : State :=
  let t := s.onRing n rx line fun r => { r with bad := true }
  if rx then (match ask with | some c => t.askSwap n line c | none => t)
  else t.txLineLost n line lost

/-- PEER_DOWN (R37, R213): source 0 a DOWN notice, 1 the link-loss timer. -/
def State.peerDown (s : State) (n node src : Nat) : State :=
  (((s.put (Reg.OP_DOWN_NODE n) node).put (Reg.OP_DOWN_SRC n) src).put (Reg.OP_DOWN_VALID n) 1).raiseEvt (48 + n) 3

/-- A training attempt fails (R209): cause, count, event; the port starts again at once or stays in ERROR. -/
def State.trainFail (s : State) (n cause : Nat) : State :=
  let t := (((s.put (Reg.OP_TRAIN_CAUSE n) cause).bump (Reg.OP_TRAIN_FAIL_CNT n)).raiseEvt (48 + n) 1).onOp n Op.dropLink
  if t.bit (Reg.LINK_CTL_RETRY n) then t.portRetrain n else t.setPort n 6

/-- The ports of a quad. -/
def quadPorts (q : Nat) : List Nat := [4 * q, 4 * q + 1, 4 * q + 2, 4 * q + 3]

/-- A 16-bit register value read as signed. -/
def signed16 (v : Nat) : Int := if v < 32768 then (v : Int) else (v : Int) - 65536

/-- A signed value as 16 bits. -/
def to16 (v : Int) : Nat := (v % 65536).toNat

/-- The port is in TRAIN at a step of Table LINK-7. -/
def State.inStep (s : State) (n k : Nat) : Bool := s.get (Reg.OP_STAT_PSTATE n) == 1 && s.get (Reg.OP_STAT_TSTEP n) == k

/-- Both TRAIN_ACKs have passed: the port is ACTIVE on its FEC (R209). -/
def State.activate (s : State) (n : Nat) : State :=
  if (s.opAt n).ackSent && (s.opAt n).ackGot then
    ((s.setPort n 2).putB (Reg.OP_STAT_BRYNN n) (s.brynn n)).raiseEvt (48 + n) 0
  else s

/-- The end of T6 (R208, R211): with every lane on a good line, TRAIN_ACK grants 512 credits to every pool under a new epoch. -/
def State.t6Check (s : State) (n : Nat) : State :=
  let o := s.opAt n
  if s.inStep n 6 && !o.ackSent && o.swapT.isNone && o.swapQ.isEmpty && o.dark == 0 && !o.exhausted then
    let e := (o.rxEpoch + 1) % 16
    let t := (s.onOp n fun o => { o with ackSent := true, rxEpoch := e }).lctl n 0x02 (e :: List.replicate 16 512)
    (t.forAll (List.range 16) fun p u => u.put (Reg.OP_CRA_RX_GRANT n p) 512).activate n
  else s

end Sys2Proof.Machine
end

