-- ==== Sys2Proof/Machine/Comb.lean ====
section
/-! DEFINITION. The comb modules: ECS_CTL transactions, lost light and the switch onto COMBS (R167 to R174, R192, R193, R379, R380). -/

namespace Sys2Proof.Machine

def State.ecsAt (s : State) (m : Nat) : Ecs := tget {} s.mgmt.ecs m
def State.onEcs (s : State) (m : Nat) (f : Ecs → Ecs) : State :=
  s.onMgmt fun g => { g with ecs := tset {} g.ecs m (f (s.ecsAt m)) }

/-- One bit of a CRC-8 with polynomial 0x07 (R168). -/
def crc8Bit (c : Nat) : Nat := if 128 ≤ c then (c * 2 % 256) ^^^ 7 else c * 2

/-- CRC-8 of a list of bytes: polynomial 0x07, initial value 0xFF, no reflection (R168). -/
def crc8 (l : List Nat) : Nat :=
  l.foldl (fun c b => crc8Bit (crc8Bit (crc8Bit (crc8Bit (crc8Bit (crc8Bit (crc8Bit (crc8Bit (c ^^^ b))))))))) 0xFF

/-- Sends an ECS_CTL request (Table COMB-1). -/
def State.ecsSend (s : State) (m : Nat) (t : EcsTxn) : State :=
  let d := if t.write then t.data else 0
  let op := if t.write then 2 else 1
  s.emit (.ecs m op t.addr d (crc8 [op, t.addr, d / 256, d % 256]))

/-- A module's bit in a field of COMB_STAT. -/
def State.combBit (s : State) (f : Fld) (m : Nat) : Bool := bitOf (s.get f) m
def State.combSet (s : State) (f : Fld) (m : Nat) (b : Bool) : State :=
  s.put f (if b then setBitOf (s.get f) m else clrBitOf (s.get f) m)

/-- Drives the transaction at the head of a module's queue, where the module has not failed (R169). -/
def State.ecsDrive (s : State) (m : Nat) : State :=
  match (s.ecsAt m).queue with
  | t :: _ => if s.combBit Reg.COMB_STAT_FAILED m then s else (s.onEcs m fun e => { e with attempts := 1 }).ecsSend m t
  | [] => s

/-- Queues a transaction, driving it at once where none runs. -/
def State.ecsQueue (s : State) (m : Nat) (t : EcsTxn) : State :=
  let u := s.onEcs m fun e => { e with queue := e.queue ++ [t] }
  if (s.ecsAt m).queue.isEmpty then u.ecsDrive m else u

/-- A module's enable goes low: its own transactions that wait are dropped (R167). -/
def State.ecsOff (s : State) (m : Nat) : State :=
  s.onEcs m fun e => { e with en := false, status := 0, queue := e.queue.filter (·.sw) }

/-- CTRL.LASE = 0, which parks a module (R379). -/
def ecsPark : EcsTxn := ⟨true, 2, 0, false⟩

/-- Parks a quad's own module as it goes onto COMBS, or COMBS itself: its LIT bit clears; where the module still answers, CTRL.LASE is written 0 and ECS_EN goes low when that transaction ends (R379). -/
def State.combPark (s : State) (m : Nat) : State :=
  let t := (s.onEcs m fun e => { e with status := 0 }).combSet Reg.COMB_STAT_LIT m false
  if !s.combBit Reg.COMB_STAT_FAILED m && (s.ecsAt m).en then t.ecsQueue m ecsPark else t.ecsOff m

/-- Parks a module at once: the end of an undo of S11 or of P2, whose time takes in the transaction; the enable falls whatever the module answers (Tables PWR-5, PWR-6). -/
def State.combDark (s : State) (m : Nat) : State :=
  let t := s.cond (!s.combBit Reg.COMB_STAT_FAILED m && (s.ecsAt m).en) (·.ecsSend m ecsPark)
  (t.onEcs m fun e => { e with en := false, status := 0, queue := [], attempts := 0 }).combSet Reg.COMB_STAT_LIT m false

/-- COMBS is lit and serves no quad (R173). -/
def State.combsFree (s : State) : Bool := s.combBit Reg.COMB_STAT_LIT 4 && !s.bit Reg.COMB_STAT_SW_ACTIVE

/-- COMBS serves this quad. -/
def State.onCombs (s : State) (q : Nat) : Bool := s.bit Reg.COMB_STAT_SW_ACTIVE && s.get Reg.COMB_STAT_SW_QUAD == q

/-- Switches a quad onto COMBS (R172, R379). -/
def State.combSwitch (s : State) (q : Nat) : State :=
  (((s.put Reg.COMB_STAT_SW_ACTIVE 1).put Reg.COMB_STAT_SW_QUAD q).combPark q).raiseEvt 12 1

/-- A switch condition of R173 holds of the quad. -/
def State.quadNeeds (s : State) (q : Nat) : Bool :=
  s.combBit Reg.COMB_STAT_LOL q || (s.combBit Reg.COMB_STAT_FAILED q && !s.combBit Reg.COMB_STAT_LIT q) ||
    (bitOf (s.ecsAt q).status 2 && s.bit Reg.COMB_CTL_FAULT_SW)

/-- The automatic switch of a quad (R173); NO_SPARE_COMB where COMBS is not available. -/
def State.autoSwitch (s : State) (q : Nat) : State :=
  if !s.bit Reg.COMB_CTL_AUTO_SW || s.onCombs q then s
  else if s.combsFree then s.combSwitch q
  else s.raiseErr 12 9 { addr := q }

/-- COMBS stops serving a quad: the lowest-numbered quad that meets a switch condition goes onto it (R380). -/
def State.combsFreed (s : State) : State :=
  if s.bit Reg.COMB_CTL_AUTO_SW && s.combsFree then
    match [0, 1, 2, 3].find? s.quadNeeds with
    | some q => s.combSwitch q
    | none => s
  else s

/-- Whether a response is one Isax tries again after (R169): BAD_CRC, a response CRC mismatch, or NO_MODULE. -/
def ecsRetryable (r : EcsResponse) : Bool :=
  r.status == 1 || r.status == 0xFF ||
    r.crc.toNat != crc8 [r.status.toNat, r.rdata.toNat / 256, r.rdata.toNat % 256]

/-- The third attempt of a transaction has failed (R169): ERR.ECS_FAIL and the module's FAILED bit. -/
def State.ecsFail (s : State) (m : Nat) : State :=
  ((s.bump Reg.COMB_ECS_CNT_FAILS).combSet Reg.COMB_STAT_FAILED m true).raiseErr 12 8 { addr := m }

/-- The transaction of a step of a bring-up (R167, steps 2 to 5): READY is polled, ID is read, CTRL.LASE is written 1, LASING is polled. -/
def upTxn : Nat → EcsTxn
  | 0 => ⟨false, 1, 0, false⟩
  | 1 => ⟨false, 0, 0, false⟩
  | 2 => ⟨true, 2, 1, false⟩
  | _ => ⟨false, 1, 0, false⟩

/-- The step after an answer that counts: none where the step fails (ID is not 0xEC36), 4 once the module lases (R167, Table COMB-2). -/
def upNext (step rdata : Nat) : Option Nat :=
  match step with
  | 0 => some (if bitOf rdata 0 then 1 else 0)
  | 1 => if rdata = 0xEC36 then some 2 else none
  | 2 => some 3
  | _ => some (if bitOf rdata 1 then 4 else 3)

/-- Steps 2 to 5 of a bring-up over the module's answers, with the failed attempts of the transaction in progress (R167, R169): whether the module lases. The time of a step has run out where the answers end. -/
def State.bringUp (s : State) (m step failed : Nat) : List EcsResponse → Bool × State
  | [] => (false, s)
  | r :: rest =>
    let t := s.ecsSend m (upTxn step)
    if ecsRetryable r then
      if failed < 2 then (t.bump Reg.COMB_ECS_CNT_RETRIES).bringUp m step (failed + 1) rest else (false, t.ecsFail m)
    else if r.status ≠ 0 then (false, t)
    else
      match upNext step r.rdata.toNat with
      | none => (false, t)
      | some k =>
        if k = 4 then (true, t.onEcs m fun e => { e with status := r.rdata.toNat }) else t.bringUp m k 0 rest

/-- An answer of STATUS OK with its CRC, and the answers of a module that comes up at once (R167, R168). -/
def ecsOk (rdata : Nat) : EcsResponse := ⟨0, BitVec.ofNat 16 rdata, BitVec.ofNat 8 (crc8 [0, rdata / 256 % 256, rdata % 256])⟩
def upLit (power : Nat) : ModuleUp := { answers := [ecsOk 1, ecsOk 0xEC36, ecsOk 1, ecsOk 3], power := power }

/-- A module's bring-up (R167): ECS_EN rises; a module that answers every step is lit, with its input power as the reference; any other has failed to start. A module marked FAILED is sent nothing (R169). -/
def State.combUp (s : State) (m : Nat) (u : ModuleUp) : State :=
  let t := s.onEcs m fun e => { e with en := true, status := 0, queue := e.queue.filter (·.sw) }
  let r := if s.combBit Reg.COMB_STAT_FAILED m then (false, t) else t.bringUp m 0 0 u.answers
  let v := if r.1 then
      ((((r.2.onEcs m fun e => { e with lolLive := false }).combSet Reg.COMB_STAT_LIT m true).put (Reg.COMB_PWR_REF m) u.power).put
        (Reg.COMB_PWR_IN m) u.power).combSet Reg.COMB_STAT_LOL m (s.ecsAt m).lolMask
    else ((r.2.combSet Reg.COMB_STAT_FAILED m true).combSet Reg.COMB_STAT_LIT m false).raiseEvt 12 5
  v.ecsDrive m

/-- What Isax does with the answer to a transaction of its own (R170, R171, R173, R379): STATUS, POWER and FAULT_CODE are recorded; a FAULT with light present raises MOD_FAULT, has its code read and may switch the quad; a parked module's enable falls. -/
def State.ecsOwn (s : State) (m : Nat) (t : EcsTxn) (rdata : Nat) : State :=
  if t.write then s.cond (t == ecsPark) (·.ecsOff m)
  else if t.addr = 1 then
    let u := s.onEcs m fun e => { e with status := rdata }
    if bitOf rdata 2 && u.combBit Reg.COMB_STAT_LIT m && !u.combBit Reg.COMB_STAT_LOL m then
      ((u.raiseEvt 12 3).onEcs m fun e => { e with queue := e.queue ++ [⟨false, 5, 0, false⟩] }).cond
        (decide (m < 4) && u.bit Reg.COMB_CTL_FAULT_SW) (·.autoSwitch m)
    else u
  else s.onEcs m fun e => if t.addr = 3 then { e with power := rdata } else if t.addr = 5 then { e with faultCode := rdata } else e

/-- The end of a module's running transaction: its result, and the next one (R169, R171). -/
def State.ecsEnd (s : State) (m : Nat) (t : EcsTxn) (status rdata : Nat) (fail : Bool) : State :=
  let u := s.onEcs m fun e => { e with queue := e.queue.tail, attempts := 0 }
  (if t.sw then
    ((((u.put Reg.COMB_ECS_RSP_STATUS status).put Reg.COMB_ECS_RSP_RDATA rdata).put Reg.COMB_ECS_RSP_DONE 1).putB Reg.COMB_ECS_RSP_FAIL fail).put
      Reg.COMB_ECS_REQ_GO 0
   else if status = 0 ∧ fail = false then u.ecsOwn m t rdata
   else u.cond (t == ecsPark) (·.ecsOff m)).ecsDrive m

/-- ECS_TRANSACTION_END (R168, R169): the answer is taken, tried again, or the module fails after the third attempt. -/
def execEcsTransactionEnd (m : CombId) (resp : EcsResponse) (s : State) : Result :=
  match (s.ecsAt m).queue with
  | [] => .next s
  | t :: _ =>
    if !ecsRetryable resp then .next (s.ecsEnd m t resp.status.toNat resp.rdata.toNat false)
    else if (s.ecsAt m).attempts < 3 then .next (s.bump Reg.COMB_ECS_CNT_RETRIES)
    else .next ((s.ecsFail m).ecsEnd m t resp.status.toNat resp.rdata.toNat true)

/-- ECS_RETRY (R169): 1 µs after a failed attempt the transaction is driven again. -/
def execEcsRetry (m : CombId) (s : State) : Result :=
  match (s.ecsAt m).queue with
  | t :: _ =>
    .next (s.cond (!s.combBit Reg.COMB_STAT_FAILED m && decide ((s.ecsAt m).attempts < 3)) fun u =>
      (u.onEcs m fun e => { e with attempts := e.attempts + 1 }).ecsSend m t)
  | [] => .next s

/-- The write of COMB_ECS_REQ (R171): MOD 5 to 7 is refused; GO queues the transaction. -/
def State.ecsRequest (s : State) (v : Nat) : State :=
  let t := (((s.put Reg.COMB_ECS_REQ_MOD (bits v 0 3)).put Reg.COMB_ECS_REQ_WR (bits v 3 1)).put Reg.COMB_ECS_REQ_ADDR (bits v 4 8)).put
    Reg.COMB_ECS_REQ_DATA (bits v 12 16)
  if bitOf v 31 && !s.bit Reg.COMB_ECS_REQ_GO then
    (t.put Reg.COMB_ECS_REQ_GO 1).ecsQueue (bits v 0 3) ⟨bitOf v 3, bits v 4 8, bits v 12 16, true⟩
  else t

/-- The housekeeper's reads of a poll: STATUS and POWER (R171). -/
def ecsPoll : List EcsTxn := [⟨false, 1, 0, false⟩, ⟨false, 3, 0, false⟩]

/-- COMB_STATUS_POLL (R169, R171): STATUS and POWER of an enabled module are read; nothing is sent to a module marked FAILED, and a poll not yet over is not repeated. Their answers act at ECS_TRANSACTION_END. -/
def execCombStatusPoll (m : CombId) (s : State) : Result :=
  .next (s.cond ((s.ecsAt m).en && !s.combBit Reg.COMB_STAT_FAILED m && !(s.ecsAt m).queue.any fun t => !t.sw) fun t =>
    t.forAll ecsPoll fun x u => u.ecsQueue m x)

/-- COMB_LOSS_OF_LIGHT (R172, R173, R192): the input detector asserts; the quad switches onto COMBS where it may. -/
def execCombLossOfLight (i : CombId) (s : State) : Result :=
  if (s.ecsAt i).lolMask then .next (s.onEcs i fun e => { e with lolLive := true })
  else
    let t := ((s.onEcs i fun e => { e with lolLive := true }).combSet Reg.COMB_STAT_LOL i true).raiseEvt 12 0
    .next (t.cond (decide (i.val < 4)) (·.autoSwitch i))

/-- COMB_LIGHT_RETURN (R192): the input detector deasserts; a masked detector stays taken as asserted (R193). -/
def execCombLightReturn (i : CombId) (s : State) : Result :=
  let t := s.onEcs i fun e => { e with lolLive := false }
  .next (t.combSet Reg.COMB_STAT_LOL i (s.ecsAt i).lolMask)

/-- The write of COMB_STAT: FAILED bits clear, which lets their modules' transactions run again (R169); LOL bits unmask storming detectors, whose live level shows again (R193). -/
def State.combStatWrite (s : State) (v : Nat) : State :=
  s.forAll [0, 1, 2, 3, 4] fun m t =>
    let t := t.cond (bitOf v (10 + m) && t.combBit Reg.COMB_STAT_FAILED m) fun u =>
      (u.combSet Reg.COMB_STAT_FAILED m false).ecsDrive m
    t.cond (bitOf v (5 + m) && (t.ecsAt m).lolMask) fun u =>
      (u.onEcs m fun e => { e with lolMask := false }).combSet Reg.COMB_STAT_LOL m (u.ecsAt m).lolLive

/-- DETECTOR_STORM (R193): a line detector of either bank is masked and its line BAD; a comb detector is masked and taken as asserted, so R173 applies. -/
def execDetectorStorm (d : Detector) (s : State) : Result :=
  match d with
  | .line n rx k =>
    .next (((s.onRing n rx k fun g => { g with masked := true }).raiseEvt (64 + n) 6).markBad n rx k none false)
  | .comb i =>
    let t := ((s.onEcs i fun e => { e with lolMask := true }).combSet Reg.COMB_STAT_LOL i true).raiseEvt 12 4
    .next (t.cond (decide (i.val < 4)) (·.autoSwitch i))

end Sys2Proof.Machine
end

