-- ==== Sys2Proof/Machine/CellarOps.lean ====
section
/-! DEFINITION. Shared operations of the Cellar: its bytes, its regions, the mount, page programs and uncorrectable reads (R292 to R305, R311). -/

namespace Sys2Proof.Machine

/-! Bytes and regions. -/

/-- The canonical form of the Cellar's bytes: addresses rise, and no entry holds what an unwritten byte reads as. (DESIGN CHOICE: assumption 5) -/
abbrev Memory.wf (m : List Host.Cell) : Bool := Table.wf 0 m

/-- The physical extents (R292, R293): 61,440 logical ones, then 64 of metadata, 32 of levelling reserve and 4000 of replacement pool. -/
def logicalExtents : Nat := 61440
def metaExtents : Nat := 64
def reserveExtents : Nat := 32
def poolExtents : Nat := 4000
/-- The first extent of the replacement pool, and its pages. (DESIGN CHOICE: assumption 40) -/
def poolBase : Nat := logicalExtents + metaExtents + reserveExtents
def poolPages : Nat := 256 * poolExtents

/-- Bytes of the logical space from an address; an unwritten byte reads 0. (DESIGN CHOICE: assumption 5) -/
def Nv.read (v : Nv) (addr len : Nat) : List Byte := (List.range len).map fun i => tget 0 v.mem (addr + i)

/-- Bytes put at an address. (DESIGN CHOICE: assumption 5) -/
def Nv.write (v : Nv) (addr : Nat) (bs : List Byte) : Nv :=
  { v with mem := (bs.foldl (fun (a : Nat × List Host.Cell) b => (a.1 + 1, tset 0 a.2 a.1 b)) (addr, v.mem)).2 }

/-- The regions' byte offsets (Table CELL-1). -/
def loftBase : Nat := 0
def calBase : Nat := 0x40000000
def goldBase : Nat := 0x80000000
def ckptBase : Nat := 0x90000000
def atticBase : Nat := 0x490000000
def userBase : Nat := 0x510000000
/-- The end of the logical space, 60 GiB. -/
def cellEnd : Nat := 1048576 * logicalExtents

/-- The logical page of a byte address. -/
def pageOf (addr : Nat) : Nat := addr / 4096

/-- The logical pages of a range of bytes. -/
def pagesOf (addr len : Nat) : List Nat :=
  if len = 0 then [] else (List.range ((addr + len - 1) / 4096 - addr / 4096 + 1)).map (addr / 4096 + ·)

/-- A page of the Attic, and of USER. -/
def inAttic (page : Nat) : Bool := decide (atticBase / 4096 ≤ page) && decide (page < userBase / 4096)
def inUser (page : Nat) : Bool := decide (userBase / 4096 ≤ page)

/-- The physical extent a logical page lies on (R306), its physical page there, and the bank of that page (R292). -/
def Nv.extentOf (v : Nv) (page : Nat) : Nat := (tget none v.emap (page / 256)).getD (page / 256)
def Nv.physOf (v : Nv) (page : Nat) : Nat := 256 * v.extentOf page + page % 256
def bankOf (page : Nat) : Nat := page % 16

/-- The physical extent whose page takes the programs of a logical page: that of its replacement page, where it was retired (R303, R305). -/
def Nv.homeOf (v : Nv) (page : Nat) : Nat :=
  match tget none v.retired (v.physOf page) with
  | some k => poolBase + k / 256
  | none => v.extentOf page

/-- Replacement pages left free (R293, R303): factory and grown defects draw on the pool. -/
def Nv.spareFree (v : Nv) : Nat := poolPages - v.factory - v.grown

/-- The spare area of a page (R292): the logical page number, the write sequence number, the CRC-32C over the data, and the ECC. -/
structure SpareArea where
  page : Nat
  seq  : Nat
  crc  : Nat
  ecc  : List Byte
  deriving DecidableEq, Repr

def Nv.spareArea (v : Nv) (page : Nat) : SpareArea :=
  let d := v.read (4096 * page) 4096
  { page := page, seq := tget 0 v.pageSeq page, crc := crc32c (toVals d), ecc := Config.cellEcc d }

/-- A Loft object's first byte and size (R295): objects 0 and 1 are the firmware slots, 2 to 17 the personality slots. -/
def loftAddr (obj : Nat) : Nat := if obj < 2 then obj * 0x1000000 else 0x2000000 + (obj - 2) * 0x3C00000
def loftSize (obj : Nat) : Nat := if obj < 2 then 0x1000000 else 0x3C00000

/-- The Loft object that a page belongs to. -/
def loftOf (page : Nat) : Option Nat :=
  (List.range 18).find? fun o => decide (loftAddr o ≤ 4096 * page) && decide (4096 * page < loftAddr o + loftSize o)

/-- The copies A and B of the ring map take 1 MiB each of CAL, and then those of the tiles' correction records a page each (R296). (DESIGN CHOICE: assumption 40) -/
def mapAddr (b : Bool) : Nat := calBase + (if b then 0x100000 else 0)
def corrPage (t : Nat) (b : Bool) : Nat := pageOf calBase + 512 + 2 * t + b2n b

/-- The place of a frame's signature in a set (R134, R296): the frames of P0 to P23, then those of P24. -/
def sigIndex (target : Nat) : Nat := if target / 2048 < 24 then 512 * (target / 2048) + target % 2048 else 12288 + target % 2048

/-- The address of a signature set, of 14,336 × 32 bytes, and its pages. (DESIGN CHOICE: assumption 40) -/
def goldAddr (set : Bool) : Nat := goldBase + (if set then 14336 * 32 else 0)
def goldPages (set : Bool) : List Nat := pagesOf (goldAddr set) (14336 * 32)

/-! Wear and defects. -/

/-- A physical extent that levelling moves (R306): one of the logical space, but not of the Attic. (DESIGN CHOICE: assumption 41) -/
def levelled (e : Nat) : Bool := decide (e < 0x4900) || (decide (0x5100 ≤ e) && decide (e < 61440))

/-- The largest wear of the levelled extents in writes per page (R305). -/
def Nv.wearMax (v : Nv) : Nat :=
  (v.wear.filter fun e => levelled e.1).foldl (fun m e => max m (e.2 / 256)) 0

/-- The mean wear of the 59,392 levelled extents in writes per page. -/
def Nv.wearMean (v : Nv) : Nat :=
  (v.wear.filter fun e => levelled e.1).foldl (fun m e => m + e.2) 0 / (256 * 59392)

/-- The watermarks of the Cellar (R307). -/
def spareWm : Wm :=
  ⟨Reg.CELL_SPARE_THR_LO, Reg.CELL_SPARE_THR_HI, Reg.CELL_SPARE_WM_LVL, Reg.CELL_SPARE_WM_UP, Reg.CELL_SPARE_WM_DN,
    Reg.CELL_SPARE_WM_DN_EN, Reg.CELL_SPARE_WM_CROSS, 6, 4, 5⟩
def wearWm : Wm :=
  ⟨Reg.CELL_WEAR_THR_LO, Reg.CELL_WEAR_THR_HI, Reg.CELL_WEAR_WM_LVL, Reg.CELL_WEAR_WM_UP, Reg.CELL_WEAR_WM_DN,
    Reg.CELL_WEAR_WM_DN_EN, Reg.CELL_WEAR_WM_CROSS, 6, 6, 7⟩

/-- Replacement pages used, in units of 256. -/
def State.spareUsed (s : State) : Nat := (poolPages - s.nv.spareFree) / 256

/-- The defect, spare and wear registers follow the maps, and their marks are judged (R293, R303, R305, R307). -/
def State.cellGauges (s : State) : State :=
  let v := s.nv
  let t := ((((s.put Reg.CELL_DEF_FACTORY (min v.factory 65535)).put Reg.CELL_DEF_GROWN (min v.grown 65535)).put
    Reg.CELL_SPARE_FREE v.spareFree).put Reg.CELL_WEAR_MAX (min (v.wearMax / 1000) 65535)).put Reg.CELL_WEAR_MEAN (min (v.wearMean / 1000) 65535)
  (t.judge spareWm t.spareUsed).judge wearWm (t.nv.wearMax / 1000)

/-! Reads. -/

/-- An uncorrectable read of a logical page by a master, for a read or a write (R302, Table FAULT-2). -/
def State.cellUe (s : State) (page : Nat) (master : Nat := 31) (acc : Nat := 3) : State :=
  ((s.put Reg.CELL_UE_PAGE page).put Reg.CELL_UE_VALID 1).raiseErr 6 8 { master := master, acc := acc, addr := page }

/-- The first page of a read that reads uncorrectable. -/
def CellEnv.firstUe (env : CellEnv) (pages : List Nat) : Option Nat := pages.find? (· ∈ env.ue)

/-- Codewords corrected on the way (R302). -/
def State.cellCorr (s : State) (n : Nat) : State := s.cond (n != 0) (·.bump Reg.CELL_ECC_CORR n)

/-- A torn page is counted and recorded (R301). -/
def State.cellTorn (s : State) (page : Nat) : State :=
  (((s.put Reg.CELL_TORN_PAGE page).put Reg.CELL_TORN_VALID 1).bump Reg.CELL_CNT_TORN).raiseEvt 6 2

/-! Programs. -/

/-- How a run of page programs went. -/
structure Programmed where
  /-- 0, CELL_TEMP or CELL_ERR of Table MBOX-2. -/
  code : Nat
  /-- How many pages were programmed. -/
  done : Nat
  st   : State

/-- The write window closes (R310, R311). -/
def State.winClose (s : State) : State :=
  if s.bit Reg.CELL_STAT_WIN then (s.put Reg.CELL_STAT_WIN 0).raiseEvt 6 0 else s

/-- A page is retired (R303, R304): the next free replacement page takes its place, or, with none left, its data is lost. -/
def State.retirePage (s : State) (page : Nat) : Nat × State :=
  if 0 < s.nv.spareFree then
    (0, (s.onNv fun v => { v with retired := tset none v.retired (v.physOf page) (some (poolPages - v.spareFree)), grown := v.grown + 1 }).raiseEvt 6 3)
  else (8, (s.onNv fun v => { v with lost := page :: v.lost }).raiseErrFree 6 9)

/-- One page is programmed and verified (R292, R303 to R305): it takes the next write sequence number and counts as wear; one that must be retired takes a replacement page, or loses its data. (DESIGN CHOICE: assumption 40) -/
def State.program1 (s : State) (page : Nat) (retire : Bool) : Nat × State :=
  let t := s.onNv fun v =>
    { v with wear := tset 0 v.wear (v.homeOf page) (tget 0 v.wear (v.homeOf page) + 1),
             writeNo := (v.writeNo + 1) % 2 ^ 48, pageSeq := tset 0 v.pageSeq page ((v.writeNo + 1) % 2 ^ 48),
             tornUser := v.tornUser.filter (· != page), lost := v.lost.filter (· != page) }
  if retire then t.retirePage page else (0, t)

/-- A page must be retired (R303): it fails its verify twice, or its verify shows more corrected bits in a codeword than RETIRE_THR. -/
def State.retires (s : State) (env : CellEnv) (page : Nat) : Bool :=
  decide (page ∈ env.retire) || env.verify.any fun v => v.1 == page && decide (s.get Reg.CELL_ECC_RETIRE_THR < v.2)

/-- Pages programmed one after another (R311): none starts while the window is closed; the window may close after `close` of them. -/
def State.programs (env : CellEnv) : Nat → State → List Nat → Programmed
  | n, s, [] => ⟨0, n, s⟩
  | n, s, p :: ps =>
    let s := if env.winCloses = some n then s.winClose else s
    if !s.bit Reg.CELL_STAT_WIN then ⟨7, n, s.bump Reg.CELL_CNT_TEMP_REF⟩
    else
      let (c, t) := s.program1 p (s.retires env p)
      if c ≠ 0 then ⟨c, n, t⟩ else State.programs env (n + 1) t ps

/-- Pages rewritten one after another where they lie (R308, R309): those that a closed window leaves are listed for later. An Attic page is never remapped; one whose verify fails twice stays as it reads, and CELL_TORN records it. -/
def State.rewrites (env : CellEnv) : Nat → State → List Nat → List Nat × State
  | _, s, [] => ([], s)
  | n, s, p :: ps =>
    let s := if env.winCloses = some n then s.winClose else s
    if !s.bit Reg.CELL_STAT_WIN then (p :: ps, s)
    else if inAttic p then
      State.rewrites env (n + 1) ((s.program1 p false).2.cond (decide (p ∈ env.retire)) fun t => (t.put Reg.CELL_TORN_PAGE p).put Reg.CELL_TORN_VALID 1) ps
    else State.rewrites env (n + 1) (s.program1 p (s.retires env p)).2 ps

/-- Intents for pages about to be programmed (R300): at most 16 stand open. -/
def Nv.intend (v : Nv) (pages : List Nat) : Nv :=
  { v with intents := (pages.map (fun p => { page := p, old := v.read (4096 * p) 4096, seq := tget 0 v.pageSeq p : Intent }) ++ v.intents).take 16 }

/-- A run of page programs, with the gauges brought up to date. -/
def State.programPages (s : State) (env : CellEnv) (pages : List Nat) : Programmed :=
  let r := State.programs env 0 s pages
  { r with st := r.st.cellGauges }

/-! The mount. -/

/-- An Attic slot of a page. -/
def atticSlotOf (page : Nat) : Nat := (page - atticBase / 4096) / 65536

/-- A copy of a CAL object or of a checkpoint is no longer valid, and the other stays in force; so is a staged signature set (R296, Table CELL-2, Table CELL-3). -/
def Nv.dropCopy (v : Nv) (page : Nat) : Nv :=
  if page < pageOf (mapAddr true) then { v with calA := none }
  else if page < corrPage 0 false then { v with calB := none }
  else if page < pageOf goldBase then { v with tileCorr := tset none v.tileCorr ((page - corrPage 0 false) / 2) none }
  else if page < pageOf ckptBase then (if page ∈ goldPages (!v.goldSet) then { v with goldStaged := [] } else v)
  else { v with lost := page :: v.lost.filter (· != page) }

/-- A page found torn at mount (R301, Table CELL-2): a Loft slot is invalid already, and an Attic slot becomes PARTIAL with its state. -/
def State.tear (s : State) (page : Nat) : State :=
  let t := s.cellTorn page
  if inUser page then t.onNv fun v => { v with tornUser := page :: v.tornUser.filter (· != page) }
  else t.cond (decide (pageOf calBase ≤ page) && !inAttic page) fun u => u.onNv fun v => v.dropCopy page

/-- A page found to hold whole old data at mount (R300). (DESIGN CHOICE: assumption 40) -/
def Nv.restore (v : Nv) (i : Intent) : Nv :=
  if pageOf calBase ≤ i.page ∧ i.page < pageOf goldBase then v.dropCopy i.page
  else { v.write (4096 * i.page) i.old with pageSeq := tset 0 v.pageSeq i.page i.seq }

/-- Steps 1 to 3 of a mount (R299): it may fail; open intents are examined and closed, WRITING Attic slots become PARTIAL (R297), and the first pass runs at the B4 pace (R308). -/
def State.mount (s : State) (env : CellEnv) : Option State :=
  if env.mountFails then none
  else
    let t := s.forAll s.nv.intents fun i u =>
      if i.page ∈ env.torn then u.tear i.page else if i.page ∈ env.old then u.onNv fun v => v.restore i else u
    let t := t.onNv fun v => { v with intents := [], attic := tmap .free (fun _ a => if a = .writing then .part else a) v.attic }
    some ((((t.put Reg.CELL_STAT_MOUNTED 1).put Reg.CELL_BOOT_COUNT t.nv.bootCount).put Reg.CELL_REFR_EXTENT 0).onMgmt (fun m => { m with firstPass := true })).cellGauges

/-- The boot record is committed, or its commit waits for the window; none where it cannot be written (R299). -/
def State.commitBoot (s : State) (env : CellEnv) : Option State :=
  if !s.bit Reg.CELL_STAT_WIN then some (s.put Reg.CELL_STAT_BOOT_DEFER 1)
  else if env.bootFails then none
  else
    let c := (s.nv.bootCount + 1) % 2 ^ 32
    some (((s.onNv fun v => { v with bootCount := c }).put Reg.CELL_BOOT_COUNT c).put Reg.CELL_STAT_BOOT_DEFER 0)

/-- The mount that a mailbox command makes in MGMT: CELL is powered, its PLL locks, and the Cellar mounts (R298); none where it fails. -/
def State.needCellar (s : State) (env : CellEnv) : Option State :=
  if s.bit Reg.CELL_STAT_MOUNTED then some s
  else (s.put Reg.CLK_STAT_LOCK (setBitOf (s.get Reg.CLK_STAT_LOCK) 3)).mount env

/-- The Cellar is unmounted (R298, R312): writes in flight complete; a deferred boot record is dropped (R299). -/
def State.unmount (s : State) : State :=
  ((s.put Reg.CELL_STAT_MOUNTED 0).put Reg.CELL_STAT_BOOT_DEFER 0 |>.put Reg.CELL_REFR_DEFER 0 |>.put Reg.CELL_STAT_WL_BUSY 0 |>.put Reg.CELL_STAT_REFR_BEHIND 0).onMgmt
    fun m => { m with deferred := [], wl := none, wlRetry := none, cellWait := [], firstPass := false }

end Sys2Proof.Machine
end

