-- ==== Sys2Proof/Machine/HpOps.lean ====
section
/-! DEFINITION. Shared operations of the host ports: module states, link resets, the credit handshake, the ingress buffer, heat hints and the urgency wires (R136 to R163). A Wide port is named by its even module. -/

namespace Sys2Proof.Machine

/-! Ports and states. -/

/-- The module that stands for its port: the even one of a Wide pair (R150). -/
def State.hpBase (s : State) (n : Nat) : Nat := if s.bit (Reg.HP_STAT_WIDE n) then n / 2 * 2 else n

/-- The odd module of a Wide pair, which carries no traffic of its own (R150). -/
def State.hpIdle (s : State) (n : Nat) : Bool := s.bit (Reg.HP_STAT_WIDE n) && n % 2 == 1

/-- The modules of a port. -/
def State.hpMods (s : State) (n : Nat) : List Nat := if s.bit (Reg.HP_STAT_WIDE n) then [n / 2 * 2, n / 2 * 2 + 1] else [n]

/-- The ingress buffer in blocks (R150, R153). -/
def State.hpSize (s : State) (n : Nat) : Nat := if s.bit (Reg.HP_STAT_WIDE n) then 8192 else 4096

/-- HP_STAT.STATE (Table HP-3). -/
def State.hpState (s : State) (n : Nat) : Nat := s.get (Reg.HP_STAT_STATE n)

/-- Sets the state of a port's modules. -/
def State.hpGo (s : State) (n st : Nat) : State := s.forAll (s.hpMods n) fun m t => t.put (Reg.HP_STAT_STATE m) st

/-- The HOST PLLs of a port's modules have locked. -/
def State.hpLocked (s : State) (n : Nat) : Bool := (s.hpMods n).all fun m => bitOf (s.get Reg.CLK_HOST_LOCK) m

/-- TRAIN is entered; a Wide port drives its training pattern (R141, R152). -/
def State.hpTrain (s : State) (n : Nat) : State := (s.hpGo n 3).cond (s.bit (Reg.HP_STAT_WIDE n)) (·.emit (.widePattern (s.hpBase n)))

/-- Where a module stands that does not yet run (R141, R144, R152, R163): OFF, HELD, ERROR until EN is written, LOOP, SB or TRAIN. In the Trapdoor nothing trains (Table FAULT-3). (DESIGN CHOICE: assumption 24) -/
def State.hpSettle (s : State) (n : Nat) : State :=
  if decide (s.power < 2) || (s.hpMods n).any (fun m => !s.bit (Reg.HP_CFG_EN m)) then s.hpGo n 0
  else if (s.hpMods n).any s.held then s.hpGo n (if (s.hpAt n).sbUp then 2 else 1)
  else if s.hpState n = 8 then s
  else if s.get (Reg.HP_LB_MODE n) = 1 ∨ s.get (Reg.HP_LB_MODE n) = 3 then s.hpGo n 7
  else if (s.bit (Reg.HP_STAT_WIDE n) || (s.hpAt n).sbUp) && s.hpLocked n && !s.keep.inTrap then s.hpTrain n
  else s.hpGo n 2

/-! The ingress buffer. -/

/-- The watermark of a module's ingress buffer. -/
def creditWm (n : Nat) : Wm :=
  ⟨Reg.HP_CR_THR_LO n, Reg.HP_CR_THR_HI n, Reg.HP_CR_WM_LVL n, Reg.HP_CR_WM_UP n, Reg.HP_CR_WM_DN n, Reg.HP_CR_WM_DN_EN n,
    Reg.HP_CR_WM_CROSS n, 16 + n, 8, 9⟩

/-- Sets the blocks occupied, and judges the mark. -/
def State.setOcc (s : State) (n v : Nat) : State := (s.put (Reg.HP_CR_ING_OCC n) v).judge (creditWm n) v

/-- Blocks leave the ingress buffer and are granted to the host again, where it holds credits of this epoch (R154, R155). -/
def State.freeIngress (s : State) (n blocks : Nat) : State :=
  let t := s.setOcc n (s.get (Reg.HP_CR_ING_OCC n) - blocks)
  if (t.hpAt n).crSent then (t.put (Reg.HP_CR_ING_GRANTED n) (t.get (Reg.HP_CR_ING_GRANTED n) + blocks)).emit (.credits n blocks) else t

/-- A primitive of module n takes the oldest complete transfer of its ingress buffer with it: its blocks, 0 where none is held. (DESIGN CHOICE: assumption 24) -/
def State.claim (s : State) (n : Nat) : Nat × State :=
  match (s.hpAt n).whole with
  | [] => (0, s)
  | b :: l => (b, s.onHp n fun h => { h with whole := l })

/-- A primitive that carries nothing into CORE frees the transfer it takes at once. (DESIGN CHOICE: assumption 24) -/
def State.consume (s : State) (n : Nat) : State :=
  match (s.hpAt n).whole with
  | [] => s
  | b :: l => (s.onHp n fun h => { h with whole := l }).freeIngress n b

/-! Link resets and the credit handshake. -/

/-- Blocks held of ingress transfers whose last beat has not arrived, and the number of those transfers (R143). -/
def Hp.partBlocks (h : Hp) : Nat := (h.parts.filterMap (·.2)).sum
def Hp.partCount (h : Hp) : Nat := (h.parts.filterMap (·.2)).length

/-- A link reset of a port (R143, R156): every partial ingress transfer is discarded and counted, complete ones and deliveries are kept, credits are void. -/
def State.hpLinkReset (s : State) (n0 : Nat) : State :=
  let n := s.hpBase n0
  let t := s.setOcc n (s.get (Reg.HP_CR_ING_OCC n) - (s.hpAt n).partBlocks)
  let t := ((t.put (Reg.HP_CR_AUDIT_OCC n) (t.get (Reg.HP_CR_ING_OCC n))).put (Reg.HP_CR_AUDIT_DISC n) (min 15 (s.hpAt n).partCount)).put (Reg.HP_CR_ING_GRANTED n) 0
  let t := ((t.bump (Reg.HP_CR_AUDIT2_RESETS n)).put (Reg.HP_STAT_X40_FAIL n) 0).onHp n fun h =>
    { h with parts := [], crSent := false, crAcked := false, egr := 0, l1Req := false, wideLock := false }
  t.raiseEvt (16 + n) 2

/-- A port that runs (CR_WAIT, ACTIVE or L1) is reset; any other is left (R143). -/
def State.hpResetLive (s : State) (n : Nat) : State :=
  s.cond (s.hpState n == 4 || s.hpState n == 5 || s.hpState n == 6) (·.hpLinkReset n)

/-- CR_INIT goes out with the epoch and the free ingress credits (R153): on the sideband, or in band where that is not trained (R147). -/
def State.crInit (s : State) (n : Nat) : State :=
  let c := s.hpSize n - s.get (Reg.HP_CR_ING_OCC n)
  let v := c + 65536 * s.get (Reg.HP_STAT_EPOCH n)
  (((s.onHp n fun h => { h with crSent := true }).put (Reg.HP_CR_AUDIT_RECON n) c).put (Reg.HP_CR_ING_GRANTED n) c).emit
    (if (s.hpAt n).sbUp then .sbMsg n 0x10 v else .inBand n 0x10 v)

/-- Entry to CR_WAIT (R141, R153): a new epoch, and CR_INIT where the gates are open. -/
def State.crWait (s : State) (n : Nat) : State :=
  let t := (s.hpGo n 4).incr (Reg.HP_STAT_EPOCH n)
  let t := t.onHp n fun h => { h with crSent := false, crAcked := false }
  t.cond t.gates (·.crInit n)

/-- With the gates open, a port that waits in CR_WAIT sends CR_INIT, or enters ACTIVE where its handshake has finished (R80 S14, R141, R153, R334). -/
def State.crInitAll (s : State) : State :=
  s.forAll ((List.range 24).filter fun n => s.hpState n == 4 && !s.hpIdle n) fun n t =>
    if (t.hpAt n).crAcked then t.hpGo n 5 else t.cond (!(t.hpAt n).crSent) (·.crInit n)

/-- A training attempt fails (R144): the module tries again, or stays in ERROR. -/
def State.hpTrainFail (s : State) (n cause : Nat) : State :=
  let t := ((s.put (Reg.HP_TRAIN_CAUSE n) cause).bump (Reg.HP_TRAIN_FAIL_CNT n)).raiseEvt (16 + n) 1
  let t := t.onHp n fun h => { h with wideLock := false }
  if t.bit (Reg.HP_CFG_RETRY n) then t.hpSettle n else t.hpGo n 8

/-! Holds. -/

/-- The edges of URG wire n are counted: from DARK upward, also while its module is held, but not in the Trapdoor nor on the odd module of a Wide pair (R57, R150, R159, Tables CFG-6, FAULT-3). -/
def State.urgSeen (s : State) (n : Nat) : Bool := decide (2 ≤ s.power) && !s.keep.inTrap && !s.hpIdle n

/-- URG wire n is acted on: it is counted, and its module is not held (Table PKG-5). -/
def State.urgIn (s : State) (n : Nat) : Bool := s.urgSeen n && !s.held n

/-- The urgency wire is taken at its filtered level, unless it is ignored, masked, stuck or waits to be inactive (R159 to R161). -/
def State.urgTake (s : State) (n : Nat) : State :=
  s.onHp n fun h => { h with urg := s.urgIn n && h.level && !s.bit (Reg.HP_URG_MASK n) && !s.bit (Reg.HP_URG_STUCK n) && !h.urgWait }

/-- Module HPn stands held: HELD where it is enabled in DARK or above, its wire and hints ignored (Table CFG-6). A module in ERROR leaves it by a hold. (DEDUCED: assumption 24) -/
def State.hpHeld (s : State) (n : Nat) : State :=
  (s.cond (s.bit (Reg.HP_CFG_EN n) && decide (2 ≤ s.power)) (·.put (Reg.HP_STAT_STATE n) 1)).onHp n fun h => { h with urg := false }

/-- A hold takes module HPn: where it ran or trained, a link reset; then HELD (R128, R143). -/
def State.hpHold (s : State) (n : Nat) : State :=
  (s.cond (s.bit (Reg.HP_CFG_EN n) && decide (2 ≤ s.power) && s.hpState n != 1 && s.hpState n != 2 && !s.hpIdle n) (·.hpLinkReset n)).hpHeld n

/-- A hold on module HPn ends: it trains, and its wire is taken at its present level (R129, R159). -/
def State.hpRelease (s : State) (n : Nat) : State := (s.hpSettle n).urgTake n

/-- Every module settles and its wire is taken: DARK is reached (R141, R159). -/
def State.hpDark (s : State) : State := s.forAll (List.range 24) fun n t => t.hpRelease n

/-! Deliveries. -/

/-- Something waits in module n for its host; a module in L1 asks to leave it (R142). -/
def State.deliver (s : State) (n : Nat) (d : Delivery) : State :=
  (s.onHp n fun h => { h with deliveries := h.deliveries ++ [d] }).cond (s.hpState n == 6) (·.emit (.l1Leave n))

/-- A primitive that the personality of module n sends toward the stream engine comes back to it as a delivery: loop-back mode 2 (R162). -/
def State.fabricLoop (s : State) (n : Nat) : Bool := s.gates && !s.frozen && !s.held n && !s.hpIdle n && s.get (Reg.HP_LB_MODE n) == 2

/-! Pattern errors. -/

/-- The lanes whose PRBS31 counters run (R163). -/
def State.lbLanes (s : State) (n : Nat) : Nat := if s.bit (Reg.HP_STAT_WIDE n) then 256 else 64

/-! Heat hints. -/

/-- A step of the host-power estimate is applied as feed-forward to the heaters of each port whose FF_EN is 1, while the tuning loops run; a ring under search is left to its sweep (R149, R183). (DESIGN CHOICE: assumption 27) -/
def State.applyStep (s : State) (step : Int) : State :=
  let t := { s with hostPower := s.hostPower + step }
  if !t.ringsOn then t
  else t.forAll ((List.range 16).filter fun n => t.bit (Reg.LAM_CTL_FF_EN n) && !t.bit (Reg.LAM_STAT_SEARCHING n)) fun n u =>
    let (d, u) := u.quot (-(signed16 (u.get (Reg.LAM_FF_GAIN n)) * step)) 256
    { u with rings := tmap {} (fun k r => if k / 72 = n then { r with code := (min 65535 (max 0 ((r.code : Int) + d))).toNat } else r) u.rings }

/-- HP_HINT_LAST.PEND follows the pending hints. -/
def State.hintGauge (s : State) (n : Nat) : State := s.put (Reg.HP_HINT_LAST_PEND n) (s.hpAt n).hints.length

/-- A 6-bit two's complement number (Table HP-6). -/
def signed6 (v : Nat) : Int := if v % 64 < 32 then (v % 64 : Nat) else ((v % 64 : Nat) : Int) - 64

end Sys2Proof.Machine
end

