-- ==== Sys2Proof/Machine/Qos.lean ====
section
/-! DEFINITION. Regulation (R248 to R262): class assignment, rounds and tokens, effective priorities, what a pick draws, misses and their record. The pick and what a grant lets through are in Grant.lean. -/

namespace Sys2Proof.Machine

/-! Classes. -/

/-- The class a master's transfer takes (R251): FORCE, then the class given by its context, window or queue, then TC_DEF; TC0 without TC0_EN becomes TC1. (DEDUCED: assumption 26) -/
def State.classOf (s : State) (m : Nat) (given : Option Nat) : Nat :=
  let c := if s.bit (Reg.QOS_MST_FORCE m) then s.get (Reg.QOS_MST_TC_DEF m) else given.getD (s.get (Reg.QOS_MST_TC_DEF m))
  if c = 0 ∧ !s.bit (Reg.QOS_MST_TC0_EN m) then 1 else c

/-- A transfer's class, with a demotion counted (R251). (DEDUCED: assumption 26) -/
def State.classify (s : State) (m : Nat) (given : Option Nat) : Nat × State :=
  let c := if s.bit (Reg.QOS_MST_FORCE m) then s.get (Reg.QOS_MST_TC_DEF m) else given.getD (s.get (Reg.QOS_MST_TC_DEF m))
  (s.classOf m given, s.cond (c == 0 && !s.bit (Reg.QOS_MST_TC0_EN m)) (·.bump Reg.QOS_CNT_DEMOTE))

/-! Rounds. -/

/-- A requester's share: SHARE of a master; RELAY_SHARE for RLY at a transmitter (R252). -/
def State.shareOf (s : State) (pt k : Nat) : Nat :=
  if k < 28 then s.get (Reg.QOS_MST_SHARE k) else if pt = 0 then 0 else s.get Reg.QOS_CFG_RELAY_SHARE

/-- Tokens dealt to a list of demands, in order, from what is there. -/
def dealOut : Nat → List Nat → List Nat
  | _, [] => []
  | n, d :: ds => min n d :: dealOut (n - min n d) ds

/-- The start of a round (R252): every token that no waiting request holds is dealt. (DEDUCED: assumption 25) -/
def State.deal (s : State) (pt : Nat) : State :=
  let shares := (List.range 29).map (s.shareOf pt)
  s.onPoint pt fun p =>
    let free := 1024 - p.drawn
    let rsv := min free (s.get Reg.QOS_CFG_TC0_RSV)
    let b := dealOut (free - rsv) shares
    { p with dealt := true, rsv := rsv, buckets := b, pool := free - rsv - b.sum, spent := 0, share := shares,
             recvd := List.replicate 29 0, whole := (List.range 29).map p.waits }

/-- The cause that held a request longest (R259): ARB, CREDIT, PANTRY, THERMAL. -/
def QReq.cause (q : QReq) : Nat :=
  ((List.range 4).foldl (fun b i => if q.holds.getD b 0 < q.holds.getD i 0 then i else b) 0)

/-- A missed guarantee is counted, flagged and, where none is held, captured (R260): kind 1 share, 2 target. -/
def State.miss (s : State) (kind pt m tc cause value : Nat) : State :=
  let t := (s.bump (if kind = 1 then Reg.QOS_MISS_CNT_SHARE else Reg.QOS_MISS_CNT_TARGET)).put Reg.QOS_MISS_MST_MST
    (setBitOf (s.get Reg.QOS_MISS_MST_MST) m)
  let t := if s.bit Reg.QOS_MISS0_VALID then t else
    t |>.put Reg.QOS_MISS0_KIND kind |>.put Reg.QOS_MISS0_MASTER m |>.put Reg.QOS_MISS0_TC tc |>.put Reg.QOS_MISS0_POINT pt
      |>.put Reg.QOS_MISS0_CAUSE cause |>.put Reg.QOS_MISS0_VALID 1 |>.put Reg.QOS_MISS1_VALUE value
      |>.put Reg.QOS_MISS2_FTIME (s.ftime % 2 ^ 32)
  t.raiseEvt 8 (kind - 1)

/-- The share misses of a round that ends (R259). -/
def State.judgeShares (s : State) (pt : Nat) : State :=
  let p := s.point pt
  s.forAll ((List.range 29).filter fun k => p.whole.getD k false && decide (p.recvd.getD k 0 < p.share.getD k 0)) fun k t =>
    match p.waiting.find? fun q => q.master == k with
    | some q => t.miss 1 pt k q.tc q.cause (p.recvd.getD k 0)
    | none => t

/-- A round ends once every token but the reserve is granted, or nothing waits; the next begins at once or with the next request (R252). -/
def State.roundEnd (s : State) (pt : Nat) : State :=
  let p := s.point pt
  if !p.dealt then s
  else if p.waiting.isEmpty then s.onPoint pt fun p => { p with dealt := false }
  else if p.pool + p.buckets.sum = 0 then (s.judgeShares pt).deal pt
  else s

/-- A request is presented at a point; an idle point begins a round with it (R252). -/
def State.present (s : State) (pt m tc cost : Nat) (item : QItem) (ing : Nat := 0) : State :=
  let t := s.onPoint pt fun p => { p with waiting := p.waiting ++ [{ master := m, tc := tc, cost := cost, born := s.now, ing := ing, item := item }] }
  if (s.point pt).dealt && !(s.point pt).waiting.isEmpty then t else t.deal pt

/-- Traffic of a master that enters CORE at the intake, with the ingress blocks it frees (R248, R251, R314, R321): none while the gates are closed or traffic is frozen, when nothing is regulated. (DESIGN CHOICE: assumption 25) -/
def State.charge (s : State) (m : Nat) (given : Option Nat) (blocks : Nat) (ing : Nat := 0) : State :=
  if blocks = 0 ∨ s.gates = false ∨ s.frozen = true then s
  else
    let (c, t) := s.classify m given
    t.present 0 m c blocks .core ing

/-! Priority and eligibility. -/

/-- URG[k] is taken as active (R256). -/
def State.urgent (s : State) (k : Nat) : Bool :=
  decide (k < 24) && (s.hpAt k).urg && s.urgIn k && !s.frozen

/-- The class ramp of a request (R255); targets are in units of 4 ns. -/
def State.ramp (s : State) (q : QReq) : Nat :=
  let tgt := s.get (Reg.QOS_TGT_TARGET q.tc)
  if tgt = 0 then 0 else min 15 (16 * (s.now - q.born) / (4 * tgt))

/-- The effective priority of a request (R255). -/
def State.prio (s : State) (q : QReq) : Nat :=
  let static := if q.master = 28 then s.get Reg.QOS_CFG_RELAY_PRIO else s.get (Reg.QOS_MST_PRIO q.master)
  let urg := if s.urgent q.master && s.bit (Reg.QOS_MST_URG_EN q.master) then s.get (Reg.QOS_MST_URG_PRIO q.master) else 0
  max (max static urg) (s.ramp q)

/-- The head whose key is least, the earlier one among equals. -/
def leastBy {α : Type} (key : α → Nat) : List α → Option α
  | [] => none
  | a :: l => match leastBy key l with
    | none => some a
    | some b => if key a ≤ key b then some a else some b

/-- How far a requester stands behind the one served last, for round-robin (R257). -/
def rrRank (last k : Nat) : Nat := (k + 28 - last) % 29

/-- Where a pick draws its tokens (R257). -/
inductive Draw where
  | tc0 | owed | shared
  deriving DecidableEq, Repr

/-- Takes up to `n` tokens from a list of buckets, in order, where a test allows it. -/
def takeFrom (ok : Nat → Bool) : Nat → Nat → List Nat → List Nat
  | _, _, [] => []
  | i, n, b :: bs => if ok i then (b - n) :: takeFrom ok (i + 1) (n - b) bs else b :: takeFrom ok (i + 1) n bs

/-- The tokens a pick draws, and the point with them drawn (R254, R257). -/
def QosPoint.draw (p : QosPoint) (q : QReq) (d : Draw) : Nat × QosPoint :=
  let need := q.cost - q.got
  match d with
  | .tc0 =>
    let a := min need p.rsv
    let b := min (need - a) p.pool
    (a + b, { p with rsv := p.rsv - a, pool := p.pool - b })
  | .owed =>
    let a := min need (p.buckets.getD q.master 0)
    (a, { p with buckets := setAt p.buckets q.master (p.buckets.getD q.master 0 - a) })
  | .shared =>
    let a := min need p.pool
    let b := min (need - a) p.lendable
    (a + b, { p with pool := p.pool - a, buckets := takeFrom (fun k => !p.waits k) 0 b p.buckets })

/-- The first request equal to `q`, changed or taken out. -/
def changeFirst (q : QReq) (f : QReq → Option QReq) : List QReq → List QReq
  | [] => []
  | a :: l => if a = q then (match f a with | some b => b :: l | none => l) else a :: changeFirst q f l

/-- TC0 requests that find no token wait for a new round, which is counted once for each (R264). -/
def State.tc0Over (s : State) (pt : Nat) : State :=
  let p := s.point pt
  let late := fun (q : QReq) => q.tc == 0 && !q.overdue && p.rsv + p.pool == 0
  match (p.waiting.filter late).length with
  | 0 => s
  | n => ((s.bump Reg.QOS_CNT_TC0_OVER n).raiseEvt 8 2).onPoint pt fun p =>
      { p with waiting := p.waiting.map fun q => if late q then { q with overdue := true } else q }

/-- TARGET_MISS (R259, R260): the age of a head request of a class with a target has reached it, in units of 4 ns; each request is judged once. -/
def execTargetMiss (pt : PointId) (master tc : Nat) (s : State) : Result :=
  let tgt := s.get (Reg.QOS_TGT_TARGET tc)
  match (s.point pt).heads.find? fun q => q.master == master && q.tc == tc with
  | some q =>
    if tgt = 0 ∨ q.judged = true ∨ 8 ≤ tc ∨ s.now - q.born < 4 * tgt then .next s
    else .next ((s.onPoint pt fun p => { p with waiting := changeFirst q (fun q => some { q with judged := true }) p.waiting }).miss 2 pt master tc q.cause tgt)
  | none => .next s

/-- TOKEN_STATE_UE (R262): the tokens held by granted blocks are recounted and the remainder is dealt as at the start of a round. -/
def execTokenStateUe (pt : PointId) (s : State) : Result :=
  let t := (s.deal pt).put Reg.QOS_TOK2_RECON (s.point pt).drawn |>.put Reg.QOS_TOK2_POINT pt |>.put Reg.QOS_TOK2_RECON_V 1
  .next ((t.raiseEvt 8 3).raiseErr 8 8 { master := 31, acc := 3, addr := pt })

end Sys2Proof.Machine
end

