-- ==== Sys2Proof/Machine/LoadOps.lean ====
section
/-! DEFINITION. Shared operations of a personality load: record bytes and checks, the start and the ends of a load, the chain (R110 to R135). -/

namespace Sys2Proof.Machine

/-- The frames of a partition (Table CFG-1). -/
def partFrames (p : Nat) : Nat := if p < 24 then 512 else if p = 24 then 2048 else 0

/-- The partition and index of a frame target (Table CFG-2). -/
def framePart (target : Nat) : Nat := target / 2048 % 32
def frameIdx (target : Nat) : Nat := target % 2048

/-- The encryption flag of a record. -/
def recEnc (r : Record) : Bool := r.flags % 2 == 1

/-- A record's 16-byte header (Table CFG-2). -/
def recHeader (r : Record) : List Nat :=
  natBe 2 r.magic ++ natBe 1 r.rtype ++ natBe 1 r.flags ++ natBe 4 r.bodyLen ++ natBe 4 r.frame ++ natBe 4 r.target

/-- The bytes of a record in its stream (R112). -/
def recordBytes (r : Record) : List Byte := toBytes (recHeader r) ++ r.body ++ r.tag ++ toBytes (natBe 4 r.crc.toNat)
def recSize (r : Record) : Nat := 20 + r.body.length + r.tag.length

/-- The big-endian field of `n` bytes at byte `i` of a body. -/
def bodyNat (r : Record) (i n : Nat) : Nat := beNat (toVals ((r.body.drop i).take n))

/-- BODY_LEN of a type (Table CFG-3); none for an unknown type. -/
def typeLen : Nat → Option Nat
  | 1 => some 64 | 2 => some 32 | 3 => some 4096 | 5 => some 12 | 6 => some 32 | 7 => some 0
  | _ => none

/-- A record of this type may stand here (Table CFG-3, R124). -/
def inPlace (l : LoadRun) (ty : Nat) : Bool :=
  match l.hdr with
  | none => ty == 7 || (ty == 5 && !l.segSeen) || (ty == 1 && (l.segSeen || l.src != .chain))
  | some _ => ty == 7 || ty == 2 || ty == 3 || ty == 6

/-- FLAGS obeys its rule (R114). -/
def flagsOk (l : LoadRun) (r : Record) : Bool :=
  r.flags / 2 == 0 &&
  (if r.rtype = 1 ∨ r.rtype = 5 ∨ r.rtype = 7 then !recEnc r
   else if r.rtype = 2 then recEnc r
   else recEnc r || !(l.hdr.map (·.enc)).getD false)

/-- FRAME follows on, and RELEASE alone stands at RECORDS − 1 (R114). (DEDUCED: assumption 31) -/
def seqOk (l : LoadRun) (r : Record) : Bool :=
  if r.rtype = 5 ∨ r.rtype = 7 then r.frame == 0xFFFFFFFF
  else r.frame == l.nextFrame &&
    match l.hdr with
    | none => true
    | some h => if r.rtype = 6 then r.frame + 1 == h.records else decide (r.frame + 1 < h.records)

/-- TARGET lies in a partition of PMASK, and within it (R114). (DEDUCED: assumption 31) -/
def targetOk (l : LoadRun) (r : Record) : Bool :=
  r.rtype != 3 ||
    (r.target / 65536 == 0 && bitOf ((l.hdr.map (·.pmask)).getD 0) (framePart r.target) && decide (frameIdx r.target < partFrames (framePart r.target)))

/-- The checks 1 to 4 of R114 on a record that stands where type `ty` does: 0, or the code of Table CFG-7. (DEDUCED: assumption 31) -/
def recCheck (l : LoadRun) (ty : Nat) (r : Record) : Nat :=
  if r.ue && l.src == .loft then 0x15
  else if crc32c (recHeader r ++ toVals r.body ++ toVals r.tag) ≠ r.crc.toNat then 0x02
  else if r.magic ≠ 0xC5A9 then 0x01
  else if r.rtype ≠ ty ∨ inPlace l ty = false then 0x04
  else if typeLen ty ≠ some r.bodyLen then 0x05
  else if !flagsOk l r then 0x04
  else if !seqOk l r then 0x03
  else if !targetOk l r then 0x10
  else 0

/-! Keys. -/

/-- The base key that KEY_SRC selects (R118). -/
def State.baseKey (s : State) : Option (List Byte) :=
  if s.bit Reg.CFG_POL_KEY_SRC then (if s.bit Reg.CFG_BKEY_CTL_PRESENT then s.mgmt.engineBat else none)
  else if s.mgmt.engineFuse then Config.fuseKey else none

/-- REQ_ENC as it reads: forced by the ENC_ONLY fuse (R120). -/
def State.reqEnc (s : State) : Bool := s.bit Reg.CFG_POL_REQ_ENC || (Config.encOnly && s.mgmt.fuseRead)

/-- A record's plaintext under a key, where its tag verifies (R115). -/
def recOpen (l : LoadRun) (r : Record) (key : List Byte) (last : Nat) : Option (List Byte) :=
  (gcmOpen (toVals key) (toVals ((l.hdr.map (·.salt)).getD []) ++ natBe 4 r.frame ++ natBe 4 last) (recHeader r) (toVals r.body) (toVals r.tag)).map toBytes

/-- The 64 MiB that one frame key may encrypt (R116). -/
def keyLimit : Nat := 64 * 1048576

/-- The plaintext of a CFG_FRAME or RELEASE, or the code of the failing check (R114, R116). -/
def recPlain (l : LoadRun) (r : Record) : Except Nat (List Byte) :=
  if !recEnc r then .ok r.body
  else match l.frameKey with
    | none => .error 0x0D
    | some k =>
      if keyLimit < l.keyBytes + r.body.length then .error 0x0E
      else match recOpen l r k 0 with
        | none => .error 0x0F
        | some b => .ok b

/-! The load. -/

def State.onLoad (s : State) (f : LoadRun → LoadRun) : State := s.onMgmt fun m => { m with load := m.load.map f }

/-- A source's code in CFG_LOAD.SRC. -/
def srcCode : LoadSrc → Nat
  | .loft => 0 | .chain => 1 | .hatch => 2

/-- A load begins (R121): the source is opened, and forwarding of an earlier stream is over. (DESIGN CHOICE: assumption 32) -/
def State.loadBegin (s : State) (src : LoadSrc) (slot hpMask : Nat) (atS10 alt : Bool) : State :=
  let e := tget ({} : LoftEntry) s.nv.loft (2 + slot)
  let t := s.onMgmt fun m =>
    { m with load := some { src := src, slot := slot, hpMask := hpMask, atS10 := atS10, altTried := alt, len := e.len, gen := e.gen }, hatchFifo := [], chain := {} }
  (((((t.put Reg.CFG_LOAD_BUSY 1).put Reg.CFG_LOAD_SRC (srcCode src)).put Reg.CFG_LOAD_SLOT (if src = .loft then slot else 0)).put
    Reg.CFG_CHAIN_FWD_BUSY 0).put Reg.CFG_CHAIN_SEGS_FWD 0).put Reg.CFG_CHAIN_POS 0

/-- A Loft slot holds a committed personality (R122, R295). -/
def State.slotFull (s : State) (slot : Nat) : Bool := (tget {} s.nv.loft (2 + slot)).committed

/-- A slot of which fewer bytes are left than any record has is at its end. -/
def LoadRun.atEnd (l : LoadRun) : Bool := l.src == .loft && decide (l.len < l.pos + 20)

/-- A load begins; one of an empty slot ends with EMPTY_SLOT, one of a slot too short for a record with TRUNCATED (R122, Table CFG-7). -/
def State.loadOpen (s : State) (src : LoadSrc) (slot hpMask : Nat) (atS10 alt : Bool) : State :=
  let t := s.loadBegin src slot hpMask atS10 alt
  if src = .loft ∧ t.slotFull slot = false then t.loadStop 0x19 none
  else if t.mgmt.load.any (·.atEnd) then t.loadStop 0x12 none else t

/-- A load ends without release, and S10 falls back once to the alternate slot, unless it was aborted (R122, R131). (DEDUCED: assumption 31) -/
def State.loadFail (s : State) (code : Nat) (rec : Option (Nat × Nat) := none) : State :=
  match s.mgmt.load with
  | none => s
  | some l =>
    let t := s.loadStop code rec
    if l.atS10 && !l.altTried && l.src == .loft && code != 0x16 && t.bit Reg.CFG_BOOT_ALT_EN then
      t.loadOpen .loft (t.get Reg.CFG_BOOT_ALT_SLOT) 0xFFFFFF true true
    else t

/-- S10 (R121, R122): the load that BOOT_SRC names, over all 25 partitions. -/
def State.s10 (s : State) : State :=
  match s.get Reg.KEEP_STRAP_BOOT_SRC with
  | 0 =>
    let slot := s.get Reg.CFG_BOOT_SLOT
    let t := s.loadBegin .loft slot 0xFFFFFF true false
    if t.slotFull slot = false then t.loadFail 0x19 else if t.mgmt.load.any (·.atEnd) then t.loadFail 0x12 else t
  | 1 => s.loadBegin .chain 0 0xFFFFFF true false
  | 2 => s.loadBegin .hatch 0 0xFFFFFF true false
  | _ => s

/-! The checks of STREAM_HDR. -/

/-- A load of FAB_N changes CLK_FAB.N. -/
def State.fabChange (s : State) (h : LoadHdr) : Bool := h.fabN != s.get Reg.CLK_FAB_N

/-- The affected partitions (R111). (DESIGN CHOICE: assumption 33) -/
def State.affected (s : State) (h : LoadHdr) : Nat := if bitOf h.pmask 24 || s.fabChange h then 0x1FFFFFF else h.pmask

/-- The header a STREAM_HDR body spells. -/
def hdrOf (r : Record) : LoadHdr :=
  { fabN := bodyNat r 5 1, wide := bodyNat r 6 2, pmask := bodyNat r 8 4, persId := bodyNat r 12 4, salt := (r.body.drop 16).take 4,
    records := bodyNat r 20 4, enc := bodyNat r 24 1 == 1, digest := toBytes (recHeader r) ++ r.body }

/-- The STREAM_HDR checks in the order of R403: 0, or the first code. (DEDUCED: assumption 31) -/
def State.hdrCheck (s : State) (l : LoadRun) (r : Record) : Nat :=
  let h := hdrOf r
  if bodyNat r 0 2 ≠ 1 then 0x07
  else if bodyNat r 2 2 ≠ 0x0512 then 0x06
  else if 0xB0 < bodyNat r 4 1 then 0x06
  else if h.fabN < 4 ∨ 40 < h.fabN then 0x07
  else if 4096 ≤ h.wide then 0x07
  else if 2 ^ 25 ≤ h.pmask then 0x07
  else if h.records < 2 then 0x07
  else if 1 < bodyNat r 24 1 then 0x07
  else if (r.body.drop 25).any (· != 0) then 0x07
  else if (List.range 12).any fun k => bitOf h.wide k && !(bitOf h.pmask (2 * k) && bitOf h.pmask (2 * k + 1)) then 0x08
  else if !h.enc && s.reqEnc then 0x0A
  else if h.pmask % 2 ^ 24 &&& (0xFFFFFF - l.hpMask % 2 ^ 24) ≠ 0 then 0x08
  else if (bitOf h.pmask 24 || s.fabChange h) && l.hpMask != 0xFFFFFF then 0x08
  else if s.fabChange h && s.bit (Reg.LOCK 1) then 0x09
  else 0

/-- The entries of a frame table outside a set of partitions. -/
def framesOutside {α : Type} (pmask : Nat) (t : Table α) : Table α := t.filter fun e => !bitOf pmask (framePart e.1)

/-- The FAB PLL relocks; the fabric is held until it locks (R73). -/
def State.fabRelock (s : State) : State :=
  if s.keep.domainsOn then
    s.forAll (List.range 24) (fun n t => t.cond (!t.held n) (·.hpHold n)) |>.onMgmt (fun m => { m with fabHold := true })
      |>.put Reg.CLK_STAT_LOCK (clrBitOf (s.get Reg.CLK_STAT_LOCK) 4)
  else s

/-- Modules leave their hold, those that nothing else holds (R129). -/
def State.releaseMods (s : State) (ns : List Nat) : State := s.forAll (ns.filter fun n => !s.held n) fun n t => t.hpRelease n

/-! The chain. -/

/-- The words of a FIFO as stream bytes, the earliest in bits [31:24] (R123). -/
def wordBytes (ws : List Word) : List Byte := (ws.map fun w => toBytes (natBe 4 w.toNat)).flatten

/-- Words of the Hatch's FIFO that a record takes (R123). -/
def State.fifoTake (s : State) (r : Record) : State := s.onMgmt fun m => { m with hatchFifo := m.hatchFifo.drop ((recSize r + 3) / 4) }

/-- The Hatch's FIFO holds this record (Table CFG-5). -/
def State.fifoGives (s : State) (r : Record) : Bool := (wordBytes (s.mgmt.hatchFifo.take ((recSize r + 3) / 4))).take (recSize r) == recordBytes r

/-- A Loft object holds this record at a byte, as far as the object reaches. -/
def State.loftGives (s : State) (obj pos len : Nat) (r : Record) : Bool :=
  let n := min (recSize r) (len - pos)
  s.nv.read (loftAddr obj + pos) n == (recordBytes r).take n

/-- The rest of a stream gives this record: the Hatch's FIFO, the head's Loft slot, or what arrives on CFG_DI (R125). -/
def State.chainGives (s : State) (r : Record) : Bool :=
  if s.mgmt.chain.hatch then s.fifoGives r
  else match s.mgmt.chain.loft with
    | some (obj, pos, len) => decide (pos + recSize r ≤ len) && s.loftGives obj pos len r
    | none => true

/-- A record after this chiplet's own segment is forwarded on CFG_DO (R125); END ends the forwarding, which the head reports. (DESIGN CHOICE: assumption 32) -/
def State.cfgForward (s : State) (r : Record) : State :=
  if s.bit Reg.CFG_CHAIN_FWD_BUSY && s.chainGives r then
    let t := ((s.emit (.cfgRecord r)).cond s.mgmt.chain.hatch (·.fifoTake r)).onMgmt fun m =>
      { m with chain := { m.chain with loft := m.chain.loft.map fun x => (x.1, x.2.1 + recSize r, x.2.2) } }
    if r.rtype = 7 then
      ((t.onMgmt fun m => { m with chain := {} }).put Reg.CFG_CHAIN_FWD_BUSY 0).cond (t.bit Reg.KEEP_STRAP_CHAIN_FIRST) (·.raiseEvt 5 3)
    else t.cond (r.rtype == 5) (·.bump Reg.CFG_CHAIN_SEGS_FWD)
  else s

/-- The source of a load gives this record next (Table CFG-5): the slot's bytes, unless the page reads uncorrectable, while the Cellar has its clock (R71); the words pushed through the Hatch; or what arrives on CFG_DI after the start marker. (DESIGN CHOICE: assumption 32) -/
def State.sourceGives (s : State) (l : LoadRun) (r : Record) : Bool :=
  match l.src with
  | .loft => s.cellClocked && (r.ue || s.loftGives (2 + l.slot) l.pos l.len r)
  | .chain => l.started
  | .hatch => s.fifoGives r

/-- A record of type `ty` meets the running load: the source gives it, a Loft read being charged to M27 (R314); it is taken by `f` where checks 1 to 4 pass, and ends the load where one fails, or with TRUNCATED where the slot ends within it or right after it; with no load it is forwarded. -/
def State.onRecord (s : State) (ty : Nat) (r : Record) (f : LoadRun → State → State) : State :=
  match s.mgmt.load with
  | none => s.cfgForward r
  | some l0 =>
    if s.sourceGives l0 r = false then s
    else
      let l := { l0 with pos := l0.pos + recSize r }
      let t := ((s.cond (l.src == .hatch) (·.fifoTake r)).cond (l.src == .loft) (·.charge 27 none (blocksOf (recSize r)))).onMgmt fun m => { m with load := some l }
      let c := recCheck l ty r
      if c = 0x15 then (t.cellUe (pageOf (loftAddr (2 + l.slot) + l0.pos))).loadFail c (some (r.frame, r.target))
      else if l.src = .loft ∧ l.len < l.pos then t.loadFail 0x12
      else if c ≠ 0 then t.loadFail c (some (r.frame, r.target))
      else
        let u := f l t
        u.cond (u.mgmt.load.any fun m => m.atEnd && m.pos == l.pos) (·.loadFail 0x12)

end Sys2Proof.Machine
end

