-- ==== Sys2Proof/Machine/Rings.lean ====
section
/-! DEFINITION. The rings of the optical ports: searches, locks, lost light, flaps and storms (R175 to R186, R192, R193). -/

namespace Sys2Proof.Machine

/-- Every LAM page's locked lines as bits 0 to 35 of a bank. -/
def State.lockBits (s : State) (n : Nat) (rx : Bool) : Nat :=
  (List.range 36).foldl (fun v k => v + (if (s.ringAt n rx k).lock then 2 ^ k else 0)) 0

/-- Every line of a port that can lock has locked (EVT.ALL_LOCKED). -/
def State.allLocked (s : State) (n : Nat) : Bool :=
  (List.range 36).all fun k => [false, true].all fun rx =>
    let r := s.ringAt n rx k
    r.lock || r.bad || r.absent || r.parked

/-- A ring stays within 1 GHz of its set point for 10 µs (R182): locked at a code, holding nothing. -/
def State.ringLock (s : State) (n : Nat) (rx : Bool) (k code : Nat) : State :=
  let t := s.onRing n rx k fun r => { r with lock := true, code := code % 65536, frozen := false, low := false }
  if (s.ringAt n rx k).lock || (s.ringAt n rx k).parked then (if (s.ringAt n rx k).parked then s else t)
  else t.cond (t.allLocked n) (·.raiseEvt (64 + n) 0)

/-- A ring unlocks (R182): the event, and the line's lane needs a spare. -/
def State.ringUnlock (s : State) (n : Nat) (rx : Bool) (k : Nat) : State :=
  let t := (s.onRing n rx k fun r => { r with lock := false, frozen := false }).raiseEvt (64 + n) 1
  if rx then t.askSwap n k 3 else t.txLineLost n k true

/-! The loops. -/

/-- Table LAM-2: the multiplier of KI by temperature band, in eighths. -/
def kiEighths : Nat → Nat
  | 0 => 10 | 1 => 8 | 2 => 7 | 3 => 6 | _ => 5

/-- What a ring's loop runs with (R181): its dither tone in hertz, the tone's peak in codes, the integrator gain in eighths, and the sixteenths of the peak current at which it locks, where a receive ring locks to its peak. -/
structure LoopSetting where
  tone  : Nat
  dith  : Nat
  gain8 : Nat
  setPt : Nat
  deriving DecidableEq, Repr

/-- The setting of the loop of slot `j` of a bank: the band is that of the sensor nearest the bank, and a change of it acts at once (R181, Table LAM-2). -/
def State.loopSetting (s : State) (n : Nat) (rx : Bool) (j : Nat) : LoopSetting :=
  { tone := 8000000 + 125000 * j, dith := s.get (Reg.LAM_LOOP_DITH n),
    gain8 := s.get (Reg.LAM_LOOP_KI n) * kiEighths (s.bandMax (portSensors n)), setPt := if rx then 16 else s.get (Reg.LAM_LOOP_TX_SET n) }

/-- RING_LOCKED (R182): the loops run while TUNE is clocked. A spare that locks may serve a stopped transmitter (R190). -/
def execRingLocked (r : RingId) (code : Nat) (s : State) : Result :=
  .next (s.cond s.tuneRuns fun t => (t.ringLock r.port r.rx r.idx code).spareFreed r.port)

/-- RING_UNLOCKED (R182): a ring that was locked has stayed beyond 4 GHz for 50 µs. -/
def execRingUnlocked (r : RingId) (s : State) : Result :=
  .next (s.cond (s.tuneRuns && (s.ringAt r.port r.rx r.idx).lock) (·.ringUnlock r.port r.rx r.idx))

/-- HTR_RAIL (R182): the heater code reaches a rail; the ring unlocks and stays parked there. -/
def execHtrRail (r : RingId) (high : Bool) (s : State) : Result :=
  .next (s.cond s.tuneRuns fun u =>
    let t := u.onRing r.port r.rx r.idx fun g => { g with parked := true, code := if high then 65535 else 0 }
    (t.ringUnlock r.port r.rx r.idx).raiseEvt (64 + r.port) 9)

/-- A filtered rising edge of a line detector (R192): a flap; the 16th of a window marks the line BAD and its lane moves. -/
def State.flap (s : State) (n : Nat) (rx : Bool) (k : Nat) : State :=
  let c := min ((s.ringAt n rx k).flaps + 1) 16
  let t := s.onRing n rx k fun r => { r with flaps := c }
  if c = 16 ∧ (s.ringAt n rx k).flaps < 16 then (t.raiseEvt (64 + n) 5).markBad n rx k (some 2) false else t

/-- RING_LIGHT_LOW (R182, R190, Table LAM-4): the monitor current of a locked ring falls below one eighth: the loop holds the heater. A transmit lane moves to a spare; with none free it needs one (NO_SPARE), and it stays on its line, whose ring is locked still. (DESIGN CHOICE: assumption 30) -/
def execRingLightLow (r : RingId) (s : State) : Result :=
  let g := s.ringAt r.port r.rx r.idx
  if !s.tuneRuns || !g.lock || g.low || g.masked then .next s
  else
    let t := (s.onRing r.port r.rx r.idx fun g => { g with low := true, frozen := true }).flap r.port r.rx r.idx
    .next (t.cond (!r.rx && !(t.ringAt r.port r.rx r.idx).bad) (·.txLineLost r.port r.idx false))

/-- Lines of a port's lanes whose receive signal is lost. -/
def State.lostLanes (s : State) (n : Nat) : Nat :=
  ((List.range (s.laneCount n)).filter fun l => (s.ringAt n true (laneLine (s.opAt n).remapRx l)).los).length

/-- The link-loss timer (R213): it starts when the receive port loses light, and when a trained port has lost more lanes than Near FEC covers, which is one; it stops when both conditions clear. (DEDUCED: assumption 29) -/
def State.lossCheck (s : State) (n : Nat) : State :=
  let on := (s.opAt n).rxLow || decide (1 < s.lostLanes n)
  s.cond ((s.opAt n).lossTimer != (on && s.trained n)) fun t => t.onOp n fun o => { o with lossTimer := on && s.trained n }

/-- RING_LIGHT_RETURN (R182): the loop resumes. -/
def execRingLightReturn (r : RingId) (s : State) : Result :=
  .next (((s.onRing r.port r.rx r.idx fun g => { g with low := false, frozen := false, los := false }).spareFreed r.port).lossCheck r.port)

/-- RING_RELOCK_SCAN (R182): the scan around the frozen code finds the ring's light again and locks it, or leaves the ring unusable and its line BAD; a transmit line is then lost. -/
def execRingRelockScan (r : RingId) (found : Option Nat) (s : State) : Result :=
  .next (s.cond s.tuneRuns fun t =>
    match found with
    | some code => (t.ringLock r.port r.rx r.idx code).spareFreed r.port
    | none => (t.onRing r.port r.rx r.idx fun g => { g with lock := false, frozen := false }).markBad r.port r.rx r.idx (some 3) true)

/-- The gain that a correction gives: a sum outside signed Q8.8 is a free value. (DESIGN CHOICE: assumption 27) -/
def State.gainSum (s : State) (g : Int) : Nat × State :=
  if -32768 ≤ g ∧ g ≤ 32767 then (to16 g, s) else (s.takeFree.1.toNat % 65536, s.takeFree.2)

/-- FF_GAIN_ADAPT (R183): after a change of 8 W or more the gain moves by one eighth of the residual. -/
def execFfGainAdapt (n : OpId) (residual : Int) (s : State) : Result :=
  .next (s.cond (s.bit (Reg.LAM_CTL_FF_EN n) && s.bit (Reg.LAM_CTL_FF_ADAPT n)) fun t =>
    let (d, u) := t.quot residual 8
    let (g, u) := u.gainSum (signed16 (u.get (Reg.LAM_FF_GAIN n)) + d)
    u.put (Reg.LAM_FF_GAIN n) g)

/-- RX_LOSS_OF_SIGNAL (R187, R192, R213): the drop photodetector of a receive line asserts: its ring holds, the edge counts as a flap, and SWAP_ASK with cause 1 is sent for its lane. -/
def execRxLossOfSignal (n : OpId) (line : Nat) (s : State) : Result :=
  if 36 ≤ line ∨ (s.ringAt n true line).masked ∨ (s.ringAt n true line).los then .next s
  else
    let t := (s.onRing n true line fun g => { g with los := true, low := true, frozen := true }).flap n true line
    .next ((t.cond (!(t.ringAt n true line).bad) (·.askSwap n line 1)).lossCheck n)

/-- RX_PORT_LOSS_OF_LIGHT (R192, R213): every receive line is low: every ring holds and the link-loss timer starts. -/
def execRxPortLossOfLight (n : OpId) (s : State) : Result :=
  let t := s.forAll (List.range 36) fun k u => u.onRing n true k fun g => { g with low := true, frozen := g.lock }
  .next ((t.onOp n fun o => { o with rxLow := true }).lossCheck n)

/-- RX_LIGHT_RETURN (R213): light and CDR lock return on every line and the link-loss timer stops. -/
def execRxLightReturn (n : OpId) (s : State) : Result :=
  let t := s.forAll (List.range 36) fun k u => u.onRing n true k fun g => { g with low := false, frozen := false, los := false }
  .next ((t.onOp n fun o => { o with rxLow := false }).lossCheck n)

/-- LINE_FLAP (R192): a line's detector reaches its 16th flap in the window; the line is BAD and its lane moves. -/
def execLineFlap (r : RingId) (s : State) : Result :=
  let t := s.onRing r.port r.rx r.idx fun g => { g with flaps := 16 }
  .next (if (s.ringAt r.port r.rx r.idx).masked then s
    else (t.raiseEvt (64 + r.port) 5).markBad r.port r.rx r.idx (some 2) false)

/-- FLAP_WINDOW (R192): every flap count restarts, at the TUNE millisecond tick. -/
def execFlapWindow (s : State) : Result :=
  .next (s.cond s.tuneRuns fun t => { t with rings := tmap {} (fun _ g => { g with flaps := 0 }) t.rings })

/-- HTR_FAULT (R358): a heater is found open or shorted; ERR [8] of the LAM page, with line × 64 + port as the unit (Table FAULT-2). -/
def execHtrFault (r : RingId) (s : State) : Result :=
  .next (s.raiseErr (64 + r.port) 8 { addr := r.idx * 64 + r.port })

/-- BAD_CLEAR (R192, R193): a write of 1 to LAM_LINE.BAD clears the mark of the selected line and unmasks its detector; a stopped transmitter may start again (R190). -/
def State.badClear (s : State) (n : Nat) : State :=
  (s.onRing n (s.bit (Reg.LAM_SEL_DIR n)) (s.get (Reg.LAM_SEL_LINE n)) fun g => { g with bad := false, masked := false }).unexhaust n

/-! Searches. -/

/-- A number put into a rising list. -/
def insertNat (x : Nat) : List Nat → List Nat
  | [] => [x]
  | y :: l => if x ≤ y then x :: y :: l else y :: insertNat x l

/-- A list of numbers in rising order. -/
def sortNat : List Nat → List Nat
  | [] => []
  | x :: l => insertNat x (sortNat l)

/-- The differences of neighbours in a rising list. -/
def diffs : List Nat → List Nat
  | a :: b :: l => (b - a) :: diffs (b :: l)
  | _ => []

/-- The median, the lower of the two middle values of an even count. (DESIGN CHOICE: assumption 30) -/
def median (l : List Nat) : Nat := (sortNat l).getD ((l.length - 1) / 2) 0

/-- The lowest code in [lo, hi] that is congruent to `c` modulo `step`, where one exists (R177). -/
def lowestCand (c step lo hi : Int) : Option Nat :=
  if step ≤ 0 then none
  else
    let x := lo + (c - lo) % step
    if x ≤ hi then some x.toNat else none

/-- The naming of a swept ring's lines (R177): the pitch and each line's code, none for an ABSENT line; none where the sweep fails. -/
def nameLines (peaks : List Peak) (lo hi : Nat) : Option (Nat × List (Option Nat)) :=
  let cs := sortNat (peaks.map (·.code))
  let pitch := median (diffs cs)
  match sortNat ((peaks.filter (·.pilot)).map (·.code)) with
  | [] => none
  | p0 :: _ =>
    if peaks.length < 50 ∨ pitch = 0 then none
    else
      some (pitch, (List.range 36).map fun (k : Nat) =>
        match lowestCand ((p0 : Int) - (k * pitch : Nat)) ((37 * pitch : Nat) : Int) lo hi with
        | none => none
        | some c => cs.find? fun x => decide (4 * (max x c - min x c) ≤ pitch))

/-- The key of a bank's slot. -/
def slotKey (port : Nat) (rx : Bool) (slot : Nat) : Nat := ringKey port rx slot

/-- The code slot `j` has for line `k`, where its sweep named it (R178). -/
def State.sweptCode (s : State) (port : Nat) (rx : Bool) (j k : Nat) : Option Nat :=
  match tget none s.mgmt.swept (slotKey port rx j) with
  | some (_, cs) => (cs.getD k none)
  | none => none

/-- How a rotation scores: slots served, and the sum of their codes (R178). -/
def State.rotScore (s : State) (port : Nat) (rx : Bool) (rot : Nat) : Nat × Nat :=
  (List.range 36).foldl (fun (a : Nat × Nat) j =>
    match s.sweptCode port rx j ((j + rot) % 36) with
    | some c => (a.1 + 1, a.2 + c)
    | none => a) (0, 0)

/-- The rotation that serves the most lines, then has the smallest sum of codes, then is lowest (R178). -/
def State.bestRot (s : State) (port : Nat) (rx : Bool) : Nat :=
  ((List.range 36).foldl (fun (b : Option (Nat × Nat × Nat)) r =>
    let (n, c) := s.rotScore port rx r
    match b with
    | none => some (r, n, c)
    | some (r0, n0, c0) => if n0 < n ∨ (n = n0 ∧ c < c0) then some (r, n, c) else some (r0, n0, c0)) none).elim 0 (·.1)

/-- Assigns a swept bank's rings to lines (R178): codes, slots and marks; BAD and ABSENT marks of an earlier search go. -/
def State.assignBank (s : State) (port : Nat) (rx : Bool) : State :=
  let rot := s.bestRot port rx
  let t := s.put (if rx then Reg.LAM_STAT_RX_ROT port else Reg.LAM_STAT_TX_ROT port) rot
  t.forAll (List.range 36) fun j u =>
    let k := (j + rot) % 36
    let fresh : Ring := { slot := j + 1, coeff := Config.ringCoeff (slotKey port rx j) }
    match tget none u.mgmt.swept (slotKey port rx j) with
    | none => u.onRing port rx k fun g => { fresh with bad := true, masked := g.masked }
    | some (p, cs) =>
      u.onRing port rx k fun g =>
        { fresh with code := (cs.getD k none).getD 0, absent := (cs.getD k none).isNone, pitch := p, masked := g.masked }

/-- The comb module whose light a quad has. -/
def State.quadComb (s : State) (q : Nat) : Nat := if s.onCombs q then 4 else q

/-- MARK: the pilot goes onto line 0, or off (R176, Table COMB-2). -/
def ecsMark (on : Bool) : EcsTxn := ⟨true, 4, if on then 0x8000 else 0, false⟩

/-- MARK of the module that lights a quad, where it is enabled. -/
def State.markQuad (s : State) (q : Nat) (on : Bool) : State :=
  s.cond (s.ecsAt (s.quadComb q)).en (·.ecsQueue (s.quadComb q) (ecsMark on))

/-- Starts a search of ports of a quad (R176, R179): the pilot goes onto line 0, every ring of a searched port goes to code 0, unlocked, and its sweeps are queued in order. -/
def State.startSearch (s : State) (q : Nat) (ports : List Nat) (sweeps : Nat) : State :=
  let t := (s.markQuad q true).forAll ports fun p u =>
    (u.forAll (List.range 36) fun k v =>
      (v.onRing p false k fun g => { g with lock := false, code := 0, parked := false, frozen := false, low := false }).onRing p true k
        fun g => { g with lock := false, code := 0, parked := false, frozen := false, low := false }).put (Reg.LAM_STAT_SEARCHING p) 1
  t.onMgmt fun m => { m with
    sweep := tset [] m.sweep q (ports.flatMap fun p => (List.range 72).map fun i => (slotKey p (decide (36 ≤ i)) (i % 36), sweeps)) }

/-- The port and bank a slot key belongs to. -/
def keyPort (k : Nat) : Nat := k / 72
def keyRx (k : Nat) : Bool := k / 36 % 2 == 1

/-- The ports of a quad that the running search has swept. -/
def State.sweptPorts (s : State) (q : Nat) : List Nat :=
  (quadPorts q).filter fun p => s.bit (Reg.LAM_STAT_SEARCHING p)

/-- The ring a quad's sweep engine sweeps: its port, bank and slot (R179). -/
def State.sweeping (s : State) (q : Nat) : Option Nat := (tget [] s.mgmt.sweep q).head?.map (·.1)

/-- A port's receive input shutter is closed and its loopback ring engaged: while a ring of its receive bank is swept (R176), and in the near-end serial loop-back (Table LINK-8). -/
def State.rxShutter (s : State) (n : Nat) : Bool :=
  (match s.sweeping (n / 4) with | some k => keyPort k == n && keyRx k | none => false) ||
    (s.get (Reg.OP_STAT_PSTATE n) == 5 && s.get (Reg.OP_LB_MODE n) == 1)

/-- The heater code a ring of a bank under search has while another is swept: 0 (R176). -/
def State.sweepCode (s : State) (n : Nat) (rx : Bool) (line : Nat) : Nat :=
  if s.bit (Reg.LAM_STAT_SEARCHING n) then 0 else (s.ringAt n rx line).code

/-- A ring swept alone in a warm S12 (R185): it takes the code its sweep gives for its own line; a line not seen is ABSENT, and a line whose ring's sweeps all failed is BAD. (DESIGN CHOICE: assumption 35) -/
def State.loneEnd (s : State) (k : Nat) (named : Option (Nat × List (Option Nat))) : State :=
  let p := keyPort k
  let rx := keyRx k
  let line := (k % 36 + s.get (if rx then Reg.LAM_STAT_RX_ROT p else Reg.LAM_STAT_TX_ROT p)) % 36
  s.onRing p rx line fun g =>
    match named with
    | none => { g with bad := true }
    | some (pitch, cs) => { g with code := (cs.getD line none).getD 0, absent := (cs.getD line none).isNone, pitch := pitch }

/-- RING_SWEEP_END (R177, R178, R179, R185): the sweep of the quad's next ring ends; a failed one is swept again while sweeps are left. A ring swept alone takes its code at once; after the last sweep of a search every searched bank is assigned and the pilot goes off. -/
def execRingSweepEnd (q : QuadId) (peaks : List Peak) (s : State) : Result :=
  match tget [] s.mgmt.sweep q with
  | [] => .next s
  | (k, left) :: rest =>
    if !s.tuneRuns then .next s
    else
      let p := keyPort k
      let named := nameLines peaks (s.get (Reg.LAM_WIN_LO p)) (s.get (Reg.LAM_WIN_HI p))
      let retry := named.isNone && decide (1 < left)
      let rest' := if retry then rest ++ [(k, left - 1)] else rest
      let t := s.onMgmt fun m => { m with sweep := tset [] m.sweep q rest', swept := tset none m.swept k named }
      let t := t.cond (!retry && !t.bit (Reg.LAM_STAT_SEARCHING p)) (·.loneEnd k named)
      .next (if rest'.isEmpty then
          (t.forAll (t.sweptPorts q) fun p u =>
            ((u.assignBank p false).assignBank p true).put (Reg.LAM_STAT_SEARCHING p) 0 |>.put (Reg.LAM_STAT_WARM p) 0).markQuad q false
        else t)

end Sys2Proof.Machine
end

