-- ==== Sys2Proof/Machine/Keeper.lean ====
section
/-! DEFINITION. The keeper's shared operations: isolation, requests, the steps of a climb and their undo, the power-down, thermal shutdown (R51 to R87, R352 to R355). -/

namespace Sys2Proof.Machine

/-! Isolation. -/

/-- A register that an isolation leaves as it is: pages KEEP and PWR, the latch stage on page FAULT and the shutdown record (R68, R355, R400). -/
def keptKey (key : Nat) : Bool :=
  let page := key / 32 / 4096 % 256
  let off := key / 32 % 4096
  page == 0 || page == 2 || (page == 4 && off == 0x60) ||
    (page == 3 && off ∈ [0x40, 0x44, 0x48, 0x4C, 0x54, 0x58, 0x60, 0x64, 0x68, 0x6C, 0x70, 0x74, 0x90, 0xA0])

/-- FTIME as CORE stops (R360). -/
def State.stopCore (s : State) : State := if s.coreClocked then s.onKeep fun k => { k with lastFtime := s.ftime, coreStop := s.now } else s

/-- No sequence runs. -/
def State.seqIdle (s : State) : State :=
  (((((s.put Reg.PWR_STAT_BUSY 0).put Reg.PWR_STAT_DIR 0).put Reg.PWR_STAT_STEP 0).put Reg.PWR_STAT_OFF_PEND 0).put Reg.PWR_STAT_WAIT_NODE_ID 0)

/-- Every domain except KEEP is isolated, and Isax is in KEEP (R53, R72, R87, R353). (DESIGN CHOICE: assumption 36) -/
def State.isolate (s : State) : State :=
  let t := s.stopCore
  let t := { t with
    regs := t.regs.filter fun e => keptKey e.1
    mgmt := {}, gates := false, hp := [], op := [], rings := [], strm := {}, routes := [], qos := [], te := {}, twin := {}
    hostPower := 0, ftime := 0, slew := 0
    keep := { t.keep with hold := none, undo := none, trapDown := false, railWatch := false, alive := false, hkArmed := false, hkFresh := false,
                          mgmtOn := false, domainsOn := false, dump := .idle, dumpSkip := [], trapStop := false, p3Done := false } }
  (t.seqIdle).put Reg.PWR_STAT_STATE 0

/-- Isolates the domains above MGMT (Table PWR-5 S6, Table PWR-6 P5); their registers stay in MGMT. (DESIGN CHOICE: assumption 51) -/
def State.domainsOff (s : State) : State :=
  let t := (s.stopCore.loadStop 0x16 none).unmount
  let t := { t with
    gates := false, hp := tset {} [] 0 { ({} : Hp) with sbUp := (t.hpAt 0).sbUp, x40 := (t.hpAt 0).x40 }, op := [], rings := [], strm := {}, qos := [], te := {}, twin := {},
    hostPower := 0, ftime := 0, slew := 0,
    keep := { t.keep with domainsOn := false } }
  let t := t.onMgmt fun m => { m with engineFuse := false, engineBat := none, cfgMem := [], cfgHeld := 0x1FFFFFF, goldOk := 0, loadedFrom := [], frameSrc := [], fabHold := false, ecs := [],
                                      sweep := [], swept := [], searchPorts := 0, chain := {}, hatchFifo := [], scrubNext := 0 }
  let t := ((((t.put Reg.CLK_STAT_LOCK (t.get Reg.CLK_STAT_LOCK % 2)).put Reg.CLK_LINE_LOCK 0).put Reg.CLK_HOST_LOCK 0).put Reg.CFG_LOADED_LOADED 0).put
    Reg.CFG_CHAIN_FWD_BUSY 0
  let t := ((((t.put Reg.TWIN_STAT_ROLE 0).put Reg.TWIN_STAT_STATE 0).put Reg.TWIN_STAT_PAIRED 0).put Reg.TWIN_STAT_PROTECTED 0).put Reg.TWIN_STAT_LINK_UP 0
  let t := ((t.put Reg.COMB_STAT_LIT 0).put Reg.COMB_STAT_SW_ACTIVE 0).put Reg.TEG_STAT_READY 0
  let t := t.forAll (List.range 24) fun n u => (((u.put (Reg.HP_STAT_STATE n) 0).put (Reg.HP_CR_ING_OCC n) 0).put (Reg.HP_CR_ING_GRANTED n) 0).hintGauge n
  t.forAll (List.range 16) fun n u => ((u.setPort n 0).put (Reg.OP_PEER_VALID n) 0).put (Reg.LAM_STAT_SEARCHING n) 0

/-! The ring map. -/

/-- The bytes of a ring map over which its SHA-256 is taken: every field in the order of the structure, eight bytes each. (DESIGN CHOICE: assumption 35) -/
def CalCopy.bytes (m : CalCopy) : List Nat :=
  let int8 := fun (v : Int) => natBe 8 (v % 2 ^ 64).toNat
  natBe 8 m.gen ++ natBe 8 m.format ++ natBe 8 m.serial ++ (m.tj.map int8).flatten ++
    (m.rots.map fun r => [r.1, r.2.1, b2n r.2.2]).flatten ++
    (m.rings.map fun e => natBe 2 e.1 ++ natBe 2 e.2.code ++ [e.2.slot, b2n e.2.bad + 2 * b2n e.2.absent] ++ natBe 8 e.2.pitch ++ int8 e.2.coeff).flatten

/-- The digest that closes a map (R184). -/
def CalCopy.sha (m : CalCopy) : List Byte := toBytes (sha256 m.bytes)

/-- The format of the maps this firmware writes. (DESIGN CHOICE: assumption 35) -/
def mapFormat : Nat := 1

/-- A map is valid: its digest matches, its format is current and it carries this chiplet's fuse serial number (R184). -/
def CalCopy.valid (m : CalCopy) : Bool := m.digest == m.sha && m.format == mapFormat && m.serial == Config.fuseSerial

/-- The newest valid ring map (R184, R296). -/
def Nv.map (v : Nv) : Option CalCopy :=
  match v.calA.filter CalCopy.valid, v.calB.filter CalCopy.valid with
  | some a, some b => if a.gen < b.gen then some b else some a
  | some a, none => some a
  | none, b => b

/-- The age the next map takes: one more than that of either copy. -/
def Nv.nextGen (v : Nv) : Nat := max ((v.calA.map (·.gen)).getD 0) ((v.calB.map (·.gen)).getD 0) + 1

/-- The ring map as the rings stand (R184). -/
def State.mapNow (s : State) : CalCopy :=
  let m : CalCopy :=
    { gen := s.nv.nextGen
      format := mapFormat
      serial := Config.fuseSerial
      tj := (List.range 32).map fun i => (s.sensor (32 + i)).tj
      rots := (List.range 16).map fun n => (s.get (Reg.LAM_STAT_TX_ROT n), s.get (Reg.LAM_STAT_RX_ROT n), s.brynn n)
      rings := (s.rings.map fun e => (e.1, { code := e.2.code, slot := e.2.slot, pitch := e.2.pitch, coeff := e.2.coeff, bad := e.2.bad, absent := e.2.absent : RingSaved })).filter
        fun e => e.2 != {}
      digest := [] }
  { m with digest := m.sha }

/-- Saves a ring map over the older copy, its commit record last (R86, R296, R311): 0, CELL_TEMP or CELL_ERR; a save that fails leaves the newer copy in force. (DESIGN CHOICE: assumption 35) -/
def State.mapSave (s : State) (env : CellEnv) (m : CalCopy) : Nat × State :=
  let older := match s.nv.calA, s.nv.calB with
    | some a, some b => decide (a.gen < b.gen)
    | none, _ => true
    | some _, none => false
  let pages := pagesOf (mapAddr (!older)) (m.bytes.length + 32)
  let r := (s.onNv fun v => v.intend pages).programPages env (pages ++ [pageOf (mapAddr (!older)) + 255])
  if r.code ≠ 0 then (r.code, r.st)
  else (0, r.st.onNv fun v => if older then { v with calA := some m } else { v with calB := some m })

/-- A warm start sets each heater from the map (R185). -/
def State.mapApply (s : State) (c : CalCopy) : State :=
  let t := s.forAll (List.range 16) fun n u =>
    (((u.put (Reg.LAM_STAT_TX_ROT n) (c.rots.getD n (0, 0, false)).1).put (Reg.LAM_STAT_RX_ROT n) (c.rots.getD n (0, 0, false)).2.1).put
      (Reg.LAM_STAT_WARM n) 1).cond ((u.opAt n).remapTx != List.range 32 || (u.opAt n).remapRx != List.range 32) fun v =>
        v.onOp n fun o => { o with remapTx := List.range 32, remapRx := List.range 32 }
  { t with rings := [] }.forAll c.rings fun e u =>
    let b := e.1 / 36
    let (d, u) := u.quot ((c.tj.getD b 0 - (u.sensor (32 + b)).tj) * e.2.coeff) 8
    let code := (min 65535 (max 0 ((e.2.code : Int) + d))).toNat
    { u with rings := tset {} u.rings e.1 { ({} : Ring) with code := code, slot := e.2.slot, bad := e.2.bad, absent := e.2.absent, pitch := e.2.pitch, coeff := e.2.coeff } }

/-- Ring loops off, heaters to park, searches over (Table PWR-5 S12). -/
def State.ringsOff (s : State) : State :=
  ({ s with rings := tmap {} (fun _ r => { r with lock := false, code := 0, frozen := false, low := false, los := false }) s.rings }.onMgmt fun m =>
    { m with sweep := [], searchPorts := 0 }).forAll (List.range 16) fun n u => u.put (Reg.LAM_STAT_SEARCHING n) 0

/-- Every comb parked, every ECS_EN low (Table PWR-5 S11). -/
def State.combsOff (s : State) : State :=
  (s.forAll (List.range 5) fun m t => t.combDark m).put Reg.COMB_STAT_SW_ACTIVE 0

/-! The target. -/

/-- What blocks on requests (R79). -/
def State.onBlocked (s : State) : Bool :=
  s.bit Reg.KEEP_REC_RAIL_LOST || s.bit Reg.KEEP_REC_REFCLK_LOST || s.bit Reg.KEEP_REC_MGMT_PLL_LOST || s.keep.thermLatch

/-- How high the sequencer may climb (R63, R77, R368). -/
def State.climbTarget (s : State) : Nat :=
  if s.keep.inTrap || s.bit Reg.PWR_REC_STRAP_CONFLICT then min 1 (s.get Reg.PWR_TGT_STATE) else s.get Reg.PWR_TGT_STATE

/-- The last step of the climb to a state (Table PWR-4). -/
def lastStep : Nat → Nat
  | 0 => 0 | 1 => 5 | 2 => 9 | 3 => 13 | _ => 14

/-- Begins an undo down to a state from the step in progress or completed last (R77, R80, R82). Its time runs from the request that causes it: the off request or the write of the target (R75). -/
def State.startUndo (s : State) (target : Nat) (sample again : Bool) : State :=
  (((s.onKeep fun k => { k with undo := some ⟨target, sample, again⟩, trapStop := false, seqStart := if s.bit Reg.PWR_STAT_OFF_PEND then k.offStart else k.tgtStart }).put Reg.PWR_STAT_BUSY 1).put
    Reg.PWR_STAT_DIR 1).put Reg.PWR_STAT_WAIT_NODE_ID 0 |>.put Reg.PWR_STAT_STEP
      (if s.bit Reg.PWR_STAT_WAIT_NODE_ID || !s.bit Reg.PWR_STAT_BUSY then lastStep s.power else s.get Reg.PWR_STAT_STEP)

/-- PWR_TIME takes the duration of the transition that ends, and the next one begins (R75). -/
def State.seqTime (s : State) : State :=
  (s.put Reg.PWR_TIME_US (min ((s.now - s.keep.seqStart) / 1000) (2 ^ 24 - 1))).onKeep fun k => { k with seqStart := s.now }

/-- Every tile measures on entry to LIT, and the transit engine is not ready until they finish (R287): a rotation that an earlier stay in LIT left unfinished begins anew, and so does the slot of a CAL_NOW. (DESIGN CHOICE: assumption 45) -/
def State.teStart (s : State) : State :=
  ((s.onTe fun t => { t with
    start := true, phase := .none, spare := none, outg := none, failWait := none, calNow := t.calCmd,
    tiles := tmap {} (fun _ x => { x with drain := false }) t.tiles }).put Reg.TEG_STAT_READY 0).put Reg.TEG_STAT_HANDOVER 0

/-- A step starts (Table PWR-4). -/
def State.enterStep (s : State) (k : Nat) : State :=
  let t := ((s.put Reg.PWR_STAT_BUSY 1).put Reg.PWR_STAT_DIR 0).put Reg.PWR_STAT_STEP k |>.put Reg.PWR_STAT_WAIT_NODE_ID 0
  if k = 12 then
    let t := t.onMgmt fun m => { m with lone := [] }
    match (if t.bit Reg.PWR_CTL_WARM_OK then t.nv.map else none) with
    | some c => t.mapApply c
    | none => t.forAll [0, 1, 2, 3] fun q u => u.startSearch q (quadPorts q) 3
  else if k = 13 then t.forAll (List.range 16) fun n u => u.cond (u.outState n != 0) (·.portRetrain n)
  else t

/-- The climb from DARK: S11, or the wait for a node ID (R78). The wait counts into PWR_TIME: the start of the transition is not taken again at its end. (DESIGN CHOICE: assumption 35) -/
def State.fromDark (s : State) : State :=
  if s.bit Reg.ROUTE_NODE_VALID then s.enterStep 11
  else ((s.put Reg.PWR_STAT_BUSY 1).put Reg.PWR_STAT_DIR 0).put Reg.PWR_STAT_STEP 0 |>.put Reg.PWR_STAT_WAIT_NODE_ID 1

/-- The step that follows a completed one. -/
def State.nextStep (s : State) (k : Nat) : State := if k = 9 then s.fromDark else s.enterStep (k + 1)

/-- A climb begins; `src` is what KEEP_WAKE shows for a power-up that a request starts (R76, R77, R80). -/
def State.climb (s : State) (src : Option Nat) : State :=
  if s.climbTarget ≤ s.power then s
  else
    let t := s.onKeep fun k => { k with seqStart := s.now, trapStop := false }
    let t := match src with | some c => t.put Reg.KEEP_WAKE_SRC c | none => t
    let t := t.cond (t.power == 0) (·.put Reg.PWR_REC_STRAP_CONFLICT 0)
    t.nextStep (lastStep t.power)

/-- The keeper takes requests: VAUX is good, no reset is held or waits, and nothing blocks (R79, R87). -/
def State.takesOn (s : State) : Bool := s.keep.vauxGood && !s.keep.inReset && s.keep.hold.isNone && !s.onBlocked

/-- An on request (R76, R83). -/
def State.onRequest (s : State) (src : Nat) : State := if s.takesOn && !s.bit Reg.PWR_STAT_BUSY then s.climb (some src) else s

/-- The end of a power-down: the filtered PWR_EN is sampled as a level (R84). -/
def State.sampleEn (s : State) : State :=
  if s.takesOn && !s.bit Reg.PWR_STAT_STAY && s.keep.pwrEnTaken then (s.bump Reg.PWR_STAT_BOUNCE).climb (some 4) else s

/-- A step has ended: what is latched is taken, the target is read, and the climb goes on, stops or is undone (R77, R82, R368). (DESIGN CHOICE: assumption 35) -/
def State.boundary (s : State) (k : Nat) : State :=
  let settle := fun (lvl : Nat) (again : Bool) => if k ≤ lastStep lvl then s.seqIdle.onKeep (fun u => { u with trapStop := false }) else s.startUndo lvl false again
  if s.bit Reg.PWR_STAT_OFF_PEND then s.startUndo 0 true false
  else if s.keep.trapStop then settle s.power false
  else if s.climbTarget ≤ s.power then settle s.climbTarget true
  else s.nextStep k

/-- A state of Table PWR-1 is reached. -/
def State.reachState (s : State) (p : Nat) : State := (s.put Reg.PWR_STAT_STATE p).seqTime

/-- A step fails (R80): it is recorded, and undone with every completed step down to the state named. While an off request is latched the failure is recorded as well, and the undo goes to KEEP, where PWR_EN is sampled (R82, R84). (DESIGN CHOICE: assumption 35) -/
def State.stepFail (s : State) (k cause : Nat) : State :=
  let t := ((s.put Reg.PWR_REC_STEP_FAIL 1).put Reg.PWR_REC_FAIL_STEP k).put Reg.PWR_REC_CAUSE cause
  if t.bit Reg.PWR_STAT_OFF_PEND then t.startUndo 0 true false else t.startUndo (if k ≤ 5 then 0 else 1) false false

/-! Undo. -/

/-- What the undo of the steps from `k` down to a state does (Table PWR-5). (DESIGN CHOICE: assumption 35) -/
def State.undoSteps (s : State) (k target : Nat) : State :=
  let lo := lastStep target
  let t := s.cond (decide (14 ≤ k)) fun t => { t with gates := false }
  let t := t.cond (decide (13 ≤ k ∧ lo < 13)) fun t => t.forAll (List.range 16) fun n u => u.portDark n
  let t := t.cond (decide (12 ≤ k ∧ lo < 12)) (·.ringsOff)
  let t := t.cond (decide (11 ≤ k ∧ lo < 11)) (·.combsOff)
  if target = 2 ∨ target = 3 then t
  else
    let t := t.loadStop 0x16 none
    let t := t.cond (decide (8 ≤ k)) fun t => (t.onMgmt fun m => { m with fwSlot := none }).put Reg.MBOX_ST_ROM 1
    let t := t.cond (decide (6 ≤ k)) (·.domainsOff)
    t.cond (target == 0) fun t => (t.onNv fun v => { v with intents := [] }).isolate

/-! Off requests and power-down. -/

/-- A fatal dump that is due or runs is cut off (R371). (DESIGN CHOICE: assumption 36) -/
def State.dumpAbort (s : State) : State := if s.keep.dump = .idle then s else (s.dumpRecord 5).onKeep fun k => { k with dump := .idle, dumpSkip := [] }

/-- An off request, or a reset, aborts a running mailbox command, a load and a dump (R107, R131, R371). (DESIGN CHOICE: assumption 36) -/
def State.abortWork (s : State) : State := ((s.loadStop 0x16 none).mboxDrop.mboxFinish 0x06 []).dumpAbort

/-- An off request (R76, R82, R85). -/
def State.offRequest (s : State) (stay : Bool) : State :=
  if !s.keep.vauxGood || s.keep.inReset || (s.bit Reg.PWR_STAT_BUSY && s.bit Reg.PWR_STAT_DIR) then s
  else if s.bit Reg.PWR_STAT_OFF_PEND then s
  else if s.bit Reg.PWR_STAT_BUSY then (((s.abortWork).onKeep fun k => { k with offStart := s.now }).put Reg.PWR_STAT_OFF_PEND 1).cond stay (·.put Reg.PWR_STAT_STAY 1)
  else if s.power = 0 then s
  else ((s.abortWork).powerDown).cond stay (·.put Reg.PWR_STAT_STAY 1)

/-- A sequencer that stands still moves to the target: down by an undo, but not in the Trapdoor, or up (R77, R368). -/
def State.follow (s : State) : State :=
  if s.climbTarget < s.power ∧ s.keep.inTrap = false then s.startUndo s.climbTarget false true else s.climb none

/-- PWR_TGT is written (R77, R369): a target change moves a sequencer that stands in MGMT or above; a running sequence reads it at its next boundary. -/
def State.targetWrite (s : State) (v : Nat) : State :=
  if v < 1 ∨ 4 < v then s
  else
    let t := (s.put Reg.PWR_TGT_STATE v).onKeep fun k => { k with tgtStart := s.now }
    if t.bit Reg.PWR_STAT_BUSY || decide (t.power = 0) || !t.takesOn then t else t.follow

/-! Records and resets. -/

/-- An isolation by the keeper that is no reset, with its error on page KEEP (R53, R72). (DEDUCED: assumption 38) -/
def State.keeperTrip (s : State) (errBit addr : Nat) : State := s.isolate.raiseErr 0 errBit { addr := addr }

/-- A reset of every domain except KEEP (R87), after a Cellar page program in flight. -/
def State.resetDomains (s : State) (cause : HoldCause) : State :=
  if s.nv.intents.isEmpty then s.dumpAbort.isolate else s.onKeep fun k => { k with hold := some cause }

/-- PWR_TGT and PWR_CTL return to their reset values (Table KEEP-1). -/
def State.pwrReset (s : State) : State :=
  (((s.put Reg.PWR_TGT_STATE 2).put Reg.PWR_CTL_WAKE_EN 1).put Reg.PWR_CTL_WARM_OK 1).put Reg.PWR_CTL_SAVE_MAP 1

/-- A software reset (R87): its hold lasts 1 µs, and PWR_EN is sampled after it. (DESIGN CHOICE: assumption 36) -/
def State.softReset (s : State) : State :=
  if s.keep.inReset || s.keep.hold.isSome then s
  else
    let t := ((s.put Reg.KEEP_REC_SW_RESET 1).put Reg.KEEP_REC_PIN_RESET 0).pwrReset.resetDomains .software
    t.cond t.keep.hold.isNone (·.sampleEn)

/-- The error of a thermal shutdown, as it isolates (R353, Table FAULT-2). (DEDUCED: assumption 38) -/
def State.thermErr (s : State) : State := s.raiseErr 0 10 { addr := s.get Reg.HEAT_SHUT_SENSOR }

/-- A thermal shutdown by a sensor, or 127 for the keeper diode (R352 to R355). (DEDUCED: assumption 38) -/
def State.thermalShutdown (s : State) (sensor : Nat) (tj : Int) : State :=
  if s.keep.thermLatch then s
  else
    let t := ((((s.put Reg.HEAT_SHUT_SENSOR sensor).put Reg.HEAT_SHUT_TJ (tj % 4096).toNat).put Reg.HEAT_SHUT_VALID 1).bump Reg.HEAT_SHUT_COUNT).onKeep
      fun k => { k with thermLatch := true }
    if t.nv.intents.isEmpty then t.isolate.thermErr else t.onKeep fun k => { k with hold := some .thermal }

end Sys2Proof.Machine
end

