-- ==== Sys2Proof/Machine/HeatOps.lean ====
section
/-! DEFINITION. Shared operations of heat: sensors, bands, the states of a sensor, and the Cellar's write window (R310, R342 to R356). -/

namespace Sys2Proof.Machine

/-- The lower boundary of a band, in eighths of a degree (R356). -/
def bandFloor : Nat → Int
  | 0 => -4096 | 1 => 200 | 2 => 440 | 3 => 680 | _ => 840

/-- The band falls while the reading is 2 °C or more below its boundary. -/
def bandFall (tj : Int) : Nat → Nat
  | 0 => 0
  | b + 1 => if tj ≤ bandFloor (b + 1) - 16 then bandFall tj b else b + 1

/-- The band after a reading (R356). -/
def bandNext (b : Nat) (tj : Int) : Nat :=
  let up := ([4, 3, 2, 1].find? fun k => decide (bandFloor k ≤ tj)).getD 0
  max up (bandFall tj b)

/-! The write window. -/

/-- The sensors beneath the Cellar. (DESIGN CHOICE: assumption 39) -/
def cellSensors : List Nat := (List.range 8).map (64 + ·)

/-- Table CELL-4: the hours within which a band asks for a full refresh pass. -/
def refreshInterval (band : Nat) : Nat := [672, 336, 72, 12, 2].getD band 2

/-- The interval of the refresh pass in force (R308): of B4 for the first pass after a mount, then of the band; REFRESH_VISIT comes at its pace. -/
def State.refreshHours (s : State) : Nat :=
  if s.mgmt.firstPass then refreshInterval 4 else refreshInterval (s.get Reg.CELL_STAT_BAND)

/-- The window opens (R306, R309 to R311): a deferred boot record is committed, the pages listed for rewriting are rewritten first, and an abandoned levelling move is tried again. (DESIGN CHOICE: assumption 39) -/
def State.winOpen (s : State) : State :=
  let t := (s.put Reg.CELL_STAT_WIN 1).raiseEvt 6 1
  let t := if t.bit Reg.CELL_STAT_BOOT_DEFER then (t.commitBoot {}).getD t else t
  let t := t.cond (t.bit Reg.CELL_STAT_MOUNTED && !t.mgmt.deferred.isEmpty) fun t =>
    ((State.rewrites {} 0 t t.mgmt.deferred).2.cellGauges.onMgmt fun m => { m with deferred := [] }).put Reg.CELL_REFR_DEFER 0
  t.cond t.mgmt.wlRetry.isSome fun t => (t.put Reg.CELL_STAT_WL_BUSY 1).onMgmt fun m => { m with wl := m.wlRetry, wlRetry := none }

/-- The band and the window follow the sensors beneath the Cellar (R310, Table HEAT-3). -/
def State.cellHeat (s : State) : State :=
  let t := s.put Reg.CELL_STAT_BAND (s.bandMax cellSensors)
  let ps := cellSensors.filter t.takesPart
  if ps.isEmpty || ps.any (fun i => (t.sensor i).valid && (decide ((t.sensor i).tj < 0) || decide (760 < (t.sensor i).tj))) then t.winClose
  else if !t.bit Reg.CELL_STAT_WIN && ps.all (fun i => (t.sensor i).valid && decide (16 ≤ (t.sensor i).tj) && decide ((t.sensor i).tj ≤ 744)) then t.winOpen
  else t

/-- The sampling-phase sets of a tile's ADC and of a port's line receivers, which their bands select (Table HEAT-3). -/
def State.tilePhase (s : State) (t : Nat) : Nat := s.bandOf t
def State.linePhase (s : State) (n : Nat) : Nat := s.bandOf (92 + n / 4)

/-! States. -/

/-- A sensor that is faulted or disabled leaves its state at once (R344). -/
def State.sensorLeaves (s : State) (i : Nat) : State :=
  let t := s.cond ((s.sensor i).st == 2) (·.raiseEvt 4 2)
  t.onSensor i fun x => { x with st := 0, duty := 0, valid := false }

/-- EVT.DUTY_MAX where a sensor's duty becomes the ceiling (R349). -/
def State.dutyEvt (s : State) (i : Nat) : State := s.cond ((s.sensor i).duty == s.get Reg.HEAT_PAUSE_DUTY_MAX) (·.raiseEvt 4 3)

/-- A sensor enters WARN, and THROTTLE (R345, R349). -/
def State.enterWarn (s : State) (i : Nat) : State := ((s.onSensor i fun x => { x with st := 1 }).bump Reg.HEAT_CNT_WARN).raiseEvt 4 0
def State.enterThrottle (s : State) (i : Nat) : State :=
  ((((s.onSensor i fun x => { x with st := 2, duty := s.get Reg.HEAT_PAUSE_DUTY_BASE }).bump Reg.HEAT_CNT_THROT).raiseEvt 4 1)).dutyEvt i

/-- The thresholds are compared with a conversion (R345, R346). -/
def State.thresholds (s : State) (i : Nat) (tj : Int) : State :=
  let at' := fun (f : Nat → Fld) => ((8 * s.get (f i) : Nat) : Int)
  let warn := at' Reg.HEAT_THR_WARN
  let throt := at' Reg.HEAT_THR_THROT
  let hyst := at' Reg.HEAT_THR_HYST
  let t := match (s.sensor i).st with
    | 0 => if throt ≤ tj then (s.enterWarn i).enterThrottle i else if warn ≤ tj then s.enterWarn i else s
    | 1 => if throt ≤ tj then s.enterThrottle i else if tj < warn - hyst then s.onSensor i fun x => { x with st := 0 } else s
    | _ =>
      if tj < throt - hyst then
        (s.onSensor i fun x => { x with st := if tj < warn - hyst then 0 else 1, duty := 0 }).raiseEvt 4 2
      else s
  if at' Reg.HEAT_THR_SHUT ≤ tj then t.thermalShutdown i tj else t

end Sys2Proof.Machine
end

