-- ==== Sys2Proof/Machine/Heat.lean ====
section
/-! DEFINITION. Sensors, thresholds, pauses and the thermal shutdown (R342 to R356). -/

namespace Sys2Proof.Machine

/-- A conversion that gives no reading in range (R344): a third failure in a row, or a reading outside −40 to 150 °C, makes the sensor faulted. (DESIGN CHOICE: assumption 39) -/
def State.sensorBad (s : State) (i : Nat) (tj : Option Int) : State :=
  let n := (s.sensor i).fails + 1
  let t := s.onSensor i fun x => { x with fails := n, goods := 0, tj := tj.getD x.tj }
  if (s.sensor i).fault || (tj.isNone && decide (n < 3)) then t
  else ((t.onSensor i fun x => { x with fault := true }).sensorLeaves i).raiseErr 4 8 { addr := i }

/-- A conversion with a reading in range (R344, R345, R356): a faulted sensor recovers at the third in a row and takes part from the next. -/
def State.sensorGood (s : State) (i : Nat) (tj : Int) : State :=
  let x := s.sensor i
  let t := s.onSensor i fun x => { x with fails := 0, goods := min 3 (x.goods + 1), tj := tj, band := bandNext x.band tj }
  if x.fault then t.cond (decide (2 ≤ x.goods)) fun u => u.onSensor i fun x => { x with fault := false }
  else if s.bit (Reg.HEAT_THR_DIS i) then t
  else (t.onSensor i fun x => { x with valid := true }).thresholds i tj

/-- SENSOR_CONVERSION (R342, R345): from MGMT upward; the reading is in eighths of a degree. (DESIGN CHOICE: assumption 39) -/
def execSensorConversion (i : SensorId) (reading : Option Int) (s : State) : Result :=
  if !s.keep.mgmtOn || decide (s.power = 0) then .next s
  else
    let t := match reading with
      | none => s.sensorBad i none
      | some tj => if tj < -320 ∨ 1200 < tj then s.sensorBad i (some (max (-2048) (min 2047 tj))) else s.sensorGood i tj
    .next (t.cond (i.val ∈ cellSensors && t.keep.mgmtOn) (·.cellHeat))

/-- DUTY_RAMP (R349): a full 10 ms in THROTTLE. -/
def execDutyRamp (i : SensorId) (s : State) : Result :=
  .next (s.cond ((s.sensor i).st == 2 && s.bit Reg.HEAT_CTL_RAMP_EN && decide ((s.sensor i).duty < s.get Reg.HEAT_PAUSE_DUTY_MAX)) fun t =>
    (t.onSensor i fun x => { x with duty := x.duty + 1 }).dutyEvt i)

/-- PAUSE_PERIOD (R347, R348): a sixteenth of the period begins: what a sensor of duty D covers works in the first 16 − D of them; a period with a pause in force is counted. -/
def execPausePeriod (part : Fin 16) (s : State) : Result :=
  .next (s.cond s.keep.mgmtOn fun t =>
    (t.onMgmt fun m => { m with pausePart := part.val }).cond (part.val == 0 && t.mgmt.sensors.any fun e => decide (0 < e.2.duty) && !decide (e.1 ∈ cellSensors))
      (·.bump Reg.HEAT_PAUSE_US_US))

/-- KEEPER_DIODE_TRIP (R352): in any state. -/
def execKeeperDiodeTrip (s : State) : Result := .next (s.cond s.keep.vauxGood (·.thermalShutdown 127 0))

/-- THERMAL_LATCH_CLEAR (R354): the episode ends as a power-down. -/
def execThermalLatchClear (s : State) : Result :=
  .next (s.cond (s.keep.thermLatch && s.keep.hold.isNone) fun t =>
    let u := t.onKeep fun k => { k with thermLatch := false }
    u.cond (!u.bit Reg.PWR_STAT_BUSY) (·.sampleEn))

/-- THERM_N is driven low (R351, R353). -/
def State.thermNLow (s : State) : Bool :=
  s.keep.thermLatch || (s.keep.mgmtOn && s.mgmt.sensors.any fun e => e.2.st == 2 || (s.bit Reg.HEAT_CTL_THERM_WARN && e.2.st != 0))

/-- The highest duty in force. -/
def State.dutyMax (s : State) : Nat := s.mgmt.sensors.foldl (fun d e => max d e.2.duty) 0

/-- The checks of a HEAT_THR value (R346). -/
def heatThrOk (v : Nat) : Bool :=
  decide (bits v 0 8 ≤ bits v 8 8) && decide (bits v 8 8 ≤ bits v 16 8) && decide (bits v 16 8 ≤ 125) && decide (1 ≤ bits v 24 4)

/-- HEAT_THR takes a value that checks, for the selected sensor or for all (R344, R346). -/
def State.heatThr (s : State) (v : Nat) : State :=
  let is := if s.bit Reg.HEAT_SEL_ALL then List.range 96 else [s.get Reg.HEAT_SEL_SENSOR]
  let t := s.forAll is fun i u =>
    ((((u.put (Reg.HEAT_THR_WARN i) (bits v 0 8)).put (Reg.HEAT_THR_THROT i) (bits v 8 8)).put (Reg.HEAT_THR_SHUT i) (bits v 16 8)).put
      (Reg.HEAT_THR_HYST i) (bits v 24 4)).put (Reg.HEAT_THR_DIS i) (bits v 28 1) |>.cond (bitOf v 28) (·.sensorLeaves i)
  t.cond (is.any (· ∈ cellSensors)) (·.cellHeat)

end Sys2Proof.Machine
end

