-- ==== Sys2Proof/Machine/Link.lean ====
section
/-! DEFINITION. The optical links: training, credits, low-power states, loop-backs and fabric time (R206 to R220). Link-control codes are those of Table LINK-6. -/

namespace Sys2Proof.Machine

/-- Capabilities this end offers (Table LINK-6, byte 9): none in Brynn mode (Table LINK-9). -/
def State.ownCaps (s : State) (n : Nat) : Nat := if s.brynn n then 0 else 7

/-- Sends TRAIN_ID; in Brynn mode it carries node ID and domain only (Table LINK-9). -/
def State.sendTrainId (s : State) (n : Nat) : State :=
  s.lctl n 0x01 (
    if s.brynn n then [s.get Reg.ROUTE_NODE_NODE, s.get Reg.ROUTE_NODE_DOMAIN, 0, 0, 0, 0, 0]
    else [s.get Reg.ROUTE_NODE_NODE, s.get Reg.ROUTE_NODE_DOMAIN, s.get Reg.TWIN_STAT_ROLE, n,
          s.get (Reg.LINK_CTL_MODE n), s.get (Reg.LINK_CTL_FEC n), 7])

/-- T1_PLL (R209): the LINE PLL locks. -/
def execT1Pll (n : OpId) (s : State) : Result :=
  .next (s.cond (s.inStep n 1) fun t =>
    (t.put Reg.CLK_LINE_LOCK (setBitOf (t.get Reg.CLK_LINE_LOCK) n)).put (Reg.OP_STAT_TSTEP n) 2)

/-- T2_SIGNAL (R209): lane CDRs lock on the pattern; NO_SIGNAL where none does. A line whose CDR locks has its signal. -/
def execT2Signal (n : OpId) (lanes : Word) (s : State) : Result :=
  .next (s.cond (s.inStep n 2) fun t =>
    if lanes = 0 then t.trainFail n 2
    else
      ((t.onOp n fun o => { o with rxLow := false }).forAll ((List.range 32).filter fun l => bitOf lanes.toNat l) fun l u =>
        u.onRing n true (laneLine (u.opAt n).remapRx l) fun g => { g with los := false }).put (Reg.OP_STAT_TSTEP n) 3)

/-- The line on which a lane's marker block has been seen: the lowest of several; lanes are identified by their markers, whatever line carries them (R204). -/
def markedLine (ms : List LaneMarker) (lane : Nat) : Option Nat :=
  ((List.range 36).find? fun k => ms.any fun m => m.line.val == k && markerLane m.bits.toNat == some lane)

/-- The lanes a port must see that carry no markers; in Brynn mode a lane counts on its own line only (R205, R211). -/
def State.darkLanes (s : State) (n : Nat) (ms : List LaneMarker) : List Nat :=
  (List.range (s.laneCount n)).filter fun l => match markedLine ms l with | some k => s.brynn n && k != l | none => true

/-- The skew between the markers of a port, in UI: the latest against the earliest. -/
def markerSkew (ms : List LaneMarker) : Nat :=
  let us := (ms.filter fun m => (markerLane m.bits.toNat).isSome).map (·.ui)
  us.foldl max 0 - us.foldl min (us.headD 0)

/-- The receive remap that the markers give: a lane not seen keeps its line; in Brynn mode lane n is on line n (R205). -/
def State.markedRemap (s : State) (n : Nat) (ms : List LaneMarker) : List Nat :=
  if s.brynn n then List.range 32 else (List.range 32).map fun l => (markedLine ms l).getD (laneLine (s.opAt n).remapRx l)

/-- T3_ALIGN (R204, R205, R209): lanes are identified from their markers and deskewed, and the receive remap is built; NO_LANES with more than one dark lane, or any in Brynn mode; SKEW beyond 64 UI. -/
def execT3Align (n : OpId) (markers : List LaneMarker) (s : State) : Result :=
  .next (s.cond (s.inStep n 3) fun t =>
    let d := t.darkLanes n markers
    if 1 < d.length ∨ (t.brynn n ∧ d ≠ []) then t.trainFail n 3
    else if 64 < markerSkew markers then t.trainFail n 4
    else (t.onOp n fun o => { o with dark := d.foldl setBitOf 0, remapRx := t.markedRemap n markers }).put (Reg.OP_STAT_TSTEP n) 4)

/-- The cause a step's limit gives (Table LINK-7). -/
def stepCause (k : Nat) : Nat := match k with | 1 => 1 | 2 => 2 | 3 => 3 | 4 => 5 | _ => 10

/-- TRAINING_TIMEOUT (R209, R210): the attempt fails; a port that holds in T5 is exempt. -/
def execTrainingTimeout (n : OpId) (s : State) : Result :=
  .next (s.cond (s.get (Reg.OP_STAT_PSTATE n) == 1 && !(s.opAt n).held) fun t =>
    t.trainFail n (stepCause (t.get (Reg.OP_STAT_TSTEP n))))

/-- A hold in T5 (R210): the cause, and its event once on entry. (DESIGN CHOICE: assumption 29) -/
def State.t5Hold (s : State) (n cause : Nat) (evt : Option Nat) : State :=
  let entry := !((s.opAt n).held && s.get (Reg.OP_TRAIN_CAUSE n) == cause)
  let t := (s.onOp n fun o => { o with held := true }).put (Reg.OP_TRAIN_CAUSE n) cause
  match evt with
  | some e => t.cond entry (·.raiseEvt (48 + n) e)
  | none => t

/-- The chiplet is the standby of a pair (R320). -/
def State.standby (s : State) : Bool := s.bit Reg.TWIN_STAT_PAIRED && s.get Reg.TWIN_STAT_ROLE == 2

/-- Entry to T6 (R187, R211): capabilities in force, and, while automatic swaps run, a swap for each lane on an unusable line; a dark lane is asked for. -/
def State.enterT6 (s : State) (n peerCaps : Nat) : State :=
  let t := ((s.onOp n fun o => { o with held := false }).put (Reg.OP_STAT_TSTEP n) 6).put (Reg.OP_STAT_CAPS n) (s.ownCaps n &&& peerCaps)
  let t := t.cond (!t.brynn n && t.bit (Reg.LAM_CTL_AUTO_SPARE n)) fun u =>
    u.forAll ((List.range 32).filter fun l => !(u.ringAt n false (laneLine (u.opAt n).remapTx l)).good) fun l v =>
      v.wantSwap n { lane := l, lost := true }
  (t.forAll ((List.range 32).filter fun l => bitOf (t.opAt n).dark l) fun l u =>
    u.askSwap n (laneLine (u.opAt n).remapRx l) 1).t6Check n

/-- A peer with this node's ID is its own twin where the chiplet is paired and the peer reports the other role of the pair: TRAIN_ID carries no more to tell it by (R24). (DESIGN CHOICE: assumption 29) -/
def State.isTwin (s : State) (role : Nat) : Bool :=
  s.bit Reg.TWIN_STAT_PAIRED && (role == 1 || role == 2) && role != s.get Reg.TWIN_STAT_ROLE

/-- The checks of T5 on the peer's latest TRAIN_ID, in order (R210): the port holds, fails, or goes to T6. Without a valid node ID of its own it holds before any has come. -/
def State.t5Check (s : State) (n : Nat) : State :=
  if !s.inStep n 5 then s
  else if !s.bit Reg.ROUTE_NODE_VALID then s.t5Hold n 7 (some 5)
  else
    match (s.opAt n).peerId with
    | none => s.onOp n fun o => { o with held := false }
    | some id =>
      let b := s.brynn n
      if s.get Reg.ROUTE_NODE_DOMAIN ≠ id.domain then s.t5Hold n 8 (some 6)
      else if s.get Reg.ROUTE_NODE_NODE = id.node ∧ !s.isTwin (if b then 0 else id.role) then s.t5Hold n 9 (some 7)
      else if !b ∧ (b2n id.nrz ≠ s.get (Reg.LINK_CTL_MODE n) ∨ b2n id.far ≠ s.get (Reg.LINK_CTL_FEC n)) then s.trainFail n 6
      else if b ∧ s.standby then s.t5Hold n 11 none
      else s.enterT6 n (if b then 0 else id.caps)

/-- The ports that hold in T5 go on as soon as what held them is gone (R210): run where the node ID, the role or the pairing changes. -/
def State.t5Again (s : State) : State := s.forAll ((List.range 16).filter fun n => (s.opAt n).held) fun n t => t.t5Check n

/-- T4_EQ (R209, R210): equalisation has adapted; TRAIN_ID is sent, and a port without a node ID holds. -/
def execT4Eq (n : OpId) (s : State) : Result :=
  .next (s.cond (s.inStep n 4) fun t => ((t.put (Reg.OP_STAT_TSTEP n) 5).sendTrainId n).t5Check n)

/-- TRAIN_ID (R210): the peer's values are recorded, and checked in T5. (DESIGN CHOICE: assumption 29) -/
def execTrainId (n : OpId) (id : TrainId) (s : State) : Result :=
  .next (s.cond (s.inStep n 5 || s.inStep n 6) fun s =>
    let b := s.brynn n
    let t := ((((s.put (Reg.OP_PEER_NODE n) id.node).put (Reg.OP_PEER_ROLE n) (if b then 0 else id.role)).put
      (Reg.OP_PEER_PORT n) (if b then 0 else id.port)).put (Reg.OP_PEER_VALID n) 1).put (Reg.OP_PEER_DOM_DOMAIN n) id.domain
    (t.onOp n fun o => { o with peerId := some id }).t5Check n)

/-- TRAIN_ID_REPEAT (R207, R209, R210): TRAIN_ID is sent again, and in T6 a TRAIN_ACK that the peer's has not answered. -/
def execTrainIdRepeat (n : OpId) (s : State) : Result :=
  .next (s.cond (s.inStep n 5 || s.inStep n 6) fun t =>
    (t.sendTrainId n).cond (s.inStep n 6 && (s.opAt n).ackSent && !(s.opAt n).ackGot) fun u => u.lctl n 0x02 ((s.opAt n).rxEpoch :: List.replicate 16 512))

/-- TRAIN_ACK (R208, R209): the credits of a new epoch; the port becomes ACTIVE once its own has gone out. -/
def execTrainAck (n : OpId) (epoch : Nat) (credits : List Nat) (s : State) : Result :=
  if !(s.inStep n 5 || s.inStep n 6) || epoch % 16 == s.get (Reg.OP_STAT_EPOCH n) then .next s
  else
    let t := (s.put (Reg.OP_STAT_EPOCH n) epoch).onOp n fun o => { o with ackGot := true, txCr := credits }
    .next ((t.forAll (List.range 16) fun p u => u.put (Reg.OP_CRA_TX_GRANT n p) (credits.getD p 0)).activate n)

/-- CREDIT (R208): returned link credits; a stale epoch is discarded. -/
def execCredit (n : OpId) (epoch : Nat) (credits : List Nat) (s : State) : Result :=
  .next (s.cond (s.trained n && epoch == s.get (Reg.OP_STAT_EPOCH n)) fun t =>
    t.onOp n fun o => { o with txCr := List.zipWith (· + ·) o.txCr credits })

/-- CREDIT_RETURN (R208, R215): freed blocks go back in one CREDIT message; a port in NAP or DOZE is woken for it, and they go at the next. -/
def execCreditReturn (n : OpId) (s : State) : Result :=
  .next (s.cond (s.trained n && (s.opAt n).rxFreed.any (· != 0)) fun t =>
    if t.get (Reg.OP_STAT_PSTATE n) ≠ 2 then t.wakePort n
    else (t.onOp n fun o => { o with rxFreed := List.replicate 16 0 }).lctlTurn n 0x03 ((t.opAt n).rxEpoch :: (t.opAt n).rxFreed))

/-- The code that protects a port's frames (R209, Table LINK-5): Brynn FEC in Brynn mode; else Near framing while it trains, and the selected one once its link is up. -/
def State.fec (s : State) (n : Nat) : FecCode :=
  if s.brynn n then brynnFec
  else if (s.trained n || s.get (Reg.OP_STAT_PSTATE n) == 5) && s.bit (Reg.LINK_CTL_FEC n) then farFec else nearFec

/-- The port carries framed IDLE words in a loop-back, which the FEC counters count (R216). -/
def State.loopIdle (s : State) (n : Nat) : Bool := s.get (Reg.OP_STAT_PSTATE n) == 5 && s.bit (Reg.OP_LB_PAT n)

/-- PRBS31 is checked per lane in a loop-back (R216). -/
def State.loopPrbs (s : State) (n : Nat) : Bool :=
  s.get (Reg.OP_STAT_PSTATE n) == 5 && s.get (Reg.OP_LB_MODE n) != 0 && !s.bit (Reg.OP_LB_PAT n)

/-- LINE_PLL_LOSS (R71, R212): the port leaves service, relocks and retrains. -/
def execLinePllLoss (n : OpId) (s : State) : Result :=
  let t := (s.put Reg.CLK_LINE_LOCK (clrBitOf (s.get Reg.CLK_LINE_LOCK) n)).raiseEvt (48 + n) 8
  .next (t.cond (t.trained n || t.get (Reg.OP_STAT_PSTATE n) == 1 || t.get (Reg.OP_STAT_PSTATE n) == 5) (·.portRetrain n))

/-- The write of LINK_CTL (R209, R212): a change of EN, or of COMPAT, MODE or FEC on a trained port, is a link reset. -/
def State.linkCtl (s : State) (n v : Nat) : State :=
  let en := s.get (Reg.LINK_CTL_EN n)
  let line := bits v 1 3 != s.get (Reg.LINK_CTL_COMPAT n) + 2 * s.get (Reg.LINK_CTL_MODE n) + 4 * s.get (Reg.LINK_CTL_FEC n)
  let t := (((((s.put (Reg.LINK_CTL_EN n) (bits v 0 1)).put (Reg.LINK_CTL_COMPAT n) (bits v 1 1)).put (Reg.LINK_CTL_MODE n) (bits v 2 1)).put
    (Reg.LINK_CTL_FEC n) (bits v 3 1)).put (Reg.LINK_CTL_LPS_EN n) (bits v 4 1)).put (Reg.LINK_CTL_RETRY n) (bits v 5 1)
  if bits v 0 1 ≠ en then (if bits v 0 1 = 0 then t.portDark n else t.portRetrain n)
  else if line && s.trained n then t.portRetrain n
  else t

/-- The write of OP_LB (R88, R216): PRBS31 counts that ran are kept; a change of MODE is a link reset of a port that LIT or RUN and EN allow to be anything but dark; far-end sends LOOP_REQ, and leaving it sends LOOP_REQ with 0. -/
def State.opLb (s : State) (n v : Nat) : State :=
  let old := s.get (Reg.OP_LB_MODE n)
  let m := bits v 0 2
  let s := if s.loopPrbs n && (m != old || bitOf v 2) then
      { s with fresh := s.fresh + 32 }.onOp n fun o => { o with lbErr := lbCounted o.lbErr 32 s.fresh }
    else s
  let t := ((s.put (Reg.OP_LB_MODE n) m).put (Reg.OP_LB_PAT n) (bits v 2 1)).put (Reg.OP_LB_LANE n) (bits v 8 5)
  if m = old then t
  else
    let t := t.cond (old == 3) fun u => (u.lctlTurn n 0x50 [0])
    let t := (if t.portsLit && t.bit (Reg.LINK_CTL_EN n) then
      (if m = 0 then t.portRetrain n else t.linkReset n 5) else t).put (Reg.OP_LB_FAR_OK n) 0
    let t := if old = 3 then t.onOp n fun o => { o with loopReq := some false } else t
    if m = 3 then (t.onOp n fun o => { o with loopReq := some true }).lctlTurn n 0x50 [1] else t

/-- LOOP_REQ (R216): the peer of a far-end loop enters or leaves it and answers; a Brynn port offers none. (DESIGN CHOICE: assumption 29) -/
def execLoopReq (n : OpId) (enter : Bool) (s : State) : Result :=
  if s.brynn n || !(s.trained n || s.get (Reg.OP_STAT_PSTATE n) == 1 || (s.opAt n).farLoop) then .next s
  else if enter then
    let t := if (s.opAt n).farLoop then s else
      ((s.linkReset n 5).onOp n fun o => { o with farLoop := true }).raiseEvt (48 + n) 4
    .next (t.lctlTurn n 0x51 [1])
  else
    let t := if (s.opAt n).farLoop then (s.onOp n fun o => { o with farLoop := false }).portRetrain n else s
    .next (t.lctlTurn n 0x51 [0])

/-- LOOP_ACK (R216): the request is answered; FAR_OK shows a far-end loop. -/
def execLoopAck (n : OpId) (enter : Bool) (s : State) : Result :=
  .next (s.cond ((s.opAt n).loopReq == some enter) fun t =>
    (t.onOp n fun o => { o with loopReq := none }).putB (Reg.OP_LB_FAR_OK n) (enter && t.get (Reg.OP_LB_MODE n) == 3))

/-- LOOP_REQ_REPEAT (R216). -/
def execLoopReqRepeat (n : OpId) (s : State) : Result :=
  .next (match (s.opAt n).loopReq with | some b => s.lctlTurn n 0x50 [b2n b] | none => s)

/-! Low-power states (R214, R215). -/

/-- The port's transmit side is idle: nothing waits at its transmitter. -/
def State.txIdle (s : State) (n : Nat) : Bool := (s.opAt n).ackQ.isEmpty && (s.opAt n).lctlQ.isEmpty && (s.point (1 + n)).waiting.isEmpty

/-- NAP and DOZE may be used: LPS_EN, and not in Brynn mode. -/
def State.lpsOk (s : State) (n : Nat) : Bool := s.bit (Reg.LINK_CTL_LPS_EN n) && !s.brynn n

/-- The port's low-power state changes and the request, if one was out, is settled. -/
def State.lpsEnter (s : State) (n pstate : Nat) : State := (s.onOp n fun o => { o with lps := .none }).put (Reg.OP_STAT_PSTATE n) pstate

/-- IDLE_TO_NAP (R214). -/
def execIdleToNap (n : OpId) (s : State) : Result :=
  .next (s.cond (s.get (Reg.OP_STAT_PSTATE n) == 2 && s.lpsOk n && s.get (Reg.OP_LPS_IDLE_NAP n) != 0 && (s.opAt n).lps == .none) fun t =>
    (t.onOp n fun o => { o with lps := .nap }).lctlTurn n 0x20 [])

/-- NAP_TO_DOZE (R214). -/
def execNapToDoze (n : OpId) (s : State) : Result :=
  .next (s.cond (s.get (Reg.OP_STAT_PSTATE n) == 3 && s.lpsOk n && s.get (Reg.OP_LPS_NAP_DOZE n) != 0 && (s.opAt n).lps == .none) fun t =>
    (t.onOp n fun o => { o with lps := .doze }).lctlTurn n 0x23 [])

/-- A received low-power request (R214): agreement where the same request is out, otherwise the answer by the transmit side; Brynn mode uses neither state (Table LINK-9). -/
def State.lpsRequest (s : State) (n : Nat) (mine : LpsReq) (src dst ack : Nat) : State :=
  if s.get (Reg.OP_STAT_PSTATE n) ≠ src ∨ s.brynn n = true then s
  else if (s.opAt n).lps = mine then s.lpsEnter n dst
  else if s.lpsOk n && s.txIdle n then (s.lctlTurn n ack []).lpsEnter n dst
  else s.lctlTurn n (ack + 1) []

/-- NAP_REQ (R214). (DESIGN CHOICE: assumption 29) -/
def execNapReq (n : OpId) (s : State) : Result := .next (s.lpsRequest n .nap 2 3 0x21)

/-- NAP_ACK (R214). -/
def execNapAck (n : OpId) (s : State) : Result :=
  .next (s.cond ((s.opAt n).lps == .nap && s.get (Reg.OP_STAT_PSTATE n) == 2) (·.lpsEnter n 3))

/-- NAP_NAK (R214): the idle count restarts. -/
def execNapNak (n : OpId) (s : State) : Result :=
  .next (s.cond ((s.opAt n).lps == .nap) fun t => t.onOp n fun o => { o with lps := .none })

/-- DOZE_REQ (R214). (DESIGN CHOICE: assumption 29) -/
def execDozeReq (n : OpId) (s : State) : Result := .next (s.lpsRequest n .doze 3 4 0x24)

/-- DOZE_ACK (R214). -/
def execDozeAck (n : OpId) (s : State) : Result :=
  .next (s.cond ((s.opAt n).lps == .doze && s.get (Reg.OP_STAT_PSTATE n) == 3) (·.lpsEnter n 4))

/-- DOZE_NAK (R214): the count restarts. -/
def execDozeNak (n : OpId) (s : State) : Result :=
  .next (s.cond ((s.opAt n).lps == .doze) fun t => t.onOp n fun o => { o with lps := .none })

/-- LPS_ANSWER_TIMEOUT (R214): no answer within 1 µs restarts the idle count. -/
def execLpsAnswerTimeout (n : OpId) (s : State) : Result :=
  .next (s.onOp n fun o => { o with lps := .none })

/-- PORT_WAKE (R215). -/
def execPortWake (n : OpId) (s : State) : Result := .next (s.wakePort n)

/-! Fabric time (R219, R220). -/

/-- This node's distance to the time source. -/
def State.dist (s : State) : Nat := if s.bit Reg.TIME_CTL_SRC then 0 else s.get Reg.TIME_STAT_DIST

/-- PORT_WAKE_DONE (R215): the exit time passes, and the messages that waited leave. -/
def execPortWakeDone (n : OpId) (s : State) : Result :=
  .next (s.cond (s.opAt n).waking fun t =>
    ((t.onOp n fun o => { o with waking := false }).put (Reg.OP_STAT_PSTATE n) 2).lctlFlush n)

/-- The trained port whose peer reports the lowest distance, the lowest port among equals. -/
def State.timeParent (s : State) : Option Nat :=
  ((List.range 16).filter fun n => s.trained n && decide ((s.opAt n).peerDist < 63)).foldl (fun b n =>
    match b with
    | none => some n
    | some m => if (s.opAt n).peerDist < (s.opAt m).peerDist then some n else some m) none

/-- Takes a parent, or runs free without one (R220). -/
def State.takeParent (s : State) (p : Option Nat) : State :=
  match p with
  | none => (s.put Reg.TIME_STAT_SYNC 0).put Reg.TIME_STAT_DIST 63
  | some m => (s.put Reg.TIME_STAT_PARENT m).put Reg.TIME_STAT_DIST (min ((s.opAt m).peerDist + 1) 62)

/-- The parent of a node in step is lost: its port is no longer trained, or its peer has no source (R220). -/
def State.parentLost (s : State) : Bool :=
  let p := s.get Reg.TIME_STAT_PARENT
  s.bit Reg.TIME_STAT_SYNC && !(s.trained p && decide ((s.opAt p).peerDist < 63))

/-- The parent and the distance follow what the peers report (R219, R220): once in step, a node keeps to the lowest distance reported, with EVT.PARENT_LOST where its parent is gone. -/
def State.timeSelect (s : State) : State :=
  if s.bit Reg.TIME_CTL_SRC || !s.bit Reg.TIME_STAT_SYNC then s
  else (s.takeParent s.timeParent).cond s.parentLost (·.raiseEvt 11 1)

/-- TIME_EXCHANGE (R215, R219, R220): a node that is not the source reselects a lost parent and sends TIME_REQ on every trained port; one in NAP or DOZE is woken and sends it then. -/
def execTimeExchange (s : State) : Result :=
  if s.bit Reg.TIME_CTL_SRC || !s.coreClocked then .next s
  else
    .next ((s.cond s.parentLost (·.timeSelect)).forAll ((List.range 16).filter s.trained) fun n u =>
      if (u.opAt n).lctlQ.any (·.1 == 0x30) then u.wakePort n else u.lctlSend n 0x30 [u.dist])

/-- TIME_REQ (R219, R220): stamped on arrival and answered; a source that hears distance 0 from a lower node ID gives up its role. -/
def execTimeReq (n : OpId) (dist t1 : Nat) (s : State) : Result :=
  if !s.trained n then .next s
  else
    let t := s.onOp n fun o => { o with peerDist := dist }
    let t := if t.bit Reg.TIME_CTL_SRC && dist == 0 && decide (t.get (Reg.OP_PEER_NODE n) < t.get Reg.ROUTE_NODE_NODE) then
        (((t.put Reg.TIME_CTL_SRC 0).takeParent (some n)).put Reg.TIME_STAT_SYNC 1).raiseEvt 11 2
      else t.timeSelect
    .next (t.lctlTurn n 0x31 [t.dist, t1, t.ftime, t.ftime])

/-- The offset a TIME_RSP gives in nanoseconds, corrected by OP_TIME_ASYM (R219): worked in picoseconds, and rounded as a free value says where it is not whole. (DESIGN CHOICE: assumption 28) -/
def State.timeOffset (s : State) (n t1 t2 t3 : Nat) : Int × State :=
  s.quot (500 * (((t2 : Int) - t1) - ((s.ftime : Int) - t3)) - signed16 (s.get (Reg.OP_TIME_ASYM_PS n))) 1000

/-- An offset as TIME_OFS shows it: a free value where it is outside 32 signed bits. (DESIGN CHOICE: assumption 28) -/
def State.ofsShown (s : State) (ofs : Int) : Nat × State :=
  if -(2 ^ 31 : Int) ≤ ofs ∧ ofs < 2 ^ 31 then ((ofs % (2 ^ 32 : Nat)).toNat, s) else (s.takeFree.1.toNat, s.takeFree.2)

/-- Steers FTIME by an offset: stepped above 1 µs, slewed otherwise (R219). (DESIGN CHOICE: assumption 28) -/
def State.steer (s : State) (ofs : Int) : State :=
  if 1000 < ofs ∨ ofs < -1000 then
    { s with ftime := (((s.ftime : Int) + ofs) % (2 ^ 64 : Nat)).toNat, slew := 0 }.raiseEvt 11 3
  else { s with slew := ofs }

/-- TIME_RSP (R219, R220): the peer's distance may change the parent; the parent's offset steers FTIME. (DESIGN CHOICE: assumption 28) -/
def execTimeRsp (n : OpId) (dist t1 t2 t3 : Nat) (s : State) : Result :=
  if (s.opAt n).t1 ≠ some t1 ∨ s.bit Reg.TIME_CTL_SRC then .next s
  else
    let (ofs, s) := s.timeOffset n t1 t2 t3
    let t := (s.onOp n fun o => { o with peerDist := dist, t1 := none }).timeSelect
    .next (if t.timeParent = some n.val then
        let u := ((t.takeParent (some n)).cond (!t.bit Reg.TIME_STAT_SYNC) fun v => (v.put Reg.TIME_STAT_SYNC 1).raiseEvt 11 0)
        let (w, u) := u.ofsShown ofs
        (u.put Reg.TIME_OFS_NS w).steer ofs
      else t)

/-- The read of TIME_NOW_LO: bits 63:32 of FTIME are latched into TIME_NOW_HI (R219). -/
def State.timeNow (s : State) : Nat × State := (s.ftime % 2 ^ 32, s.put Reg.TIME_NOW_HI_NS (s.ftime / 2 ^ 32))

/-- DOWN (R37, R213): PEER_DOWN with source 0 and the node ID the notice carries. (DESIGN CHOICE: assumption 29) -/
def execDown (n : OpId) (node _reason : Nat) (s : State) : Result := .next (s.peerDown n node 0)

/-- LINK_LOSS_TIMER (R213): PEER_DOWN with source 1, and the port retrains. -/
def execLinkLossTimer (n : OpId) (s : State) : Result :=
  .next (s.cond ((s.opAt n).lossTimer && s.trained n) fun t =>
    ((t.onOp n fun o => { o with lossTimer := false }).peerDown n (t.get (Reg.OP_PEER_NODE n)) 1).portRetrain n)

/-- LANE_ERROR_LIMIT (R206): corrected symbols of a lane are counted, in OP_FEC_CORR and in the lane's count of the window; at the limit, SWAP_ASK with cause 4, once per window. -/
def execLaneErrorLimit (n : OpId) (lane symbols : Nat) (s : State) : Result :=
  .next (s.cond (s.trained n || s.loopIdle n) fun s =>
    let t := (s.bump (Reg.OP_FEC_CORR_SYM n) symbols).onOp n fun o => { o with errs := tset 0 o.errs lane (tget 0 o.errs lane + symbols) }
    t.cond (decide (t.get (Reg.OP_ERR_LIM_SYM n) ≤ tget 0 (t.opAt n).errs lane) && decide (lane < t.laneCount n) && !bitOf (t.opAt n).errLanes lane) fun u =>
      (u.onOp n fun o => { o with errLanes := setBitOf o.errLanes lane }).askSwap n (laneLine (u.opAt n).remapRx lane) 4)

/-- ERROR_WINDOW (R206): the lane counts restart. -/
def execErrorWindow (n : OpId) (s : State) : Result := .next (s.onOp n fun o => { o with errLanes := 0, errs := [] })

end Sys2Proof.Machine
end

