-- ==== Sys2Proof/Machine/StreamOps.lean ====
section
/-! DEFINITION. Shared operations of the streams: the notes for the standby and their batches, contexts, Pantry slots, routes, acknowledgements, deliveries, sends and fences (R25 to R33, R38, R221 to R240, R322 to R327). -/

namespace Sys2Proof.Machine

/-! The copy for the standby. -/

/-- The active of a pair keeps the standby's copy (COLD or WARM, R322). -/
def State.copying (s : State) : Bool :=
  s.bit Reg.TWIN_STAT_PAIRED && s.get Reg.TWIN_STAT_ROLE == 1 && (s.get Reg.TWIN_STAT_STATE == 2 || s.get Reg.TWIN_STAT_STATE == 3)

/-- The active acknowledges through the standby (WARM, R327). -/
def State.warm (s : State) : Bool := s.copying && s.get Reg.TWIN_STAT_STATE == 3

/-- A record's 16 bytes (Table TWIN-1). -/
def recBytes : TwinRec → List Nat
  | .ctx r => [1] ++ natBe 3 (r.state * 2 ^ 21 + r.sid) ++ [b2n r.recv * 128 + b2n r.sel * 64 + r.tc * 4, r.gen] ++ natBe 2 (r.peerNode * 64) ++
      natBe 3 r.peerSid ++ natBe 3 r.seq ++ [0, 0]
  | .route (.entry bank idx data) => [2, b2n bank] ++ natBe 2 idx ++ natBe 4 data.toNat ++ List.replicate 8 0
  | .route (.swap active) => [2, b2n active, 0, 0, 0, 0, 0, 0, 1] ++ List.replicate 7 0
  | .chan node => [3] ++ natBe 2 node ++ List.replicate 13 0

/-- Two records of the same context, route entry or channel: the later one stands for both in a batch (R324). -/
def TwinRec.same : TwinRec → TwinRec → Bool
  | .ctx a, .ctx b => a.sid == b.sid
  | .route (.entry b i _), .route (.entry c j _) => b == c && i == j
  | .chan m, .chan n => m == n
  | _, _ => false

/-- The open batch is sealed with the next epoch and sent, unless 16 batches already wait (R324). -/
def State.sealBatch (s : State) : State :=
  if 16 ≤ s.twin.batches.length then s
  else
    let rs := s.twin.recs.take 255
    let e := (s.get Reg.TWIN_EPOCH_S_EPOCH + 1) % 2 ^ 32
    let t := (s.onTwin fun w => { w with recs := w.recs.drop 255, batches := w.batches ++ [⟨e, rs⟩] }).put Reg.TWIN_EPOCH_S_EPOCH e
    (t.forAll rs fun r u => u.emit (.twinRec r)).emit (.twinSeal e rs.length (crc32c (rs.map recBytes).flatten))

/-- A change of a copied thing becomes a record of the open batch, which closes at 255 records (R324). -/
def State.twinNote (s : State) (r : TwinRec) : State :=
  if s.copying then
    let t := s.onTwin fun w => { w with recs := w.recs.filter (fun a => !a.same r) ++ [r] }
    t.cond (decide (255 ≤ t.twin.recs.length)) (·.sealBatch)
  else s

/-- A node whose channels carry traffic is named to the standby once (R322). -/
def State.chanNote (s : State) (node : Nat) : State :=
  if s.twin.chans.contains node then s
  else if s.copying then (s.onTwin fun w => { w with chans := w.chans ++ [node] }).twinNote (.chan node)
  else s

/-! Contexts. -/

def State.ctxAt (s : State) (sid : Nat) : Ctx := tget {} s.strm.larder sid

/-- The CTX record of a context (R323). -/
def Ctx.record (c : Ctx) (sid : Nat) : CtxRec :=
  { sid := sid, state := c.state, recv := c.recv, sel := c.sel, tc := c.tc, gen := c.gen, cause := c.cause, peerNode := c.peerNode,
    peerSid := c.peerSid, seq := if c.recv then c.accepted else c.acked }

/-- A context changed; a change of what the standby copies is noted. BRYNN contexts are not copied (R322). -/
def State.onCtx (s : State) (sid : Nat) (f : Ctx → Ctx) : State :=
  let c := s.ctxAt sid
  let d := f c
  let t := s.onStrm fun m => { m with larder := tset {} m.larder sid d }
  t.cond (!c.brynn && !d.brynn && c.record sid != d.record sid) (·.twinNote (.ctx (d.record sid)))

/-- The modulus of a sequence (R226, R228, R242). -/
def seqMod (brynn : Bool) : Nat := if brynn then 65536 else 16777216

/-- Sequence `a` lies behind `r` (R226). -/
def behind (m a r : Nat) : Bool := let d := (r + m - a) % m; decide (1 ≤ d) && decide (d ≤ m / 2)

/-- The frames of a SEND context that are unacknowledged; frames released by a range or an acknowledgement and kept for twin confirmation are not. -/
def Ctx.live (c : Ctx) : List Unacked := c.unack.filter fun u => !u.ranged

/-! The Pantry. -/

/-- The watermark of a port's Pantry (R238). -/
def pantryWm (n : Nat) : Wm :=
  ⟨Reg.OP_PANTRY_THR_LO n, Reg.OP_PANTRY_THR_HI n, Reg.OP_PANTRY_WM_LVL n, Reg.OP_PANTRY_WM_UP n, Reg.OP_PANTRY_WM_DN n,
    Reg.OP_PANTRY_WM_DN_EN n, Reg.OP_PANTRY_WM_CROSS n, 48 + n, 9, 10⟩

/-- OP_PANTRY.FILL follows the slots, and its mark is judged. -/
def State.pantryGauge (s : State) (n : Nat) : State :=
  (s.put (Reg.OP_PANTRY_FILL n) (s.opAt n).pantry.length).judge (pantryWm n) (s.opAt n).pantry.length

/-- The lowest key, from `i` up, that a rising list of keys leaves out. (DESIGN CHOICE: assumption 19) -/
def lowestFree : Nat → List Nat → Nat
  | i, [] => i
  | i, k :: ks => if k = i then lowestFree (i + 1) ks else i

/-- A frame takes the lowest free slot of a port's Pantry (R237). (DESIGN CHOICE: assumptions 19, 20) -/
def State.takeSlot (s : State) (n : Nat) (f : Frame) : Nat × State :=
  let k := lowestFree 0 ((s.opAt n).pantry.map (·.1))
  (k, (s.onOp n fun o => { o with pantry := tset none o.pantry k (some f) }).pantryGauge n)

/-- Is a request that of a slot? -/
def QReq.ofSlot (n k : Nat) (q : QReq) : Bool := match q.item with | .slot p j _ => p == n && j == k | _ => false

/-- A slot is released, with any request to send it; frames without a slot are marked by slot 4096 (R237). -/
def State.freeSlot (s : State) (n k : Nat) : State :=
  if 4096 ≤ k then s
  else (((s.onOp n fun o => { o with pantry := tset none o.pantry k none }).withdraw (·.ofSlot n k)).enterOff n k).pantryGauge n

/-- The slots of a list of frames are released. -/
def State.freeSlots (s : State) (us : List Unacked) : State := s.forAll us fun u t => t.freeSlot u.port u.slot

/-- Slots released by a fence, a forced close, a Larder error or a hand-over, counted in OP_CRA_PAN.REL of each port (R38, R224, R247). -/
def State.freeCounted (s : State) (us : List Unacked) : State :=
  (s.freeSlots us).forAll (List.range 16) fun n t =>
    t.put (Reg.OP_CRA_PAN_REL n) (us.filter fun u => u.port == n && decide (u.slot < 4096)).length

/-! Routes. -/

/-- The active bank's entry of a node (R25). -/
def State.routeEntry (s : State) (node : Nat) : Nat := tget 0 s.routes (1024 * s.get Reg.ROUTE_BANK_ACTIVE + node)

/-- The node is fenced (R38); the entry of the chiplet's own node is not used (R25). -/
def State.fenced (s : State) (node : Nat) : Bool := node != s.get Reg.ROUTE_NODE_NODE && bitOf (s.routeEntry node) 25

/-- Transaction channels with a node run under the Brynn limits (R242). (DESIGN CHOICE: assumption 22) -/
def State.brynnPath (s : State) (node : Nat) : Bool := bitOf (s.routeEntry node) 26

/-- A capability is in force on a port's link (R211): 0 selective acknowledgement, 1 twin confirmation, 2 in-flight TE; a Brynn link has none (Table LINK-9). -/
def State.capable (s : State) (port c : Nat) : Bool := bitOf (s.get (Reg.OP_STAT_CAPS port)) c && !s.brynn port

/-- An alternate of an entry is usable (R26); a stream bound to a TE queue uses no port without in-flight TE (R211, Table LINK-9). -/
def State.usable (s : State) (e : Nat) (te : Bool) (k : Nat) : Bool :=
  let p := bits e (6 * k) 4
  bitOf e (6 * k + 4) && s.trained p && s.get (Reg.OP_PEER_ROLE p) != 2 && !(te && !s.capable p 2)

/-- The key of a SPREAD binding: destination node and SID (R27). -/
def bindKey (node dsid : Nat) : Nat := node * 2 ^ 21 + dsid

/-- The alternate the policy picks (R27, R28): the egress port and whether it leaves on route lane 1, none where no alternate is usable. Under ORDERED each frame takes the lowest usable alternate, so a stream moves back to a lower one that becomes usable again; R27's last sentence would keep it. (DESIGN CHOICE: assumption 58) -/
def State.pickRoute (s : State) (node dsid : Nat) (te : Bool) : Option (Nat × Bool) × State :=
  let e := s.routeEntry node
  let out := fun k => (bits e (6 * k) 4, bitOf e (6 * k + 5))
  if bitOf e 24 then
    let b := tget 0 s.strm.binds (bindKey node dsid)
    if b ≠ 0 ∧ s.usable e te (b - 1) then (some (out (b - 1)), s)
    else
      let h := Config.spreadHash dsid
      match ([0, 1, 2, 3].map fun i => (h + i) % 4).find? (s.usable e te) with
      | some k => (some (out k), s.onStrm fun m => { m with binds := tset 0 m.binds (bindKey node dsid) (k + 1) })
      | none => (none, s)
  else (([0, 1, 2, 3].find? (s.usable e te)).map out, s)

/-- No usable alternate at the source (R32). -/
def State.noRoute (s : State) (node : Nat) : State :=
  (((s.bump Reg.ROUTE_NOROUTE_COUNT).put Reg.ROUTE_NOROUTE_NODE node).put Reg.ROUTE_NOROUTE_AT_RELAY 0).raiseEvt 10 1

/-- A frame with a slot is presented at a port's transmitter, which is woken (R26, R237, R251). -/
def State.presentSlot (s : State) (port m tc cost : Nat) (home slot : Nat) (rpl : Bool) : State :=
  (s.present (1 + port) m tc cost (.slot home slot rpl)).wakePort port

/-- Does an ACK payload carry a record with selective ranges (R244)? -/
def hasRanges (payload : List Byte) : Bool :=
  (chunks 32 65 payload).any fun r => let b := (r.headD 0).toNat; decide (128 ≤ b) && b / 16 % 8 != 0

/-- The Brynn limits (R244). (DESIGN CHOICE: assumption 22) -/
def frameBrynnOk (f : Frame) : Bool :=
  decide (f.payload.length ≤ 512) && decide (f.seq < 65536) && decide (f.ackSeq < 65536) && !(f.ftype == 4 && hasRanges f.payload)

/-- A frame crosses onto a port: its CRC is computed afresh (R237), and in Brynn mode it takes the header of Table LINK-10 (R244); one cut short ends with the inverse CRC (R200). -/
def State.putOut (s : State) (port : Nat) (f : Frame) : State :=
  if f.cut then s.emit (.stomped port (framed (s.brynn port) f)) else s.emit (.frame port (framed (s.brynn port) f))

/-- A port in Brynn mode does not carry the frame: it is beyond the limits of R19 (R244). (DESIGN CHOICE: assumption 22) -/
def State.brynnBars (s : State) (port : Nat) (f : Frame) : Bool := s.brynn port && !frameBrynnOk f

/-- A frame without a slot leaves at once where its turn has come and its port has the credit, else it waits (R208, R250). (DESIGN CHOICE: assumption 21) -/
def State.sendFree (s : State) (port : Nat) (f : Frame) : State :=
  let pool := poolOf f.tc f.rl
  let c := (s.opAt port).txCr.getD pool 0
  if s.get (Reg.OP_STAT_PSTATE port) = 2 ∧ (s.opAt port).ackQ.isEmpty ∧ (s.opAt port).lctlQ.isEmpty ∧ s.freeTurn port ∧ frameBlocks f ≤ c then
    (s.onOp port fun o => { o with txCr := setAt o.txCr pool (c - frameBlocks f), owed := true }).putOut port f
  else (s.onOp port fun o => { o with ackQ := o.ackQ ++ [f] }).wakePort port

/-! Deliveries and notices to the host. -/

/-- The RELEASE notice of a stream in twin mode, while this chiplet is or was the active (R327, R329, R338). (DESIGN CHOICE: assumption 21) -/
def State.releaseNotice (s : State) (sid seq : Nat) : State :=
  s.cond (s.get Reg.TWIN_STAT_ROLE == 1) (·.deliver (s.ctxAt sid).module (.release sid (s.ctxAt sid).gen seq))

/-! Acknowledgements. -/

/-- An acknowledgement of a RECV stream falls due (R230); a stream with this node itself is acknowledged as it is taken, and nothing of it leaves the chiplet (R25, R225). -/
def State.dueAck (s : State) (sid : Nat) : State :=
  if (s.ctxAt sid).peerNode = s.get Reg.ROUTE_NODE_NODE then s
  else s.onStrm fun m => { m with due := if m.due.contains sid then m.due else m.due ++ [sid] }

/-- Runs of consecutive offsets in a rising list: start and length. -/
def runsOf : List Nat → List (Nat × Nat)
  | [] => []
  | a :: l => match runsOf l with
    | (b, n) :: r => if b = a + 1 then (a, n + 1) :: r else (a, 1) :: (b, n) :: r
    | [] => [(a, 1)]

/-- Selective acknowledgement is in use for a context (R228, R235). -/
def State.selective (s : State) (c : Ctx) : Bool := c.sel && !c.brynn && s.bit Reg.STRM_CFG_ROB_EN

/-- What a due acknowledgement says on a port (R211, R229, R327): the cumulative point, and up to four ranges where the link has selective acknowledgement; while WARM, the confirmed point alone, where the link has twin confirmation. (DESIGN CHOICE: assumption 21) -/
def State.ackOf (s : State) (port sid : Nat) : Nat × List (Nat × Nat) :=
  let c := s.ctxAt sid
  let m := seqMod c.brynn
  if s.warm && !c.brynn && s.capable port 1 then (c.conf, [])
  else (c.seq, if s.selective c && s.capable port 0 then (runsOf (c.held.map fun h => (h.1 + m - c.seq) % m)).take 4 else [])

/-- A context ends: the SID is FREE (R224). -/
def State.freeCtx (s : State) (sid : Nat) : State :=
  (s.onCtx sid fun _ => {}).onStrm fun m => { m with due := m.due.filter (· != sid) }

/-- The end of a WRAP or CLOSING context whose last frame has been released (R224, R227). -/
def State.ctxSettle (s : State) (sid : Nat) : State :=
  let c := s.ctxAt sid
  if c.recv || !c.unack.isEmpty then s
  else if c.state = 2 then
    (s.onCtx sid fun c => { c with state := 1, gen := (c.gen + 1) % 256, seq := 0, acked := 0 }).raiseEvt 9 3
  else if c.state = 3 then s.freeCtx sid
  else s

/-- Is an acknowledgement of a SEND context valid (R231)? -/
def State.ackValid (s : State) (src : Nat) (a : AckRecord) : Bool :=
  let c := s.ctxAt a.sid
  let m := seqMod c.brynn
  let o := match c.live with | u :: _ => u.seq | [] => c.seq
  !c.recv && (c.state == 1 || c.state == 2 || c.state == 3) && c.peerNode == src && decide (a.nr ≤ 4) && decide (a.cum < m) &&
    decide ((a.cum + m - o) % m ≤ (c.seq + m - o) % m)

/-- A frame lies inside one of an acknowledgement's ranges. -/
def inRanges (m cum : Nat) (rs : List (Nat × Nat)) (seq : Nat) : Bool :=
  let d := (seq + m - cum) % m
  rs.any fun r => decide (r.1 ≤ d) && decide (d < r.1 + r.2)

/-- An acknowledgement arrives at the sending end (R231, R327): an invalid one is counted; a valid one releases the frames behind its point and inside its ranges, or, while WARM, marks them until the standby has confirmed. -/
def State.ackTake (s : State) (src : Nat) (a : AckRecord) : State :=
  if !s.ackValid src a then s.bump Reg.STRM_CNT_ACKBAD_COUNT
  else
    let c := s.ctxAt a.sid
    let m := seqMod c.brynn
    if behind m a.cum c.acked then s
    else
      let rel := fun (u : Unacked) => behind m u.seq a.cum || inRanges m a.cum (a.ranges.take a.nr) u.seq
      if s.warm && !c.brynn then
        s.onCtx a.sid fun c => { c with acked := a.cum, unack := c.unack.map fun u => if rel u then { u with ranged := true } else u }
      else
        let t := (s.onCtx a.sid fun c => { c with acked := a.cum, unack := c.unack.filter fun u => !rel u }).freeSlots (c.unack.filter rel)
        (t.cond (a.cum != c.acked) (·.releaseNotice a.sid a.cum)).ctxSettle a.sid

/-- Frames of a SEND context behind a confirmed point are released, with the notice to the host (R327). -/
def State.confirmSend (s : State) (sid seq : Nat) : State :=
  let c := s.ctxAt sid
  let rel := fun (u : Unacked) => u.ranged && behind (seqMod c.brynn) u.seq seq
  if c.unack.any rel then
    (((s.onCtx sid fun c => { c with unack := c.unack.filter fun u => !rel u }).freeSlots (c.unack.filter rel)).releaseNotice sid seq).ctxSettle sid
  else s

/-- Everything that waited for a confirmation of a SEND context goes ahead (R338). -/
def State.releaseAll (s : State) (sid : Nat) : State :=
  let c := s.ctxAt sid
  if c.unack.any (·.ranged) then
    (((s.onCtx sid fun c => { c with unack := c.live }).freeSlots (c.unack.filter (·.ranged))).releaseNotice sid c.acked).ctxSettle sid
  else s

/-! Taking DATA. -/

/-- Blocks of the reorder store in use (R235). -/
def State.robUsed (s : State) : Nat :=
  s.strm.larder.foldl (fun a e => e.2.held.foldl (fun b h => b + h.2.length / 64) a) 0

/-- The queue and feed a RECV stream is bound to (R266); false is FEED0. -/
def State.feedOf (s : State) (sid : Nat) : Option (Nat × Bool) :=
  match (List.range 64).find? fun q => s.bit (Reg.TEG_Q_FEED0_VALID q) && s.get (Reg.TEG_Q_FEED0_SID q) == sid with
  | some q => some (q, false)
  | none => ((List.range 64).find? fun q => s.bit (Reg.TEG_Q_FEED1_VALID q) && s.get (Reg.TEG_Q_FEED1_SID q) == sid).map (·, true)

/-- Bytes in the transit engine's input buffer (R277). -/
def State.teBuffered (s : State) : Nat :=
  s.te.queues.foldl (fun a e => a + e.2.feed0.length + e.2.feed1.length + (e.2.slots.map (·.inline.length)).sum) 0

def State.teqAt (s : State) (q : Nat) : TQueue := tget {} s.te.queues q
def State.onTeq (s : State) (q : Nat) (f : TQueue → TQueue) : State :=
  s.onTe fun e => { e with queues := tset {} e.queues q (f (s.teqAt q)) }

/-- The frame at the receive position of a RECV context is taken: to its queue's input buffer, or to the delivery queue of its module; CUM advances, and the generation at its end (R227, R229, R234). (DESIGN CHOICE: assumption 20) -/
def State.take1 (s : State) (sid : Nat) (payload : List Byte) : State :=
  let c := s.ctxAt sid
  let m := seqMod c.brynn
  let n := (c.seq + 1) % m
  let g := if n = 0 then (c.gen + 1) % 256 else c.gen
  match s.feedOf sid with
  | some (q, b) =>
    (s.onTeq q fun k => if b then { k with feed1 := k.feed1 ++ payload } else { k with feed0 := k.feed0 ++ payload }).onCtx sid fun c =>
      { c with seq := n, gen := g, accepted := n }
  | none => (s.onCtx sid fun c => { c with seq := n, gen := g }).deliver c.module (.stream sid c.seq c.gen payload)

/-- Held frames that follow the receive position are taken in order (R234). -/
def State.takeHeld (s : State) (sid : Nat) : List (Nat × List Byte) → State
  | [] => s
  | (q, p) :: l =>
    if q = (s.ctxAt sid).seq then ((s.onCtx sid fun c => { c with held := l }).take1 sid p).takeHeld sid l else s

/-- A held frame put in its place by offset from CUM. -/
def holdAt (m cum : Nat) (h : Nat × List Byte) : List (Nat × List Byte) → List (Nat × List Byte)
  | [] => [h]
  | a :: l => if (h.1 + m - cum) % m < (a.1 + m - cum) % m then h :: a :: l else a :: holdAt m cum h l

/-- A DATA frame for this node meets its context (R225, R234, R335): whether it was taken or held, and the state. `noTe` says that it came on a link without in-flight TE (R211, Table LINK-9). -/
def State.takeData (s : State) (f : Frame) (noTe : Bool) : Bool × State :=
  let c := s.ctxAt f.dsid
  let m := seqMod c.brynn
  if !c.recv || c.state != 1 || c.peerNode != f.src then (false, s.bump Reg.STRM_CNT_NOSTR_COUNT)
  else if s.held c.module then (false, (s.bump Reg.CFG_HELD_DISC_COUNT).raiseEvt 5 4)
  else if c.resume = 1 then (false, (s.onCtx f.dsid fun c => { c with resume := 2 }).deliver c.module (.resumeRecv f.dsid))
  else if c.resume = 2 then (false, s)
  else
    let d := (f.seq + m - c.seq) % m
    let bound := (s.feedOf f.dsid).isSome
    if bound && noTe then (false, s)
    else if d = 0 then
      if bound && decide (0x400000 < s.teBuffered + f.payload.length) then (false, s)
      else
        let t := s.take1 f.dsid f.payload
        let u := t.takeHeld f.dsid (t.ctxAt f.dsid).held
        (true, u.cond (!(s.warm && !c.brynn)) (·.dueAck f.dsid))
    else if d ≤ 4095 then
      if !s.selective c then (false, s.dueAck f.dsid)
      else if c.held.any (·.1 == f.seq) then (false, (s.bump Reg.STRM_CNT_DUP_COUNT).dueAck f.dsid)
      else if 262144 < s.robUsed + f.payload.length / 64 then (false, s.bump Reg.STRM_CNT_ROB_COUNT)
      else (true, (s.onCtx f.dsid fun c => { c with held := holdAt m c.seq (f.seq, f.payload) c.held }).dueAck f.dsid)
    else if behind m f.seq c.seq then (false, (s.bump Reg.STRM_CNT_DUP_COUNT).dueAck f.dsid)
    else (false, s.bump Reg.STRM_CNT_NOSTR_COUNT)

/-! Sending. -/

/-- How a send ends: the frame has its sequence, the context is not open for sending, or a bound holds the requester. -/
inductive SendEnd where
  | sent | notOpen | stalled
  deriving DecidableEq, Repr

/-- A DATA frame of a stream. -/
def State.dataFrame (s : State) (c : Ctx) (tc rl : Nat) (payload : List Byte) : Frame :=
  { ftype := 0, tc := tc, rl := rl, hop := s.get Reg.ROUTE_CFG_HOP, dst := c.peerNode, src := s.get Reg.ROUTE_NODE_NODE, dsid := c.peerSid,
    seq := c.seq, rpl := false, ackV := false, ackSid := 0, ackSeq := 0, payload := payload }

/-- The context after its frame of sequence `seq` has been sent: at the last of a generation it is in WRAP (R227). -/
def Ctx.sentOne (c : Ctx) (u : Option Unacked) : Ctx :=
  let m := seqMod c.brynn
  { c with seq := (c.seq + 1) % m, state := if c.seq = m - 1 then 2 else c.state, unack := c.unack ++ u.toList }

/-- A send that already waits at the intake for a Pantry slot holds back later ones of its stream (R226, R237). -/
def State.sendHeld (s : State) (sid : Nat) : Bool := (s.point 0).waiting.any fun q => match q.item with | .hold k _ => k == sid | _ => false

/-- A stream's frame takes its sequence and a Pantry slot of its port (R226, R237); the slot. -/
def State.slotFrame (s : State) (sid port : Nat) (dl : Bool) (payload : List Byte) (m tc : Nat) : Nat × State :=
  let c := s.ctxAt sid
  let (slot, t) := s.takeSlot port (s.dataFrame c tc (b2n dl) payload)
  (slot, t.onCtx sid (·.sentOne (some { seq := c.seq, port := port, slot := slot, last := port, master := m, tc := tc })))

/-- The send of a frame on a stream by a master, with the class `given` to it and the ingress blocks it frees (R25, R32, R225, R226, R227, R237, R251): bounds, sequence, Pantry slot and route, and its request at the intake; with no slot free it waits there for one, but output of the transit engine waits in its queue. (DESIGN CHOICE: assumption 20) -/
def State.sendOn (s : State) (sid : Nat) (payload : List Byte) (m given ing : Nat) : SendEnd × State :=
  let c := s.ctxAt sid
  let blocks := payload.length / 64
  if c.recv || (c.state != 1 && c.state != 2) then (.notOpen, s)
  else if c.state = 2 ∨ s.get Reg.STRM_CFG_WIN ≤ c.live.length then (.stalled, s)
  else if c.peerNode = s.get Reg.ROUTE_NODE_NODE then
    let (tc, t) := s.classify m (some given)
    (.sent, (t.onCtx sid (·.sentOne (some { seq := c.seq, port := 16, slot := 4096, last := 16, master := m, tc := tc }))).present 0 m tc blocks
      (.own sid (s.dataFrame c tc 0 payload)) ing)
  else
    match s.pickRoute c.peerNode c.peerSid (m == 24) with
    | (none, u) => (.stalled, u.noRoute c.peerNode)
    | (some (port, dl), u) =>
      if 4096 ≤ (u.opAt port).pantry.length ∨ u.sendHeld sid = true then
        if m = 24 then (.stalled, u)
        else
          let (tc, v) := u.classify m (some given)
          (.sent, v.present 0 m tc blocks (.hold sid payload) ing)
      else
        let (tc, v) := u.classify m (some given)
        let (slot, v) := v.slotFrame sid port dl payload m tc
        (.sent, v.present 0 m tc blocks (.enter port slot) ing)

/-- A frame is replayed over the port the route picks now (R28, R232, R233, R237): a request that already waits there or at the intake stands; elsewhere it moves. (DESIGN CHOICE: assumption 23) -/
def State.replay1 (s : State) (node dsid : Nat) (te : Bool) (u : Unacked) : Option Nat × State :=
  if 4096 ≤ u.slot then (none, s)
  else
    match s.pickRoute node dsid te with
    | (none, t) => (none, t.noRoute node)
    | (some (port, dl), t) =>
      if (t.point (1 + port)).waiting.any (·.ofSlot u.port u.slot) || (t.point 0).waiting.any (·.enters u.port u.slot) then (none, t)
      else
        let t := (t.withdraw (·.ofSlot u.port u.slot)).bump Reg.STRM_CNT_REPLAY_COUNT
        let mark := fun (f : Frame) => { f with rpl := true, rl := b2n dl }
        let t := t.onOp u.port fun o => { o with pantry := tset none o.pantry u.slot ((tget none o.pantry u.slot).map mark) }
        let cost := match tget none (t.opAt u.port).pantry u.slot with | some f => frameBlocks f | none => 0
        (some port, t.presentSlot port u.master u.tc cost u.port u.slot true)

/-- Every frame of a list is replayed in order; each entry as it then stands. -/
def State.replayAll (s : State) (node dsid : Nat) (te : Bool) : List Unacked → List Unacked × State
  | [] => ([], s)
  | u :: us =>
    if u.ranged then let (l, t) := s.replayAll node dsid te us; (u :: l, t)
    else
      let (p, t) := s.replay1 node dsid te u
      let (l, v) := t.replayAll node dsid te us
      ((match p with | some port => { u with last := port, replays := u.replays + 1 } | none => u) :: l, v)

/-! Transaction channels. -/

/-- The outgoing channel to a node, and the incoming one (R239). -/
def State.chanAt (s : State) (k : Nat) : Chan := tget {} s.strm.chans k
def State.onChan (s : State) (k : Nat) (f : Chan → Chan) : State :=
  s.onStrm fun m => { m with chans := tset {} m.chans k (f (s.chanAt k)) }

/-- Both channels of a node go back to sequence 0; their frames' slots are released (R38, R239, R336). -/
def State.resetChans (s : State) (node : Nat) : State :=
  ((s.freeSlots (s.chanAt (2 * node)).unack).onChan (2 * node) fun _ => {}).onChan (2 * node + 1) fun _ => {}

/-- Does a channel's window hold another frame (R226, R239)? -/
def State.chanRoom (s : State) (node : Nat) : Bool := decide ((s.chanAt (2 * node)).unack.length < s.get Reg.STRM_CFG_WIN)

/-- A frame without a stream: a TXN or an ACK frame (R201, R240). -/
def State.txnFrame (s : State) (node ftype tc rl seq : Nat) (payload : List Byte) : Frame :=
  { ftype := ftype, tc := tc, rl := rl, hop := s.get Reg.ROUTE_CFG_HOP, dst := node, src := s.get Reg.ROUTE_NODE_NODE,
    dsid := 0, seq := seq, rpl := false, ackV := false, ackSid := 0, ackSeq := 0, payload := payload }

/-- A sequenced TXN frame of a master is sent on the outgoing channel to a node, with the class its window gives and the ingress blocks it frees (R237, R239, R248, R251); false where a bound holds it. -/
def State.sendTxn (s : State) (node ftype m : Nat) (given : Option Nat) (ing : Nat) (payload : List Byte) : Bool × State :=
  let ch := s.chanAt (2 * node)
  if !s.chanRoom node then (false, s)
  else
    match s.pickRoute node 0 false with
    | (none, u) => (false, u.noRoute node)
    | (some (port, dl), u) =>
      if 4096 ≤ (u.opAt port).pantry.length then (false, u)
      else
        let (tc, u) := u.classify m given
        let f := s.txnFrame node ftype tc (b2n dl) ch.seq payload
        let (slot, v) := (u.chanNote node).takeSlot port f
        (true, (v.onChan (2 * node) fun c => { c with
            seq := (c.seq + 1) % seqMod (s.brynnPath node),
            unack := c.unack ++ [{ seq := c.seq, port := port, slot := slot, last := port, master := m, tc := tc }] }).present
          0 m tc (payload.length / 64) (.enter port slot) ing)

/-- A frame that takes no slot is routed and sent (R201, R240, R336); nothing where no alternate is usable. -/
def State.sendLoose (s : State) (node ftype : Nat) (payload : List Byte) : State :=
  match s.pickRoute node 0 false with
  | (none, u) => u
  | (some (port, dl), u) =>
    u.sendFree port (s.txnFrame node ftype 0 (b2n dl) 0 payload)

/-- The watermark of the tag table, in units of 16 tags. -/
def tagWm : Wm :=
  ⟨Reg.STRM_TAG_THR_LO, Reg.STRM_TAG_THR_HI, Reg.STRM_TAG_WM_LVL, Reg.STRM_TAG_WM_UP, Reg.STRM_TAG_WM_DN, Reg.STRM_TAG_WM_DN_EN,
    Reg.STRM_TAG_WM_CROSS, 9, 4, 5⟩

/-- STRM_TAGS.OUT follows the tag table, and its mark is judged. -/
def State.tagGauge (s : State) : State :=
  (s.put Reg.STRM_TAGS_OUT s.strm.tags.length).judge tagWm (s.strm.tags.length / 16)

/-- A transaction completes to its requester and its tag returns (R241). -/
def State.tagEnd (s : State) (tag status : Nat) (data : List Byte) : State :=
  match tget none s.strm.tags tag with
  | some r => ((s.onStrm fun m => { m with tags := tset none m.tags tag none }).deliver r.master (.cpl tag status data)).tagGauge
  | none => s

/-- Every transaction outstanding to a node completes with a local status (R38, R336). -/
def State.tagsTo (s : State) (node status : Nat) : State :=
  s.forAll (s.strm.tags.filter fun e => match e.2 with | some r => r.node == node | none => false) fun e t => t.tagEnd e.1 status []

/-! The fence. -/

/-- A context's stream is orphaned (R38, R223, R247): its frames are released. (DESIGN CHOICE: assumption 23) -/
def State.orphan (s : State) (sid : Nat) (cause : Bool) : State :=
  let c := s.ctxAt sid
  if c.state = 3 ∧ cause = false then s.freeCtx sid
  else ((s.onCtx sid fun c => { c with state := 4, cause := cause, unack := [], held := [] }).onStrm fun m =>
    { m with due := m.due.filter (· != sid) }).raiseEvt 9 1

/-- A fence takes effect (R38, R39): streams with the node are orphaned, its transactions complete FENCED, its Pantry slots are released and its channels reset. (DESIGN CHOICE: assumption 23) -/
def State.fenceNode (s : State) (node : Nat) : State :=
  if node = s.get Reg.ROUTE_NODE_NODE then s
  else
    let sids := (s.strm.larder.filter fun e => e.2.peerNode == node && e.2.state != 0 && e.2.state != 4).map (·.1)
    let us := (sids.map fun sid => (s.ctxAt sid).unack).flatten ++ (s.chanAt (2 * node)).unack
    let t := s.freeCounted us
    let t := t.forAll sids fun sid u => u.orphan sid false
    ((t.tagsTo node 3).resetChans node).onStrm fun m => { m with resetOwed := m.resetOwed.filter (· != node) }

end Sys2Proof.Machine
end

