-- ==== Sys2Proof/Machine/HostPort.lean ====
section
/-! DEFINITION. The host ports: PLLs, training, repair, the credit handshake, transfers, heat hints, link power, loop-backs and urgency wires (R136 to R163). -/

namespace Sys2Proof.Machine

/-! PLLs, sidebands and training. -/

/-- HOST_PLL_LOSS (R140, R143, R152): a link reset where the module ran; a UCIe module stands in TRAIN until the relock, a Wide port in SB. -/
def execHostPllLoss (n : HpId) (s : State) : Result :=
  if !s.keep.domainsOn then .next s
  else
    let t := (s.put Reg.CLK_HOST_LOCK (clrBitOf (s.get Reg.CLK_HOST_LOCK) n)).raiseEvt (16 + n) 4
    let st := t.hpState n
    .next (t.cond (st == 3 || st == 4 || st == 5 || st == 6) fun u =>
      ((u.hpResetLive n).onHp (u.hpBase n) fun h => { h with wideLock := false }).hpGo n (if u.bit (Reg.HP_STAT_WIDE n) then 2 else 3))

/-- HOST_PLL_LOCK (R140, R152): a port that waits for its PLLs trains. -/
def execHostPllLock (n : HpId) (s : State) : Result :=
  if !s.keep.domainsOn then .next s
  else
    let t := s.put Reg.CLK_HOST_LOCK (setBitOf (s.get Reg.CLK_HOST_LOCK) n)
    .next (t.cond (t.hpState n == 2) (·.hpSettle n))

/-- SIDEBAND_TRAINED (R141): the sideband is up; HP0's from MGMT. The module passes to SB, or trains where it is released. (DESIGN CHOICE: assumption 24) -/
def execSidebandTrained (n : HpId) (s : State) : Result :=
  if !s.keep.mgmtOn || (n.val != 0 && !s.keep.domainsOn) then .next s
  else
    let t := s.onHp n fun h => { h with sbUp := true, x40 := false }
    .next (t.cond (t.hpState n == 0 || t.hpState n == 1 || t.hpState n == 2) (·.hpSettle n))

/-- X40_CAP (R139, R141): the partner can train at 40 GT/s; HP0's sideband runs from MGMT. -/
def execX40Cap (n : HpId) (s : State) : Result :=
  .next (s.cond (s.keep.mgmtOn && (n.val == 0 || s.keep.domainsOn)) fun t => t.onHp n fun h => { h with x40 := true })

/-- Table HP-1: whether a module has an item of UCIe. -/
def ucieHas : UcieFeature → Bool
  | .speedDegrade => true | .laneRepair => true | .sideband => true | .rawFormat => true | .streaming => true | .l1 => true
  | .rate4 => false | .rate12 => false | .widthDegrade => false | .flitFormat => false | .adapterCrc => false | .adapterRetry => false
  | .pcie => false | .cxl => false | .standardPackage => false | .retimer => false | .l2 => false

/-- A rate in GT/s, by its code in MAX_RATE. -/
def rateOf : Nat → Nat
  | 1 => 8 | 2 => 16 | 3 => 24 | 4 => 32 | _ => 40

/-- The rates both ends have within MAX_RATE, highest first, coded as MAX_RATE (R139): 40 GT/s needs MAX_RATE 40, a partner that advertises 32 GT/s, and its X40_CAP; a partner at 12 GT/s has 8. -/
def State.commonRates (s : State) (n : Nat) (p : PartnerCaps) : List Nat :=
  [5, 4, 3, 2, 1].filter fun c => decide (c ≤ s.get (Reg.HP_CFG_MAX_RATE n)) &&
    (match c with
     | 5 => (s.hpAt n).x40 && decide (32 ∈ p.rates)
     | 1 => decide (8 ∈ p.rates) || decide (12 ∈ p.rates)
     | c => decide (rateOf c ∈ p.rates))

/-- The rate a module trains at: the highest common one, degraded to the next where the main band fails to train at it (R136, R139). -/
def State.trainRate (s : State) (n : Nat) (p : PartnerCaps) : Option Nat := (s.commonRates n p).find? fun c => !p.fails.contains (rateOf c)

/-- TRAINED (R136, R139, R141, R153): features the partner asks for are answered, the rate is the highest that trains, and CR_WAIT is entered under a new epoch; without a common rate the attempt fails with RATE, and with none that trains, with a cause the spec does not give. (DESIGN CHOICE: assumption 24) -/
def execTrained (n : HpId) (partner : PartnerCaps) (s : State) : Result :=
  if s.hpState n != 3 || s.bit (Reg.HP_STAT_WIDE n) || !s.hpLocked n || s.keep.inTrap then .next s
  else
    let t := s.cond (!partner.asks.isEmpty) (·.emit (.paramAnswer n (partner.asks.map fun f => (f, ucieHas f))))
    let cs := t.commonRates n partner
    match t.trainRate n partner with
    | none => .next (if cs.isEmpty then t.hpTrainFail n 1 else t.takeFree.2.hpTrainFail n (t.takeFree.1.toNat % 8))
    | some r => .next ((((t.put (Reg.HP_STAT_RATE n) r).putB (Reg.HP_STAT_X40_FAIL n) (cs.contains 5 && r != 5)).raiseEvt (16 + n) 0).crWait n)

/-- TRAIN_FAIL (R144): the cause is recorded; the module tries again or stays in ERROR. -/
def execTrainFail (n : HpId) (cause : HpCause) (s : State) : Result :=
  .next (s.cond (s.hpState n == 3) (·.hpTrainFail n cause))

/-- RETRAIN (R143): a retrain of a module that runs is a link reset. -/
def execRetrain (n : HpId) (s : State) : Result :=
  .next (s.cond (s.hpState n == 4 || s.hpState n == 5 || s.hpState n == 6) fun t => (t.hpLinkReset n).hpTrain n)

/-- REPAIR (R143, R145): a lane is remapped, which after ACTIVE is a link reset; more failing lanes than repair covers end training with LANES. -/
def execRepair (n : HpId) (dir : Dir) (lane : Nat) (covered : Bool) (s : State) : Result :=
  if s.bit (Reg.HP_STAT_WIDE n) || !(s.hpState n == 3 || s.hpState n == 4 || s.hpState n == 5 || s.hpState n == 6) then .next s
  else
    let t := (s.hpResetLive n).hpTrain n
    .next (if covered then
        ((t.bump (match dir with | .tx => Reg.HP_REPAIR_TX_CNT n | .rx => Reg.HP_REPAIR_RX_CNT n)).put (Reg.HP_REPAIR_LAST_LANE n) lane).putB
          (Reg.HP_REPAIR_LAST_DIR n) (dir == .rx) |>.raiseEvt (16 + n) 3
      else t.hpTrainFail n 2)

/-! Wide ports. -/

/-- WIDE_DESKEW (R151, R152): every lane locks and Isax ends its own pattern, or the failing lanes are recorded and the attempt ends with WIDE_LANE. -/
def execWideDeskew (k : WideId) (failing : List Nat) (s : State) : Result :=
  let n := 2 * k.val
  if !s.bit (Reg.HP_STAT_WIDE n) || s.hpState n != 3 then .next s
  else if failing = [] then .next ((s.onHp n fun h => { h with wideLock := true }).emit (.wideIdle n))
  else .next (((s.put (Reg.HP_WIDE_FAIL_CNT n) failing.length).put (Reg.HP_WIDE_FIRST n) (failing.foldl min 255)).hpTrainFail n 5)

/-- WIDE_PATTERN_END (R152, R153): both patterns have ended; the port enters CR_WAIT. -/
def execWidePatternEnd (k : WideId) (s : State) : Result :=
  let n := 2 * k.val
  if !s.bit (Reg.HP_STAT_WIDE n) || s.hpState n != 3 || !(s.hpAt n).wideLock then .next s
  else .next (((s.forAll [n, n + 1] fun m t => t.put (Reg.HP_STAT_RATE m) (s.get (Reg.HP_WIDE_RATE n))).raiseEvt (16 + n) 0).crWait n)

/-- WIDE_TRAIN_TIMEOUT (R152): the host still drives its pattern; the attempt ends with TIMEOUT. -/
def execWideTrainTimeout (k : WideId) (s : State) : Result :=
  let n := 2 * k.val
  .next (s.cond (s.bit (Reg.HP_STAT_WIDE n) && s.hpState n == 3 && (s.hpAt n).wideLock) (·.hpTrainFail n 3))

/-! Credits and transfers. -/

/-- CR_INIT_ACK (R141, R153, R156): with the current epoch the grant is taken, and the module is ACTIVE once the gates are open; a stale epoch is counted. -/
def execCrInitAck (n : HpId) (payload : Word) (s : State) : Result :=
  let v := payload.toNat
  if s.hpIdle n || !s.keep.domainsOn then .next s
  else if bits v 16 4 ≠ s.get (Reg.HP_STAT_EPOCH n) then .next (s.bump (Reg.HP_SB_UNK n))
  else if s.hpState n == 4 && (s.hpAt n).crSent && !(s.hpAt n).crAcked then
    .next (((s.onHp n fun h => { h with egr := bits v 0 16, crAcked := true }).put (Reg.HP_CR_AUDIT2_EGR n) (bits v 0 16)).cond s.gates (·.hpGo n 5))
  else .next s

/-- HOST_INGRESS_TRANSFER (R137, R143, R154, R155, R162): beats of a transfer arrive against ingress credit and pass to the fabric; a complete transfer keeps its blocks until a primitive of its module takes it into CORE. A transfer sent without credit is discarded whole. With the gates closed no new transfer is taken. (DESIGN CHOICE: assumption 24) -/
def execHostIngressTransfer (n : HpId) (xfer : Nat) (beats : List Byte) (complete : Bool) (s : State) : Result :=
  let b := beats.length / 64
  let known := (s.hpAt n).parts.lookup xfer
  let rest := (s.hpAt n).parts.filter fun e => e.1 != xfer
  if s.hpState n != 5 || s.hpIdle n || b == 0 || (known.isNone && (!s.gates || s.frozen)) then .next s
  else if s.get (Reg.HP_CR_ING_GRANTED n) < b then
    .next (((s.onHp n fun h => { h with parts := if complete then rest else rest ++ [(xfer, none)] }).cond (known.isSome && known != some none)
      (·.freeIngress n ((known.getD none).getD 0))).raiseErr (16 + n) 8 { master := n, acc := 5 })
  else if known = some none then .next (s.onHp n fun h => { h with parts := if complete then rest else h.parts })
  else
    let t := ((s.put (Reg.HP_CR_ING_GRANTED n) (s.get (Reg.HP_CR_ING_GRANTED n) - b)).setOcc n (s.get (Reg.HP_CR_ING_OCC n) + b)).emit (.beats n beats)
    let whole := (known.getD none).getD 0 + b
    let t := t.onHp n fun h => { h with parts := if complete then rest else rest ++ [(xfer, some whole)] }
    .next (if !complete then t
      else if t.get (Reg.HP_LB_MODE n) = 2 then (t.deliver n (.looped whole)).freeIngress n whole
      else t.onHp n fun h => { h with whole := h.whole ++ [whole] })

/-- HOST_CREDIT_RETURN (R153, R155): egress credits return; an excess over the grant is clamped and is an error. After a grant of 0 the returns themselves are the credits. (DESIGN CHOICE: assumption 24) -/
def execHostCreditReturn (n : HpId) (blocks : Nat) (s : State) : Result :=
  if s.hpState n != 5 || s.hpIdle n then .next s
  else
    let e := (s.hpAt n).egr + blocks
    let g := s.get (Reg.HP_CR_AUDIT2_EGR n)
    let t := s.onHp n fun h => { h with egr := if g = 0 then e else min e g }
    .next (t.cond (decide (0 < g) && decide (g < e)) (·.raiseErr (16 + n) 8 { master := n, acc := 5 }))

/-- Blocks of egress credit a delivery takes: its payload's, and one where it has none. (DESIGN CHOICE: assumption 24) -/
def Delivery.blocks : Delivery → Nat
  | .stream _ _ _ p => max 1 (p.length / 64)
  | .cpl _ _ d => max 1 ((d.length + 63) / 64)
  | .engine _ p => max 1 ((p.length + 63) / 64)
  | .looped b => b
  | .returned (.streamSend _ p) => max 1 (p.length / 64)
  | .returned (.transaction t) => max 1 ((t.data.length + 63) / 64)
  | .returned (.completion c) => max 1 ((c.data.length + 63) / 64)
  | _ => 1

/-- A RECV stream's host-accepted point advances with a delivery its host has accepted (R323). -/
def State.hostAccepts (s : State) : Delivery → State
  | .stream sid seq _ _ =>
    let c := s.ctxAt sid
    if c.recv && c.state == 1 then s.onCtx sid fun c => { c with accepted := (seq + 1) % seqMod c.brynn } else s
  | _ => s

/-- HOST_DELIVERY (R155): the oldest waiting delivery goes to the host, once the module is ACTIVE and has the egress credit; none goes while traffic is frozen (Table FAULT-3). -/
def execHostDelivery (n : HpId) (s : State) : Result :=
  match (s.hpAt n).deliveries with
  | [] => .next s
  | d :: ds =>
    if s.hpState n != 5 || s.hpIdle n || s.frozen || decide ((s.hpAt n).egr < d.blocks) then .next s
    else .next (((s.onHp n fun h => { h with deliveries := ds, egr := h.egr - d.blocks }).emit (.delivered n d)).hostAccepts d)

/-! Heat hints and vendor messages. -/

/-- HEAT_HINT (R148, R149): accepted as a pending hint, applied at once where its lead is 0, or dropped and counted; ignored in the Trapdoor (Table FAULT-3). Its step is put into watts with the UNIT in force when it is accepted. (DESIGN CHOICE: assumption 55) -/
def execHeatHint (n : HpId) (payload : Word) (s : State) : Result :=
  let v := payload.toNat
  if !(s.hpState n == 4 || s.hpState n == 5 || s.hpState n == 6) || !s.bit (Reg.HP_HINT_EN n) || s.hpIdle n || s.held n || !(s.hpAt n).sbUp || s.keep.inTrap then .next s
  else if bits v 6 2 ≠ 0 then .next (s.bump (Reg.HP_HINT_DROP n))
  else
    let step := signed6 v * (2 ^ s.get (Reg.HP_HINT_UNIT n) : Nat)
    if bits v 8 8 = 0 then .next ((s.put (Reg.HP_HINT_LAST_MSG n) (bits v 0 20)).applyStep step)
    else if 4 ≤ (s.hpAt n).hints.length then .next ((s.bump (Reg.HP_HINT_DROP n)).raiseEvt (16 + n) 7)
    else
      .next (((s.put (Reg.HP_HINT_LAST_MSG n) (bits v 0 20)).onHp n fun h =>
        { h with hints := h.hints ++ [⟨s.now + 100 * bits v 8 8, step⟩] }).hintGauge n)

/-- HINT_DUE (R149): the hint that falls due first is applied. A pending hint outlasts a link reset, a hold and EN = 0, and its step is applied in whatever state the module then is. (DESIGN CHOICE: assumption 55) -/
def execHintDue (n : HpId) (s : State) : Result :=
  match leastBy Hint.due (s.hpAt n).hints with
  | none => .next s
  | some h => .next (((s.onHp n fun p => { p with hints := p.hints.erase h }).hintGauge n).applyStep h.step)

/-- UNKNOWN_VENDOR_MESSAGE (R146): discarded and counted. -/
def execUnknownVendorMessage (n : HpId) (s : State) : Result := .next (s.cond (s.hpAt n).sbUp (·.bump (Reg.HP_SB_UNK n)))

/-! Link power states. -/

/-- L1_REQUEST (R142): Isax asks for L1. -/
def execL1Request (n : HpId) (s : State) : Result :=
  .next (s.cond (s.hpState n == 5 && s.bit (Reg.HP_CFG_L1_EN n) && !s.bit (Reg.HP_STAT_WIDE n) && (s.hpAt n).deliveries.isEmpty) fun t =>
    (t.onHp n fun h => { h with l1Req := true }).emit (.l1Request n))

/-- L1_ENTRY (R142): the module rests; credits and data are kept; with a delivery waiting it asks to leave at once. -/
def execL1Entry (n : HpId) (s : State) : Result :=
  .next (s.cond (s.hpState n == 5 && !s.bit (Reg.HP_STAT_WIDE n)) fun t =>
    ((t.onHp n fun h => { h with l1Req := false }).hpGo n 6).cond (!(s.hpAt n).deliveries.isEmpty) (·.emit (.l1Leave n)))

/-- L1_EXIT (R142). -/
def execL1Exit (n : HpId) (s : State) : Result := .next (s.cond (s.hpState n == 6) (·.hpGo n 5))

/-- L2_REQUEST (R136): refused; the module stays as it is. -/
def execL2Request (n : HpId) (s : State) : Result := .next (s.cond (s.hpAt n).sbUp (·.emit (.l2Refused n)))

/-! Register writes. -/

/-- The write of HP_CFG (R143): a change of EN is a link reset; MAX_RATE is locked by CTL.LOCK. -/
def State.hpCfgWrite (s : State) (n v : Nat) : State :=
  let en := s.get (Reg.HP_CFG_EN n)
  let t := ((s.put (Reg.HP_CFG_EN n) (bits v 0 1)).put (Reg.HP_CFG_L1_EN n) (bits v 4 1)).put (Reg.HP_CFG_RETRY n) (bits v 5 1)
  let t := if s.bit (Reg.LOCK (16 + n)) then t else t.put (Reg.HP_CFG_MAX_RATE n) (bits v 1 3)
  if bits v 0 1 = en then t else (t.hpLinkReset n).hpSettle n

/-- The write of HP_LB (R143, R162, R163): a change of MODE is a link reset; FABRIC leaves the trained link up and restarts the handshake; on leaving PATTERN the counters keep what they came to. (DESIGN CHOICE: assumptions 24, 54) -/
def State.hpLbWrite (s : State) (n v : Nat) : State :=
  let old := s.get (Reg.HP_LB_MODE n)
  let st := s.hpState n
  let s := if old = 3 ∧ bits v 0 2 ≠ 3 then
      { s with fresh := s.fresh + s.lbLanes n }.onHp n fun h => { h with lbErr := lbCounted h.lbErr (s.lbLanes n) s.fresh }
    else s
  let t := (s.put (Reg.HP_LB_MODE n) (bits v 0 2)).put (Reg.HP_LB_LANE n) (bits v 8 8)
  if bits v 0 2 = old then t
  else if bits v 0 2 = 2 ∧ (st = 4 ∨ st = 5 ∨ st = 6) then (t.hpLinkReset n).crWait (t.hpBase n)
  else (t.hpLinkReset n).hpSettle n

/-- The write of HP_WIDE (R150): a change of RATE on the even page is a link reset of the Wide port; odd pages have no field. -/
def State.hpWideWrite (s : State) (n v : Nat) : State :=
  if n % 2 = 1 then s
  else
    let old := s.get (Reg.HP_WIDE_RATE n)
    let t := s.put (Reg.HP_WIDE_RATE n) (bits v 0 2)
    if bits v 0 2 ≠ old ∧ t.bit (Reg.HP_STAT_WIDE n) then (t.hpLinkReset n).hpSettle n else t

/-- The write of HP_URG (R160, R161): STUCK_LIM within its range; 1 to MASK unmasks the wire, which is taken again once inactive for 10 µs. -/
def State.hpUrgWrite (s : State) (n v : Nat) : State :=
  let t := s.put (Reg.HP_URG_STUCK_LIM n) (min 1000000 (max 10 (bits v 0 20)))
  if bitOf v 25 && t.bit (Reg.HP_URG_MASK n) then (t.put (Reg.HP_URG_MASK n) 0).onHp n fun h => { h with urgWait := true } else t

/-! Urgency wires. -/

/-- The wire's filtered edge in the storm window that makes 1001: it is masked (R161). -/
def State.urgStorm (s : State) (n : Nat) : State :=
  if s.bit (Reg.HP_URG_MASK n) then s
  else (((s.put (Reg.HP_URG_MASK n) 1).bump (Reg.HP_URG_CNT_STORM n)).raiseEvt (16 + n) 6).onHp n fun h => { h with urg := false }

/-- A filtered edge to a level, counted where the wire is seen (R66, R161). -/
def State.urgLevel (s : State) (n : Nat) (level : Bool) : State :=
  s.onHp n fun h => { h with level := level, urgEdges := h.urgEdges + b2n (s.urgSeen n) }

/-- URG_EDGE (R159, R161, R256): the wire changes; from DARK upward it is taken unless it is held, masked, stuck, waiting, or the odd wire of a Wide pair. The 1001st edge in a window is a storm, and that edge is not acted on (R66). -/
def execUrgEdge (n : HpId) (level : Bool) (s : State) : Result :=
  if !s.coreClocked then .next s
  else
    let t := s.urgLevel n level
    .next (if !s.urgSeen n then t
      else if (t.hpAt n).urgEdges = 1001 ∧ t.bit (Reg.HP_URG_MASK n) = false then t.urgStorm n
      else t.urgTake n)

/-- URG_STORM (R161): the 1001st filtered edge of a window masks the wire. -/
def execUrgStorm (n : HpId) (s : State) : Result :=
  .next (s.cond (s.coreClocked && s.urgSeen n && (s.hpAt n).urgEdges == 1000) fun t => (t.urgLevel n (!(t.hpAt n).level)).urgStorm n)

/-- URG_STUCK (R160): a wire taken as active for STUCK_LIM is taken as inactive. -/
def execUrgStuck (n : HpId) (s : State) : Result :=
  .next (s.cond ((s.hpAt n).urg && s.urgIn n) fun t =>
    (((t.put (Reg.HP_URG_STUCK n) 1).bump (Reg.HP_URG_CNT_STUCK n)).raiseEvt (16 + n) 5).onHp n fun h => { h with urg := false })

/-- URG_INACTIVE (R160, R161): an unmasked wire that has been inactive for 10 µs is taken again. -/
def execUrgInactive (n : HpId) (s : State) : Result :=
  .next (s.cond (s.urgSeen n && !(s.hpAt n).level && !s.bit (Reg.HP_URG_MASK n)) fun t =>
    (t.put (Reg.HP_URG_STUCK n) 0).onHp n fun h => { h with urgWait := false })

end Sys2Proof.Machine
end

