-- ==== Sys2Proof/Machine/Cellar.lean ====
section
/-! DEFINITION. Cellar requests of the fabric, refresh and levelling (R302 to R314). -/

namespace Sys2Proof.Machine

/-- The Cellar works: mounted, and its PLL locked (R298, Table CLK-2). -/
def State.cellWorks (s : State) : Bool := s.bit Reg.CELL_STAT_MOUNTED && bitOf (s.get Reg.CLK_STAT_LOCK) 3

/-- The bytes of a range that lies in one page; those of a lost page are free values (R304). (DESIGN CHOICE: assumptions 3, 40) -/
def State.cellBytes (s : State) (addr len : Nat) : List Byte × State :=
  if s.nv.lost.contains (pageOf addr) then
    ((List.range len).map (fun i => (Config.freeWord (8 * (s.fresh + i))).setWidth 8), { s with fresh := s.fresh + len })
  else (s.nv.read addr len, s)

/-- A Cellar request stays inside USER and inside a page (R313). -/
def cellRange (off len : Nat) : Bool :=
  off % 64 == 0 && len % 64 == 0 && decide (64 ≤ len) && decide (off % 4096 + len ≤ 4096) && decide (off + len ≤ cellEnd - userBase)

/-- A partition may issue Cellar requests: released, with the gates open, and the Cellar working. -/
def State.cellOpen (s : State) (part : Nat) : Bool := s.cellWorks && s.gates && !s.frozen && !s.held part

/-- The master a partition's write data is charged to (R314): that of its host port; the Cellar's own for P24, which has none. (DESIGN CHOICE: assumption 40) -/
def partMaster (part : Nat) : Nat := if part < 24 then part else 27

/-- A READ is served (R302, R313): data, or a status. (DESIGN CHOICE: assumption 40) -/
def State.cellRead (s : State) (part off len tag : Nat) (env : CellEnv) : State :=
  let page := pageOf (userBase + off)
  if !cellRange off len then s.emit (.cellar part tag 1 [])
  else if !bitOf (s.get Reg.CELL_USER_EN_PART) part then s.emit (.cellar part tag 2 [])
  else if s.nv.tornUser.contains page then s.emit (.cellar part tag 5 [])
  else
    let t := s.cellCorr env.corrected
    if page ∈ env.ue then (t.cellUe page (partMaster part)).emit (.cellar part tag 4 [])
    else
      let (d, u) := t.cellBytes (userBase + off) len
      (u.charge 27 none (blocksOf len)).emit (.cellar part tag 0 d)

/-- A WRITE is served (R300, R303, R304, R311, R313): one page program; a short write is merged with the page. One that is cut off leaves its intent open and is not answered. (DESIGN CHOICE: assumption 40) -/
def State.cellWrite (s : State) (part off tag : Nat) (bytes : List Byte) (env : CellEnv) : State :=
  let page := pageOf (userBase + off)
  let short := decide (bytes.length < 4096)
  if !cellRange off bytes.length then s.emit (.cellar part tag 1 [])
  else if !bitOf (s.get Reg.CELL_USER_EN_PART) part || s.bit Reg.CELL_CFG_USER_WP then s.emit (.cellar part tag 2 [])
  else
    let t := s.charge (partMaster part) none (blocksOf bytes.length)
    if !t.bit Reg.CELL_STAT_WIN then (t.bump Reg.CELL_CNT_TEMP_REF).emit (.cellar part tag 3 [])
    else if short && t.nv.tornUser.contains page then t.emit (.cellar part tag 5 [])
    else
      let t := t.cellCorr env.corrected
      if short && decide (page ∈ env.ue) then (t.cellUe page (partMaster part) 4).emit (.cellar part tag 4 [])
      else
        let (old, t) := if short && t.nv.lost.contains page then t.cellBytes (page * 4096) 4096 else ([], t)
        let r := (t.cond env.cut fun u => u.onNv fun v => v.intend [page]).programPages env [page]
        if r.code = 7 then r.st.emit (.cellar part tag 3 [])
        else if r.code = 8 then r.st.emit (.cellar part tag 6 [])
        else
          let u := r.st.onNv fun v => (v.write (page * 4096) old).write (userBase + off) bytes
          if env.cut then u else u.emit (.cellar part tag 0 [])

/-- A request is served. -/
def State.cellServe (s : State) : CellReq → State
  | .read part off len tag env => s.cellRead part off len tag env
  | .write part off tag bytes env => s.cellWrite part off tag bytes env

/-- The partition and the offset of a request. -/
def CellReq.part : CellReq → Nat
  | .read p _ _ _ _ => p
  | .write p _ _ _ _ => p
def CellReq.off : CellReq → Nat
  | .read _ o _ _ _ => o
  | .write _ o _ _ _ => o

/-- The extent of a request is under the levelling move (R306): the logical extent that moves, or the one it changes places with. (DESIGN CHOICE: assumption 41) -/
def State.cellLocked (s : State) (off : Nat) : Bool :=
  match s.mgmt.wl with
  | some (_, hi, lo) => s.nv.extentOf (pageOf (userBase + off)) ∈ [hi, lo]
  | none => false

/-- A request arrives (R306, R313): one to an extent under a move waits for it; a partition with 64 outstanding gets no request credit. -/
def State.cellRequest (s : State) (r : CellReq) : State :=
  if !s.cellOpen r.part then s
  else if !s.cellLocked r.off then s.cellServe r
  else if 64 ≤ (s.mgmt.cellWait.filter fun x => x.part == r.part).length then s
  else s.onMgmt fun m => { m with cellWait := m.cellWait ++ [r] }

/-- CELLAR_READ (R313). (DESIGN CHOICE: assumption 40) -/
def execCellarRead (part : PartId) (off len tag : Nat) (env : CellEnv) (s : State) : Result := .next (s.cellRequest (.read part off len tag env))

/-- CELLAR_WRITE (R313). (DESIGN CHOICE: assumption 40) -/
def execCellarWrite (part : PartId) (off tag : Nat) (bytes : List Byte) (env : CellEnv) (s : State) : Result :=
  .next (s.cellRequest (.write part off tag bytes env))

/-! Refresh. -/

/-- Pages that a visit may rewrite: those of the visited extent, but in the Attic only those of FULL and PARTIAL slots (R308). (DESIGN CHOICE: assumption 41) -/
def State.refreshable (s : State) (ext page : Nat) : Bool :=
  s.nv.extentOf page == ext && (!inAttic page || tget AtticState.free s.nv.attic (atticSlotOf page) ∈ [.full, .part])

/-- A refresh or levelling read that is uncorrectable (Table CELL-3): a USER page is marked TORN; the directory entry of a Loft slot is invalidated, and so is the running signature set; of a copy the other is used. (DESIGN CHOICE: assumption 41) -/
def State.refreshUe (s : State) (page : Nat) : State :=
  let t := s.cellUe page
  if inUser page then t.onNv fun v => { v with tornUser := page :: v.tornUser.filter (· != page) }
  else if inAttic page then t
  else if page < pageOf calBase then
    match loftOf page with
    | some o => t.onNv fun v => { v with loft := tset {} v.loft o { tget {} v.loft o with committed := false } }
    | none => t
  else if page ∈ goldPages t.nv.goldSet then t.onMgmt fun m => { m with goldOk := 0 }
  else t.onNv fun v => v.dropCopy page

/-- The extents of a list of pages. -/
def Nv.extents (v : Nv) (pages : List Nat) : List Nat := (pages.map v.extentOf).eraseDups

/-- The pass goes on to the next extent (R308): with the last one, it ends. -/
def State.refreshOn (s : State) (ext : Nat) : State :=
  (s.put Reg.CELL_REFR_EXTENT ((ext + 1) % 65536)).cond (ext == 65535) fun w =>
    (w.onMgmt fun m => { m with firstPass := false }).put Reg.CELL_STAT_REFR_BEHIND 0

/-- REFRESH_VISIT (R308, R309): pages whose worst codeword shows at least REFR_THR corrected bits are rewritten, or listed while the window is closed; a full list pauses the pass. (DESIGN CHOICE: assumption 41) -/
def execRefreshVisit (worst : List (Nat × Nat)) (env : CellEnv) (s : State) : Result :=
  if !s.cellWorks then .next s
  else
    let ext := s.get Reg.CELL_REFR_EXTENT
    let t := (s.forAll (env.ue.filter fun p => s.nv.extentOf p == ext) fun p u => u.refreshUe p).cellCorr env.corrected
    let ps := ((worst.filter fun w => decide (t.get Reg.CELL_ECC_REFR_THR ≤ w.2)).map (·.1)).filter fun p => t.refreshable ext p && !env.ue.contains p
    .next (if ps.isEmpty then t.refreshOn ext
      else if !t.bit Reg.CELL_STAT_WIN && decide (1024 ≤ (t.nv.extents t.mgmt.deferred).length) && !(t.nv.extents t.mgmt.deferred).contains ext then t
      else
        let (left, t) := State.rewrites env 0 t ps
        let u := t.cellGauges.onMgmt fun m => { m with deferred := m.deferred ++ left.filter (fun p => !m.deferred.contains p) }
        (u.put Reg.CELL_REFR_DEFER (u.nv.extents u.mgmt.deferred).length).refreshOn ext)

/-- REFR_BEHIND (R309). (DESIGN CHOICE: assumption 41) -/
def execRefrBehind (s : State) : Result :=
  .next (s.cond (s.cellWorks && !s.bit Reg.CELL_STAT_REFR_BEHIND) fun t => (t.put Reg.CELL_STAT_REFR_BEHIND 1).raiseEvt 6 8)

/-! Levelling. -/

/-- The least-worn levelled extent, the lowest-numbered of several. -/
def Nv.leastWorn (v : Nv) : Nat :=
  let ks := (v.wear.filter fun e => levelled e.1).map (·.1)
  let a := lowestFree 0 (ks.filter fun k => decide (k < 0x4900))
  let b := lowestFree 0x5100 (ks.filter fun k => decide (0x5100 ≤ k))
  if a < 0x4900 then a
  else if b < 61440 then b
  else (v.wear.filter fun e => levelled e.1).foldl (fun m e => if tget 0 v.wear e.1 < tget 0 v.wear m then e.1 else m) 0

/-- The most-worn levelled extent, the lowest-numbered of several. -/
def Nv.mostWorn (v : Nv) : Nat :=
  (v.wear.filter fun e => levelled e.1).foldl (fun m e => if tget 0 v.wear m < tget 0 v.wear e.1 then e.1 else m) 0

/-- The logical extent on a physical one. -/
def Nv.logicalOf (v : Nv) (phys : Nat) : Nat := ((v.emap.find? fun e => e.2 == some phys).map (·.1)).getD phys

/-- WEAR_CHECK (R306): a move begins where the spread is more than WL_DELTA × 1024 writes per page. (DESIGN CHOICE: assumption 41) -/
def execWearCheck (s : State) : Result :=
  let v := s.nv
  .next (s.cond (s.cellWorks && !s.frozen && s.bit Reg.CELL_CFG_WL_EN && s.mgmt.wl.isNone && s.mgmt.wlRetry.isNone &&
      decide (s.get Reg.CELL_CFG_WL_DELTA * 1024 * 256 < tget 0 v.wear v.mostWorn - tget 0 v.wear v.leastWorn)) fun t =>
    (t.put Reg.CELL_STAT_WL_BUSY 1).onMgmt fun m => { m with wl := some (v.logicalOf v.mostWorn, v.mostWorn, v.leastWorn) })

/-- The two extents of a move change places, with 256 programs each (R306). -/
def Nv.swapExtents (v : Nv) (l hi lo : Nat) : Nv :=
  let place := fun (e : Table (Option Nat)) (k p : Nat) => tset none e k (if k = p then none else some p)
  { v with emap := place (place v.emap l lo) (v.logicalOf lo) hi,
           wear := tset 0 (tset 0 v.wear hi (tget 0 v.wear hi + 256)) lo (tget 0 v.wear lo + 256) }

/-- LEVELLING_MOVE_END (R302, R303, R306): the two extents change places, pages that fail at their new place being retired; or a closed window abandons the move, which is then retried when it opens. The requests that waited are served. (DESIGN CHOICE: assumption 41) -/
def execLevellingMoveEnd (env : CellEnv) (s : State) : Result :=
  match s.mgmt.wl with
  | none => .next s
  | some (l, hi, lo) =>
    .next (s.cond (s.cellWorks && !s.frozen) fun s =>
      let mine := fun (v : Nv) (p : Nat) => v.extentOf p == hi || v.extentOf p == lo
      let t := (s.put Reg.CELL_STAT_WL_BUSY 0).onMgmt fun m => { m with wl := none, cellWait := [] }
      let t := t.forAll (env.ue.filter (mine s.nv)) fun p u => u.refreshUe p
      let t := if !t.bit Reg.CELL_STAT_WIN then t.onMgmt fun m => { m with wlRetry := some (l, hi, lo) }
        else
          let u := t.onNv fun v => v.swapExtents l hi lo
          (u.forAll ((env.retire ++ env.verify.map (·.1)).eraseDups.filter fun p => mine u.nv p && u.retires env p) fun p w => (w.retirePage p).2).cellGauges
      t.forAll s.mgmt.cellWait fun r u => u.cellServe r)

end Sys2Proof.Machine
end

