-- ==== Sys2Proof/Machine/Personality.lean ====
section
/-! DEFINITION. Personality records, the chain, the keys and the scrubber (R110 to R135). -/

namespace Sys2Proof.Machine

/-! Records. -/

/-- Adds a record's header to the digest's preimage and moves on to the next FRAME (R117). -/
def LoadRun.pass (l : LoadRun) (r : Record) : LoadRun :=
  { l with nextFrame := r.frame + 1, hdr := l.hdr.map fun h => { h with digest := h.digest ++ toBytes (recHeader r) } }

/-- STREAM_HDR (R128, R129, R403): checked in order; then FAB_N is set, the affected partitions are held, which is a link reset of every affected module, and those of PMASK blanked. (DEDUCED: assumption 31) -/
def execStreamHdr (r : Record) (s : State) : Result :=
  .next (s.onRecord 1 r fun l t =>
    let c := t.hdrCheck l r
    if c ≠ 0 then t.loadFail c (some (r.frame, r.target))
    else
      let h := hdrOf r
      let a := t.affected h
      let t := t.cond (t.fabChange h) fun u => (u.fabRelock).put Reg.CLK_FAB_N h.fabN
      let ns := (List.range 24).filter (bitOf a)
      let t := (t.forAll (ns.map t.hpBase).eraseDups fun n u => u.hpLinkReset n).forAll ns fun n u => u.hpHeld n
      let t := t.onMgmt fun m =>
        { m with load := some { l with hdr := some h, nextFrame := 1, held := a, frameKey := none, keyBytes := 0, written := [] },
                 cfgMem := framesOutside h.pmask m.cfgMem, frameSrc := framesOutside h.pmask m.frameSrc, goldOk := m.goldOk - (m.goldOk &&& h.pmask) }
      ((t.onNv fun v => { v with goldStaged := [] }).put Reg.CFG_KEYCNT_KIB 0).put Reg.CFG_LOADED_LOADED
        (t.get Reg.CFG_LOADED_LOADED - (t.get Reg.CFG_LOADED_LOADED &&& h.pmask)))

/-- KEY_ROLL (R116, R118): decrypted under the base key that KEY_SRC selects, it sets the frame key of the records that follow. -/
def execKeyRoll (r : Record) (s : State) : Result :=
  .next (s.onRecord 2 r fun l t =>
    match t.baseKey with
    | none => t.loadFail 0x0B (some (r.frame, r.target))
    | some k =>
      match recOpen l r k 0xFFFFFFFF with
      | none => t.loadFail 0x0C (some (r.frame, r.target))
      | some b => (t.onLoad fun l => { l.pass r with frameKey := some b, keyBytes := 0 }).put Reg.CFG_KEYCNT_KIB 0)

/-- Body bytes are counted under the frame key (R116). -/
def State.keyCount (s : State) (r : Record) : State :=
  match s.mgmt.load with
  | none => s
  | some l => if recEnc r then (s.onLoad fun l => { l with keyBytes := l.keyBytes + r.body.length }).put Reg.CFG_KEYCNT_KIB ((l.keyBytes + r.body.length) / 1024) else s

/-- CFG_FRAME (R114, R134, R135): once its tag verifies, the frame is written, its signature staged, and its place in a Loft slot kept with the key it came under. -/
def execCfgFrame (r : Record) (s : State) : Result :=
  .next (s.onRecord 3 r fun l t =>
    match recPlain l r with
    | .error c => t.loadFail c (some (r.frame, r.target))
    | .ok b =>
      let at' : FrameSrc := { pos := l.pos - recSize r, key := if recEnc r then l.frameKey else none, salt := (l.hdr.map (·.salt)).getD [] }
      (((t.keyCount r).onLoad fun l => { l.pass r with written := tset none l.written r.target (if l.src = .loft then some at' else none) }).onMgmt fun m =>
        { m with cfgMem := tset [] m.cfgMem r.target b }).onNv fun v =>
          { v with goldStaged := tset [] v.goldStaged r.target (toBytes (sha256 (toVals b))) })

/-- SEG (R125): the segment that follows is this chiplet's own. (DEDUCED: assumption 31) -/
def execSeg (r : Record) (s : State) : Result :=
  .next (s.onRecord 5 r fun _ t =>
    let total := bodyNat r 0 4
    let remain := bodyNat r 4 4
    if total = 0 ∨ 8 < total ∨ total ≤ remain then t.loadFail 0x07 (some (r.frame, r.target))
    else (t.onLoad fun l => { l with segSeen := true, remain := remain }).put Reg.CFG_CHAIN_POS (total - 1 - remain))

/-- The signatures are written into the set that is not running, over those of every frame it shall hold, and one metadata write makes that set the running one (R134, R296); where the write is refused or fails, the running set stays. It answers whether they are committed. (DESIGN CHOICE: assumption 33) -/
def State.goldCommit (s : State) (pmask : Nat) (env : CellEnv) : Bool × State :=
  if !s.bit Reg.CELL_STAT_MOUNTED || !s.cellClocked then (false, s)
  else
    let r := s.programPages env (goldPages (!s.nv.goldSet))
    if r.code ≠ 0 ∨ env.bootFails then (false, r.st)
    else (true, r.st.onNv fun v => { v with goldSet := !v.goldSet, gold := v.goldStaged.foldl (fun g e => tset [] g e.1 e.2) (framesOutside pmask v.gold) })

/-- Applying a RELEASE (R129, R134): the holds the load affects are lifted, the Wide mode of its modules is set, the signatures are committed, unless their write is refused or fails. Where a load affects one module of a pair that runs as a Wide port, that module alone leaves Wide mode. (DESIGN CHOICE: assumption 33) -/
def State.applyRelease (s : State) (l : LoadRun) (h : LoadHdr) (env : CellEnv) : State :=
  let (gold, s) := s.goldCommit h.pmask env
  let src : LoadedFrom := { src := l.src, slot := l.slot, gen := l.gen, persId := h.persId }
  let t := s.onMgmt fun m =>
    { m with load := none, hatchFifo := [], cfgHeld := m.cfgHeld - (m.cfgHeld &&& l.held),
             goldOk := if gold then m.goldOk ||| h.pmask else m.goldOk,
             frameSrc := l.written.foldl (fun t e => tset none t e.1 e.2) m.frameSrc,
             loadedFrom := ((List.range 25).filter (bitOf h.pmask)).foldl (fun t p => tset {} t p src) m.loadedFrom }
  let ns := (List.range 24).filter (bitOf l.held)
  let t := t.forAll ns fun n u => u.putB (Reg.HP_STAT_WIDE n) (bitOf h.wide (n / 2))
  let t := t.releaseMods ns
  (((((t.putB Reg.CFG_SCRUB_NO_GOLD (!gold)).put Reg.CFG_PERS_ID_ID h.persId).put Reg.CFG_LOADED_LOADED (t.get Reg.CFG_LOADED_LOADED ||| h.pmask)).put
    Reg.CFG_LOAD_BUSY 0).put Reg.CFG_LOAD_ERR_CODE 0).raiseEvt 5 0

/-- The rest of a chained stream, after this chiplet's own RELEASE (R125, R126): a member forwards it at once, the head after its delay. (DESIGN CHOICE: assumption 32) -/
def State.chainRest (s : State) (l : LoadRun) : State :=
  if !l.segSeen then s
  else if l.src = .chain then
    (((s.onMgmt fun m => { m with chain := { forward := l.remain, ownDone := true } }).put Reg.CFG_CHAIN_FWD_BUSY 1).emit .cfgStart)
  else if s.bit Reg.KEEP_STRAP_CHAIN_FIRST then
    s.onMgmt fun m => { m with chain := { forward := l.remain, ownDone := true, hatch := l.src == .hatch,
                                          loft := if l.src = .loft then some (2 + l.slot, l.pos, l.len) else none } }
  else s

/-- RELEASE (R117, R129, R134): its digest matches, and the load is applied. -/
def execRelease (r : Record) (env : CellEnv) (s : State) : Result :=
  .next (s.onRecord 6 r fun l t =>
    match recPlain l r, l.hdr with
    | .error c, _ => t.loadFail c (some (r.frame, r.target))
    | .ok _, none => t
    | .ok b, some h =>
      if toVals b ≠ sha256 (toVals h.digest) then t.loadFail 0x11 (some (r.frame, r.target))
      else
        (((t.keyCount r).applyRelease l h env).chainRest l).mboxEnd 0x20 0 [0])

/-- END (R125): it ends the forwarding of a chained stream; before RELEASE it ends the load with TRUNCATED, or a member's with NO_SEGMENT. -/
def execEndRecord (r : Record) (s : State) : Result :=
  .next (s.onRecord 7 r fun l t => t.loadFail (if l.src = .chain ∧ l.segSeen = false then 0x18 else 0x12) (some (r.frame, r.target)))

/-! Sources. -/

/-- The Hatch's FIFO takes pushes: a Hatch load runs, or the rest of its stream is to be forwarded (R123, R125). (DESIGN CHOICE: assumption 32) -/
def State.hatchArmed (s : State) : Bool :=
  (match s.mgmt.load with | some l => l.src == .hatch | none => false) || (s.mgmt.chain.ownDone && s.mgmt.chain.hatch)

/-- CFGLOAD_PUSH (R103, R123): the data register captures its status; a push is taken, discarded, or ends the load with OVERRUN. -/
def execCfgloadPush (push : Bool) (w : Word) (s : State) : Result :=
  if !s.keep.mgmtOn then .next s.hatchBypass
  else
    let free := 16384 - s.mgmt.hatchFifo.length
    let t := (s.hatchSelect .cfgload).emit
      (.tdo 33 (b2n s.hatchArmed + 2 * b2n (decide (1024 ≤ free)) + 4 * s.get Reg.CFG_LOAD_ERR_CODE + 1024 * free))
    .next (if !push || !s.hatchArmed then t
      else if free = 0 then t.loadFail 0x14
      else t.onMgmt fun m => { m with hatchFifo := m.hatchFifo ++ [w] })

/-- START_MARKER (R125): a member begins to take its segment. -/
def execStartMarker (s : State) : Result :=
  .next (match s.mgmt.load with
    | some l => s.cond (l.src == .chain) (·.onLoad fun l => { l with started := true })
    | none => s)

/-- LOAD_TIMEOUT (Table CFG-5): TIMEOUT, or NO_STREAM where nothing has come. (DESIGN CHOICE: assumption 32) -/
def execLoadTimeout (s : State) : Result :=
  .next (match s.mgmt.load with
    | some l => s.loadFail (match l.src with
        | .loft => 0x17
        | .chain => if l.started then 0x17 else 0x13
        | .hatch => if l.segSeen || l.hdr.isSome then 0x17 else 0x13)
    | none => s)

/-- CHAIN_FORWARD_START (R126): the head forwards a start marker and then the rest of its stream. -/
def execChainForwardStart (s : State) : Result :=
  .next (s.cond (s.mgmt.chain.ownDone && !s.bit Reg.CFG_CHAIN_FWD_BUSY) fun t => (t.put Reg.CFG_CHAIN_FWD_BUSY 1).emit .cfgStart)

/-- CLK_STALL (R126): CFG_CLK has stopped in the middle of a member's own segment. (DESIGN CHOICE: assumption 32) -/
def execClkStall (s : State) : Result :=
  .next (match s.mgmt.load with
    | some l => s.cond (l.src == .chain && l.segSeen) (·.loadFail 0x1A)
    | none => s)

/-! Keys. -/

/-- The key check value: bits 127:96 of AES-256 applied to a zero block (R119). -/
def kcv (key : List Byte) : Nat := beNat ((aesBlock (aesKeys (toVals key)) (List.replicate 16 0)).take 4)

/-- PROG (R119): the staged key goes to the key memory and the engine; the staging registers clear. -/
def State.keyProg (s : State) : State :=
  let k := toBytes (s.mgmt.bkey.map (natBe 4)).flatten
  (((s.onNv fun v => { v with batteryKey := some k }).onMgmt fun m => { m with engineBat := some k, bkey := List.replicate 8 0 }).put
    Reg.CFG_BKEY_CTL_PRESENT 1).put Reg.CFG_BKEY_KCV_KCV (kcv k)

/-- ZERO (R119): the key memory and the engine's copy are erased. -/
def State.keyZero (s : State) : State :=
  (((s.onNv fun v => { v with batteryKey := none }).onMgmt fun m => { m with engineBat := none }).put Reg.CFG_BKEY_CTL_PRESENT 0).put
    Reg.CFG_BKEY_KCV_KCV 0

/-! The scrubber. -/

/-- The frames the scrubber cycles through: those of released partitions with signatures (R133, R134). -/
def State.scrubbed (s : State) (target : Nat) : Bool :=
  let p := framePart target
  bitOf (s.get Reg.CFG_LOADED_LOADED) p && !s.held p && bitOf s.mgmt.goldOk p && decide (frameIdx target < partFrames p)

/-- The partition at or after a place, counted cyclically over 25, that the scrubber reads; at most `fuel` are looked at. -/
def State.scrubPart (s : State) : Nat → Nat → Option Nat
  | 0, _ => none
  | fuel + 1, p => if s.scrubbed (2048 * (p % 25)) then some (p % 25) else s.scrubPart fuel (p + 1)

/-- The next frame the scrubber reads back, if any. -/
def State.scrubFrame (s : State) : Option Nat :=
  let n := s.mgmt.scrubNext
  if s.scrubbed n then some n else (s.scrubPart 25 (framePart n + (if frameIdx n = 0 then 0 else 1))).map (2048 * ·)

/-- The golden signature of a frame (R134); a blank frame has that of its blank content. (DESIGN CHOICE: assumption 33) -/
def State.goldOf (s : State) (target : Nat) : List Byte :=
  match tget [] s.nv.gold target with
  | [] => toBytes (sha256 (toVals Config.blankFrame))
  | g => g

/-- The frame as its Loft slot gives it again, decrypted under the key in force for it (R135): none where its record no longer checks. A frame that the load left blank has no record in the slot. (DESIGN CHOICE: assumption 33) -/
def State.reread (s : State) (target slot : Nat) : Option (List Byte) :=
  match tget none s.mgmt.frameSrc target with
  | none => none
  | some a =>
    let size := if a.key.isSome then 4132 else 4116
    let bs := s.nv.read (loftAddr (2 + slot) + a.pos) size
    let body := (bs.drop 16).take 4096
    if crc32c (toVals (bs.take (size - 4))) ≠ beNat (toVals (bs.drop (size - 4))) then none
    else match a.key with
      | none => some body
      | some k =>
        (gcmOpen (toVals k) (toVals a.salt ++ toVals ((bs.drop 8).take 4) ++ natBe 4 0) (toVals (bs.take 16)) (toVals body) (toVals ((bs.drop 4112).take 16))).map toBytes

/-- A mismatching frame is repaired from the Loft slot it came from, or reported (R135); `ue` says that the reread is uncorrectable. (DESIGN CHOICE: assumption 33) -/
def State.scrubMismatch (s : State) (target : Nat) (readback : List Byte) (ue : Bool) : State :=
  let from' := tget {} s.mgmt.loadedFrom (framePart target)
  let t := ((s.bump Reg.CFG_SCRUB_STAT_MISMATCH).put Reg.CFG_SCRUB_LAST_ADDR target).put Reg.CFG_SCRUB_LAST_VALID 1
  let e := tget {} s.nv.loft (2 + from'.slot)
  match t.bit Reg.CFG_POL_SCRUB_MODE && from'.src == .loft && e.committed && e.gen == from'.gen && !ue, t.reread target from'.slot with
  | true, some b => (((t.charge 27 none (blocksOf b.length)).onMgmt fun m => { m with cfgMem := tset [] m.cfgMem target b }).bump Reg.CFG_SCRUB_STAT_FIXED).raiseEvt 5 2
  | _, _ => ((t.cond (t.bit Reg.CFG_POL_SCRUB_MODE && from'.src == .loft && e.committed && e.gen == from'.gen && ue) fun u =>
      u.cellUe (pageOf (loftAddr (2 + from'.slot) + ((tget none t.mgmt.frameSrc target).map (·.pos)).getD 0))).onMgmt fun m => { m with cfgMem := tset [] m.cfgMem target readback }).raiseErr 5 8 { addr := target }

/-- SCRUB_FRAME (R133 to R135, R314): the next frame is read back and compared with its signature, whose read is charged to M27. (DESIGN CHOICE: assumption 33) -/
def execScrubFrame (readback : List Byte) (rereadUe goldUe : Bool) (s : State) : Result :=
  if !s.bit Reg.CFG_SCRUB_EN || !s.keep.domainsOn || !s.cellClocked then .next s
  else match s.scrubFrame with
    | none => .next s
    | some f =>
      let t := (s.onMgmt fun m => { m with scrubNext := (f + 1) % 65536 }).charge 27 none 1
      .next (if goldUe then (t.cellUe (pageOf (goldAddr s.nv.goldSet + 32 * sigIndex f))).raiseErrFree 5 9
        else if toBytes (sha256 (toVals readback)) = t.goldOf f then t
        else t.scrubMismatch f readback rereadUe)

end Sys2Proof.Machine
end

