-- ==== Sys2Proof/Machine/Power.lean ====
section
/-! DEFINITION. Supplies, clocks, slow pins, resets and the heartbeat (R51 to R87, R363, R364, R387). -/

namespace Sys2Proof.Machine

/-! Supplies. -/

/-- VAUX_POWER_GOOD (R51, Table KEEP-1): the power-on reset; what needs no power is kept, and so are the model's own records. (DESIGN CHOICE: assumption 53) -/
def execVauxPowerGood (s : State) : Result :=
  .next (if s.keep.vauxGood then s
    else { State.reset with
      nv := s.nv, now := s.now, fresh := s.fresh, sent := s.sent, pending := s.pending, keep := { vbatHolds := s.keep.vbatHolds } })

/-- VAUX_LOST (R51, R54): Isax is in OFF; the key memory passes to VBAT. -/
def execVauxLost (vbatHolds : Bool) (s : State) : Result :=
  .next (if !s.keep.vauxGood then s
    else { State.reset with
      nv := if vbatHolds then s.nv else { s.nv with batteryKey := none }
      now := s.now, fresh := s.fresh, sent := s.sent, pending := s.pending, keep := { vauxGood := false, vbatHolds := vbatHolds } })

/-- VBAT_ZEROISE (R387): it acts only while VBAT supplies the key memory. -/
def execVbatZeroise (s : State) : Result :=
  .next (s.cond (!s.keep.vauxGood) fun t => (t.onNv fun v => { v with batteryKey := none }).onKeep fun k => { k with vbatHolds := false })

/-- A rail's code in KEEP_REC.RAIL_ID. -/
def railCode : Rail → Nat
  | .vcore => 1 | .vio => 2 | .vpic => 3 | .vhtr => 4 | .vcel => 5

/-- RAIL_LOST (R53). (DEDUCED: assumption 38) -/
def execRailLost (r : Rail) (s : State) : Result :=
  if !s.keep.vauxGood then .next s
  else
    let t := s.onKeep fun k => { k with railsGood := k.railsGood &&& ~~~((1 : RailMask) <<< (railCode r - 1)) }
    .next (t.cond t.keep.railWatch fun u =>
      ((u.put Reg.KEEP_REC_RAIL_LOST 1).put Reg.KEEP_REC_RAIL_ID (railCode r)).keeperTrip 8 (railCode r))

/-! Clocks. -/

/-- A clock that MGMT needs is lost (R72): from the end of S3 until KEEP the record is set, FAULT_N pulses and the keeper isolates; during S3 the step fails with `cause`, and nothing is recorded in KEEP_REC. -/
def State.clockLost (s : State) (record : Fld) (addr cause : Nat) : State :=
  if s.keep.mgmtOn then ((s.put record 1).onKeep fun k => { k with pulse := true }).keeperTrip 9 addr
  else s.cond (s.atStep 3) (·.stepFail 3 cause)

/-- REFCLK_ABSENT (R72, Table PWR-4). -/
def execRefclkAbsent (s : State) : Result := .next (s.clockLost Reg.KEEP_REC_REFCLK_LOST 6 1)

/-- MGMT_PLL_LOST (R72, Table PWR-4). -/
def execMgmtPllLost (s : State) : Result := .next (s.clockLost Reg.KEEP_REC_MGMT_PLL_LOST 0 2)

/-- A domain PLL's bit in CLK_STAT.LOCK, and its ERR bit on page CLK. -/
def pllBits : DomainPll → Nat × Nat
  | .core => (1, 8) | .te => (5, 9) | .tune => (2, 10) | .cell => (3, 11)

/-- DOMAIN_PLL_LOSS (R71, Table CLK-2): the domain's clock stops and stays stopped. -/
def execDomainPllLoss (d : DomainPll) (s : State) : Result :=
  let (b, e) := pllBits d
  if !bitOf (s.get Reg.CLK_STAT_LOCK) b then .next s
  else
    let t := s.cond (b == 1) (·.stopCore)
    .next (((t.put Reg.CLK_STAT_LOCK (clrBitOf (t.get Reg.CLK_STAT_LOCK) b)).put Reg.CLK_LOSS_LOSS (setBitOf (t.get Reg.CLK_LOSS_LOSS) b)).raiseErr 1 e
      { addr := b })

/-- FAB_PLL_LOSS (R71, R73): the fabric is held while Isax relocks. -/
def execFabPllLoss (s : State) : Result :=
  .next (s.cond (s.keep.domainsOn && bitOf (s.get Reg.CLK_STAT_LOCK) 4) fun t =>
    t.fabRelock.put Reg.CLK_LOSS_LOSS (setBitOf (t.get Reg.CLK_LOSS_LOSS) 4))

/-- FAB_PLL_LOCK (R73): the hold of the relock is lifted. -/
def execFabPllLock (s : State) : Result :=
  .next (s.cond s.mgmt.fabHold fun t =>
    ((t.onMgmt fun m => { m with fabHold := false }).put Reg.CLK_STAT_LOCK (setBitOf (t.get Reg.CLK_STAT_LOCK) 4)).releaseMods (List.range 24))

/-! Slow pins. -/

/-- The filtered level of a slow pin, and setting it. -/
def Keep.pin (k : Keep) : SlowPin → Bool
  | .pwrEn => k.pwrEn | .wakeN => k.wakeN | .faultInN => k.faultInN
def Keep.setPin (k : Keep) (b : Bool) : SlowPin → Keep
  | .pwrEn => { k with pwrEn := b } | .wakeN => { k with wakeN := b } | .faultInN => { k with faultInN := b }

/-- The edges counted in the storm window (R66). -/
def Keep.edges (k : Keep) : SlowPin → Nat
  | .pwrEn => k.edgesPwrEn | .wakeN => k.edgesWakeN | .faultInN => k.edgesFaultInN
def Keep.setEdges (k : Keep) (n : Nat) : SlowPin → Keep
  | .pwrEn => { k with edgesPwrEn := n } | .wakeN => { k with edgesWakeN := n } | .faultInN => { k with edgesFaultInN := n }

/-- The storm event and the mask of a slow pin. -/
def stormEvt : SlowPin → Fld
  | .pwrEn => Reg.KEEP_STORM_PWR_EN_STORM | .wakeN => Reg.KEEP_STORM_WAKE_N_STORM | .faultInN => Reg.KEEP_STORM_FAULT_IN_STORM
def stormMask : SlowPin → Fld
  | .pwrEn => Reg.KEEP_STORM_PWR_EN_MASK | .wakeN => Reg.KEEP_STORM_WAKE_N_MASK | .faultInN => Reg.KEEP_STORM_FAULT_IN_MASK

/-- A filtered edge of a slow pin: counted, dropped while masked, a storm where it is the 1001st of its window, and otherwise acted on (R66). -/
def State.slowEdge (s : State) (p : SlowPin) (level : Bool) (act : State → State) : State :=
  if !s.keep.vauxGood || s.keep.pin p == level then s
  else
    let n := s.keep.edges p + 1
    let t := s.onKeep fun k => (k.setPin level p).setEdges n p
    if t.bit (stormMask p) then t
    else if n = 1001 then (t.put (stormEvt p) 1).put (stormMask p) 1
    else act t

/-- PWR_EN is taken at a level: a rise is an on request, a fall an off request, which ends STAY (R76, R84). -/
def State.takePwrEn (s : State) (level : Bool) : State :=
  let t := s.onKeep fun k => { k with pwrEnTaken := level }
  if level then t.onRequest 1 else (t.put Reg.PWR_STAT_STAY 0).offRequest false

/-- A filtered fall of FAULT_IN_N (R359). (DESIGN CHOICE: assumption 34) -/
def State.faultIn (s : State) : State :=
  let (w, t) := s.takeFree
  t.latchError 15 0 0xFF { addr := w.toNat }

/-- PWR_EN_RISE (R76). -/
def execPwrEnRise (s : State) : Result := .next (s.slowEdge .pwrEn true (·.takePwrEn true))

/-- PWR_EN_FALL (R76). -/
def execPwrEnFall (s : State) : Result := .next (s.slowEdge .pwrEn false (·.takePwrEn false))

/-- WAKE_N_FALL (R76): an on request while WAKE_EN is 1. -/
def execWakeNFall (s : State) : Result :=
  .next (s.slowEdge .wakeN false fun t => t.cond (t.bit Reg.PWR_CTL_WAKE_EN) (·.onRequest 2))

/-- WAKE_N_RISE (R66): it arms the next wake. -/
def execWakeNRise (s : State) : Result := .next (s.slowEdge .wakeN true id)

/-- FAULT_IN_N_FALL (R359). -/
def execFaultInNFall (s : State) : Result := .next (s.slowEdge .faultInN false (·.faultIn))

/-- FAULT_IN_N_RISE (R365): bit 15 can be cleared from now on. -/
def execFaultInNRise (s : State) : Result := .next (s.slowEdge .faultInN true id)

/-- PIN_STORM (R66): the edge that brings the count to 1001. -/
def execPinStorm (pin : SlowPin) (s : State) : Result :=
  .next (s.cond (s.keep.edges pin == 1000 && !s.bit (stormMask pin)) fun t => t.slowEdge pin (!t.keep.pin pin) id)

/-- STORM_WINDOW (R66): every edge count restarts, those of the urgency wires among them. -/
def execStormWindow (s : State) : Result :=
  .next (s.cond s.keep.vauxGood fun t =>
    { t with keep := { t.keep with edgesPwrEn := 0, edgesWakeN := 0, edgesFaultInN := 0 }, hp := tmap {} (fun _ h => { h with urgEdges := 0 }) t.hp })

/-- A write of KEEP_STORM (R67): W1C events and masks; an unmasked pin takes effect at its present level. -/
def State.stormWrite (s : State) (v : Nat) : State :=
  let was := fun p => s.bit (stormMask p)
  let t := s.forAll [(0, stormEvt .pwrEn), (1, stormEvt .wakeN), (2, stormEvt .faultInN), (8, stormMask .pwrEn), (9, stormMask .wakeN), (10, stormMask .faultInN)]
    fun e u => u.cond (bitOf v e.1) (·.put e.2 0)
  let t := t.cond (bitOf v 8 && was .pwrEn && t.keep.pwrEn != t.keep.pwrEnTaken) fun u => u.takePwrEn u.keep.pwrEn
  t.cond (bitOf v 10 && was .faultInN && !t.keep.faultInN) (·.faultIn)

/-! Resets. -/

/-- RESET_N_FALL (R87). -/
def execResetNFall (s : State) : Result :=
  if !s.keep.vauxGood || !s.keep.resetN then .next s
  else
    let t := s.onKeep fun k => { k with resetN := false, inReset := true }
    .next (((t.put Reg.KEEP_REC_PIN_RESET 1).put Reg.KEEP_REC_SW_RESET 0).pwrReset.resetDomains .pin)

/-- RESET_N_RISE (R87): the reset ends, and PWR_EN is sampled. -/
def execResetNRise (s : State) : Result :=
  if !s.keep.vauxGood || s.keep.resetN then .next s
  else
    let t := s.onKeep fun k => { k with resetN := true, inReset := false }
    .next (t.cond t.keep.hold.isNone (·.sampleEn))

/-- RESET_CELLAR_HOLD (R87, R353): the wait for a Cellar page program is over, and isolation goes ahead. (DESIGN CHOICE: assumption 36) -/
def execResetCellarHold (s : State) : Result :=
  match s.keep.hold with
  | none => .next s
  | some .thermal => .next (s.onNv fun v => { v with intents := [] }).isolate.thermErr
  | some _ => .next ((s.onNv fun v => { v with intents := [] }).dumpAbort.isolate).sampleEn

/-- HATCH_RESET (R87, Table KEEP-1). (PRESUMED: assumption 6) -/
def execHatchReset (s : State) : Result :=
  .next (s.cond s.keep.vauxGood fun t => t.onMgmt fun m => { m with hatchIr := .idcode, extest := false })

/-! The heartbeat and FAULT_N. -/

/-- The three conditions of the ALIVE generator (R364). -/
def State.aliveRuns (s : State) : Bool := s.keep.mgmtOn && s.keep.hkFresh && decide (s.errSum = 0) && !s.keep.inTrap

/-- ALIVE_TOGGLE (R364). -/
def execAliveToggle (s : State) : Result := .next (s.cond s.aliveRuns fun t => t.onKeep fun k => { k with alive := !k.alive })

/-- The housekeeper's kick (R364): it arms the watchdog. -/
def State.kick (s : State) : State := s.cond s.mgmt.hkRun fun t => t.onKeep fun k => { k with hkArmed := true, hkFresh := true }

/-- HK_WDOG (R364, R371): no kick for 1.5 ms; a running dump is lost. -/
def execHkWdog (s : State) : Result :=
  .next (s.cond (s.keep.hkArmed && s.keep.mgmtOn) fun t =>
    let u := (t.onKeep fun k => { k with hkFresh := false }).raiseErrFree 14 8
    u.cond (u.keep.dump == .running) fun w => ((w.dumpRecord 6).onKeep fun k => { k with dump := .idle, dumpSkip := [] }).trapPowerDown)

/-- FAULT_N_PULSE_END (R363). -/
def execFaultNPulseEnd (s : State) : Result := .next (s.onKeep fun k => { k with pulse := false })

/-- FAULT_N is driven low (R53, R353, R363). -/
def State.faultNLow (s : State) : Bool :=
  s.keep.pulse || s.bit Reg.FAULT_CTL_ASSERT || s.keep.inTrap || s.bit Reg.KEEP_REC_RAIL_LOST || s.keep.thermLatch

end Sys2Proof.Machine
end

