-- ==== Sys2Proof/Machine/Numeric.lean ====
section
/-! DEFINITION. The number formats of the transit engine: exact values as a mantissa times a power of two, the input formats, the shared-exponent conversion, and rounding to the output formats (Table TE-1, Table TE-2, R268 to R272). -/

namespace Sys2Proof.Machine

/-- An exact value: mantissa and binary exponent. -/
abbrev Dyadic' := Int × Int

/-- An element as its format gives it. -/
inductive Elem where
  | val (v : Dyadic')
  | nan
  | inf (neg : Bool)
  deriving DecidableEq, Repr

/-- A magnitude with its sign. -/
def signed (neg : Bool) (m : Nat) : Int := if neg then -(m : Int) else m

/-- A value times 2^k, rounded to an integer, ties to even. -/
def rne (v : Dyadic') (k : Int) : Int :=
  let e := v.2 + k
  if 0 ≤ e then v.1 * 2 ^ e.toNat
  else
    let d := 2 ^ (-e).toNat
    let a := v.1.natAbs
    let q := a / d
    let r := a % d
    signed (decide (v.1 < 0)) (if d < 2 * r ∨ (2 * r = d ∧ q % 2 = 1) then q + 1 else q)

/-- The sum of two exact values. -/
def dyAdd (a b : Dyadic') : Dyadic' :=
  let e := min a.2 b.2
  (a.1 * 2 ^ (a.2 - e).toNat + b.1 * 2 ^ (b.2 - e).toNat, e)

/-- |v| ≤ M × 2^E. -/
def fits (v : Dyadic') (M : Nat) (E : Int) : Bool :=
  let e := min v.2 E
  decide (v.1.natAbs * 2 ^ (v.2 - e).toNat ≤ M * 2 ^ (E - e).toNat)

/-! Inputs. -/

/-- A minifloat without infinities or NaN: `mb` mantissa bits, exponent bias such that the subnormal step is 2^q. -/
def minifloat (mb : Nat) (q : Int) (neg : Bool) (exp man : Nat) : Dyadic' :=
  if exp = 0 then (signed neg man, q) else (signed neg (2 ^ mb + man), q + (exp : Int) - 1)

/-- OCP FP8 E4M3. -/
def e4m3 (b : Nat) : Elem := if b % 128 = 127 then .nan else .val (minifloat 3 (-9) (bitOf b 7) (bits b 3 4) (bits b 0 3))

/-- OCP FP8 E5M2. -/
def e5m2 (b : Nat) : Elem :=
  if bits b 2 5 = 31 then (if bits b 0 2 = 0 then .inf (bitOf b 7) else .nan)
  else .val (minifloat 2 (-16) (bitOf b 7) (bits b 2 5) (bits b 0 2))

/-- A byte as a signed integer. -/
def signed8 (b : Nat) : Int := if b < 128 then (b : Int) else (b : Int) - 256

/-- INT8: −128 is taken as −127 (Table TE-1). -/
def int8 (iexp : Int) (b : Nat) : Elem := .val (max (-127) (signed8 b), iexp)

/-- IEEE 754 binary32. -/
def fp32 (w : Nat) : Elem :=
  let neg := bitOf w 31
  if bits w 23 8 = 255 then (if bits w 0 23 = 0 then .inf neg else .nan)
  else .val (minifloat 23 (-149) neg (bits w 23 8) (bits w 0 23))

/-- E2M1 of OCP MXFP4. -/
def e2m1 (n : Nat) : Dyadic' := minifloat 1 (-1) (bitOf n 3) (bits n 1 2) (bits n 0 1)

/-- The elements of an MX block: its scale byte, then its elements (R269). (DESIGN CHOICE: assumption 42) -/
def mxBlock (fp4 : Bool) (b : List Nat) : List Elem :=
  let scale := b.headD 0
  let es : List Dyadic' :=
    if fp4 then (b.drop 1).flatMap fun x => [e2m1 (x % 16), e2m1 (x / 16)]
    else (b.drop 1).map fun x => (signed8 x, -6)
  es.map fun v => if scale = 255 then .nan else .val (v.1, v.2 + (scale : Int) - 127)

/-- Bytes of `n` elements in a format (R269). -/
def fmtBytes (fmt n : Nat) : Nat :=
  match fmt with
  | 3 => n / 32 * 17
  | 4 => n / 32 * 33
  | 5 => 4 * n
  | _ => n

/-- A list of bytes cut at a fixed size. -/
def cutAll (n : Nat) : Nat → List Nat → List (List Nat)
  | 0, _ => []
  | k + 1, l => l.take n :: cutAll n k (l.drop n)

/-- The `n` elements that bytes of a format spell. -/
def elems (fmt : Nat) (iexp : Int) (n : Nat) (l : List Nat) : List Elem :=
  match fmt with
  | 0 => (l.take n).map e4m3
  | 1 => (l.take n).map e5m2
  | 2 => (l.take n).map (int8 iexp)
  | 3 => (cutAll 17 (n / 32) l).flatMap (mxBlock true)
  | 4 => (cutAll 33 (n / 32) l).flatMap (mxBlock false)
  | _ => (cutAll 4 n l).map fun b => fp32 (b.foldl (fun a x => a * 256 + x) 0)

/-- Elements counted as saturated at the input: −128 of INT8 (Table TE-1). -/
def satIn (fmt : Nat) (l : List Nat) : Nat := if fmt = 2 then l.countP (· == 128) else 0

/-- NaN inputs among `n` elements (Table TE-1): an element, or for an MX format the scale of a block. -/
def nanIn (fmt : Nat) (iexp : Int) (n : Nat) (l : List Nat) : Nat :=
  match fmt with
  | 3 => (cutAll 17 (n / 32) l).countP fun b => b.headD 0 == 255
  | 4 => (cutAll 33 (n / 32) l).countP fun b => b.headD 0 == 255
  | _ => (elems fmt iexp n l).countP (· == .nan)

/-- A converted vector or row (R268): its exponent, its operands, and how many were clamped. -/
structure Quant where
  exp : Int
  qs  : List Int
  sat : Nat
  deriving DecidableEq, Repr

/-- The smallest exponent from −127 up for which every magnitude fits, 127 where none does. (DESIGN CHOICE: assumption 42) -/
def quantExp (M : Nat) (vs : List Dyadic') : Nat → Int → Int
  | 0, e => e
  | fuel + 1, e => if vs.all (fun v => fits v M e) then e else quantExp M vs fuel (e + 1)

/-- Converts a vector or row (R268): one shared exponent over its finite elements; an infinity is clamped. -/
def quantise (M : Nat) (l : List Elem) : Quant :=
  let vs := l.filterMap fun x => match x with | .val v => some v | _ => none
  let e := quantExp M vs 254 (-127)
  let raw := l.map fun x => match x with
    | .val v => rne v (-e)
    | .nan => 0
    | .inf neg => signed neg (M + 1)
  { exp := e, qs := raw.map fun q => max (-(M : Int)) (min M q), sat := raw.countP fun q => decide ((M : Int) < q.natAbs) }

/-- The balanced base-15 digits of a Q8 operand (R270). -/
def q8Low (q : Int) : Int := (q + 7) % 15 - 7
def q8High (q : Int) : Int := (q - q8Low q) / 15

/-! Outputs. -/

/-- A value rounded to a minifloat of `mb` mantissa bits whose subnormal step is 2^q: its code without the sign, which may pass the largest one. -/
def roundCode (mb : Nat) (q : Int) (v : Dyadic') : Nat :=
  if v.1 = 0 then 0
  else
    let k := (Nat.log2 v.1.natAbs : Int) + v.2 - mb
    let s := max k q
    ((s - q).toNat + 1) * 2 ^ mb + (rne v (-s)).natAbs - 2 ^ mb

/-- FP32 bits of a value, an overflow giving infinity. -/
def toFp32 (v : Dyadic') : Nat := min (roundCode 23 (-149) v) 0x7F800000 + (if v.1 < 0 then 2 ^ 31 else 0)

/-- One FP32 addition of an exact value into an accumulator word, rounded to nearest, ties to even (R272). (DESIGN CHOICE: assumption 42) -/
def fp32Acc (w : Nat) (v : Dyadic') : Nat :=
  match fp32 w with
  | .val a => toFp32 (dyAdd a v)
  | _ => w

/-- A byte of the integer, in two's complement. -/
def byteOf (v : Int) : Nat := (v % 256).toNat

/-- A value in an output format (Table TE-2): its bytes, and whether it was saturated. (DESIGN CHOICE: assumption 42) -/
def toOut (fmt : Nat) (oshift : Int) (v : Dyadic') : List Nat × Bool :=
  let sign := if v.1 < 0 then 128 else 0
  match fmt with
  | 0 => let c := roundCode 3 (-9) v; ([min c 0x7E + sign], decide (0x7E < c))
  | 1 => let c := roundCode 2 (-16) v; ([min c 0x7B + sign], decide (0x7B < c))
  | 2 => let q := rne v (-oshift); ([byteOf (max (-128) (min 127 q))], decide (q < -128) || decide (127 < q))
  | _ => let w := toFp32 v; ([w / 2 ^ 24 % 256, w / 2 ^ 16 % 256, w / 256 % 256, w % 256], false)

/-- An accumulator word in an output format: FP32 as it stands; an infinity saturates. No accumulator holds a NaN, since only finite values are added. -/
def accOut (fmt : Nat) (oshift : Int) (w : Nat) : List Nat × Bool :=
  if fmt = 5 then ([w / 2 ^ 24 % 256, w / 2 ^ 16 % 256, w / 256 % 256, w % 256], false)
  else match fp32 w with
    | .val v => toOut fmt oshift v
    | .inf neg => ((toOut fmt oshift (signed neg 1, 200)).1, true)
    | .nan => ([], false)

end Sys2Proof.Machine
end

