-- ==== Sys2Proof/Machine/TeOps.lean ====
section
/-! DEFINITION. Shared operations of the transit engine: descriptors and their checks, tiles, precision, weight sets, inputs, outputs and completion (R265 to R291). -/

namespace Sys2Proof.Machine

/-! Descriptors (Table TE-3). -/

def Desc.word (d : Desc) (i : Nat) : Nat := d.words.getD i 0
def Desc.op (d : Desc) : Nat := bits (d.word 0) 28 4
def Desc.cmpl (d : Desc) : Bool := bitOf (d.word 0) 27
def Desc.flush (d : Desc) : Bool := bitOf (d.word 0) 26
def Desc.accMode (d : Desc) : Nat := bits (d.word 0) 24 2
def Desc.feed (d : Desc) : Nat := bits (d.word 0) 22 2
def Desc.rep (d : Desc) : Nat := bits (d.word 0) 16 6
def Desc.did (d : Desc) : Nat := bits (d.word 0) 0 16
def Desc.setid (d : Desc) : Nat := bits (d.word 1) 16 16
def Desc.integ (d : Desc) : Nat := bits (d.word 1) 13 3
def Desc.q8 (d : Desc) : Bool := bitOf (d.word 1) 12
def Desc.ifmt (d : Desc) : Nat := bits (d.word 1) 9 3
def Desc.ofmt (d : Desc) : Nat := bits (d.word 1) 6 3
def Desc.gain (d : Desc) : Nat := bits (d.word 1) 3 3
def Desc.repl (d : Desc) : Nat := bits (d.word 1) 0 3
def Desc.minEb (d : Desc) : Nat := bits (d.word 2) 24 8
def Desc.nlen (d : Desc) : Nat := bits (d.word 2) 16 7 + 1
def Desc.klen (d : Desc) : Nat := bits (d.word 2) 8 7 + 1
def Desc.vcount (d : Desc) : Nat := bits (d.word 2) 0 7 + 1
def Desc.oshift (d : Desc) : Int := signed8 (bits (d.word 3) 24 8)
def Desc.iexp (d : Desc) : Int := signed8 (bits (d.word 3) 16 8)

/-- A descriptor obeys its layout (R269, R275). -/
def Desc.ok (d : Desc) : Bool :=
  decide (d.op ≤ 4) && d.accMode != 3 && d.feed != 3 && (d.rep == 0 || (d.op == 1 && d.accMode == 0)) &&
  (d.setid == 0 || d.op == 1 || d.op == 3 || d.op == 4) && decide (d.integ ≤ 4) && decide (d.ifmt ≤ 5) &&
  (d.ifmt != 5 || d.op == 2) && (!(d.ifmt == 3 || d.ifmt == 4) || ((d.op == 1 || d.op == 3) && d.klen % 32 == 0)) &&
  (d.ofmt ∈ [0, 1, 2, 5]) && (if d.op = 3 then decide (1 ≤ d.repl) && decide (d.repl ≤ 4) else d.repl == 0) &&
  !bitOf (d.word 2) 23 && !bitOf (d.word 2) 15 && !bitOf (d.word 2) 7 && bits (d.word 3) 0 16 == 0 &&
  d.word 4 == 0 && d.word 5 == 0 && d.word 6 == 0 && d.word 7 == 0

/-- Bytes of input a descriptor consumes, before padding (Table TE-4). -/
def Desc.inputLen (d : Desc) : Nat :=
  match d.op with
  | 1 => d.vcount * fmtBytes d.ifmt d.klen
  | 2 => fmtBytes d.ifmt (d.vcount * d.nlen)
  | 3 => d.nlen * fmtBytes d.ifmt d.klen
  | _ => 0

/-- A size padded to a multiple of 64 bytes (R276). -/
def pad64n (n : Nat) : Nat := (n + 63) / 64 * 64

/-! Queues. -/

def queueWm (q : Nat) : Wm :=
  ⟨Reg.TEG_Q_THR_LO q, Reg.TEG_Q_THR_HI q, Reg.TEG_Q_WM_LVL q, Reg.TEG_Q_WM_UP q, Reg.TEG_Q_WM_DN q, Reg.TEG_Q_WM_DN_EN q,
    Reg.TEG_Q_WM_CROSS q, 13, 4, 5⟩

/-- The queue's depth is judged against its mark. -/
def State.depthGauge (s : State) (q : Nat) : State := s.judge (queueWm q) (s.teqAt q).slots.length

/-- The tiles can be measured and their sets copied: Isax is in LIT or above, the TE PLL has locked, and traffic is not frozen (R285, R291, Tables CLK-2, FAULT-3). -/
def State.teLit (s : State) : Bool := s.teClocked && decide (3 ≤ s.power) && !s.frozen

/-- The engine runs: powered, gates open, not frozen, the TE PLL locked, the start measurement over (R287, Table CLK-2). -/
def State.teRuns (s : State) : Bool := s.teClocked && s.gates && !s.frozen && s.bit Reg.TEG_STAT_READY

/-- A queue dispatches (R277, R282). -/
def State.queueRuns (s : State) (q : Nat) : Bool := s.teRuns && s.bit (Reg.TEG_Q_CFG_EN q) && !s.bit (Reg.TEG_Q_STAT_HALT q)

/-- The place of the first descriptor that has not been dispatched. -/
def TQueue.headAt (k : TQueue) : Nat := (k.slots.takeWhile (·.res.isSome)).length

/-- The descriptor that dispatches next (R278). -/
def TQueue.head (k : TQueue) : Option Desc := k.slots[k.headAt]?

/-! Tiles. -/

def State.tileAt (s : State) (t : Nat) : Tile := tget {} s.te.tiles t
def State.onTile (s : State) (t : Nat) (f : Tile → Tile) : State := s.onTe fun e => { e with tiles := tset {} e.tiles t (f (s.tileAt t)) }

/-- A tile has failed (R289). -/
def State.tileFailed (s : State) (t : Nat) : Bool := bitOf (s.get Reg.TEG_FAIL_TILE) t

/-- A tile is measuring, or must measure before it works. -/
def State.tileMeasuring (s : State) (t : Nat) : Bool :=
  !s.bit Reg.TEG_STAT_READY || s.te.start || (s.tileAt t).due || (s.te.phase == .measure && s.te.outg == some t)

/-- TT_STAT.STATE: 0 working, 1 measuring, 2 spare, 3 failed. -/
def State.tileState (s : State) (t : Nat) : Nat :=
  if s.tileFailed t then 3 else if s.tileMeasuring t then 1 else if s.te.spare = some t then 2 else 0

/-- The working tiles. -/
def State.workTiles (s : State) : List Nat := (List.range 32).filter fun t => s.tileState t == 0

/-- The slot of a tile that holds a set. -/
def Tile.slotOf (t : Tile) (setid : Nat) : Option Nat := t.slots.findIdx? fun w => match w with | some w => w.setid == setid | none => false

/-- The sets of a tile. -/
def Tile.sets (t : Tile) : List WSet := t.slots.filterMap id

/-- The tiles that hold a set, working or not. -/
def State.holders (s : State) (setid : Nat) : List Nat := (List.range 32).filter fun t => ((s.tileAt t).slotOf setid).isSome

/-- Free slots of a tile. -/
def Tile.free (t : Tile) : Nat := 8 - t.sets.length

/-- A set put into a tile's first free slot; it becomes active where no slot is (R274). -/
def Tile.put (t : Tile) (w : WSet) : Tile :=
  match t.slots.findIdx? Option.isNone with
  | some i => { t with slots := t.slots.set i (some w), active := if t.active.isNone then some i else t.active }
  | none => t

/-- The tiles that LOADW chooses: most free slots first, the lowest number among equals (R273). -/
def pickTiles (free : List (Nat × Nat)) : Nat → List Nat
  | 0 => []
  | n + 1 =>
    match free.foldl (fun (b : Option (Nat × Nat)) x => match b with
        | none => some x
        | some y => if y.2 < x.2 then some x else b) none with
    | some (t, f) => if f = 0 then [] else t :: pickTiles (free.filter (·.1 != t)) n
    | none => []

/-- Free slots of the working tiles that do not hold a set. -/
def State.roomFor (s : State) (setid : Nat) : List (Nat × Nat) :=
  (s.workTiles.filter fun t => !(s.tileAt t).drain && ((s.tileAt t).slotOf setid).isNone).map fun t => (t, (s.tileAt t).free)

/-! Precision. -/

/-- T(INTEG) in 0.01 bit, 0.3 bit lower in band B4 (R283, Table TE-7). -/
def State.tFigure (s : State) (t integ : Nat) : Nat := 440 + 50 * integ - (if s.bandOf t = 4 then 30 else 0)

/-- Seconds since a tile's last measurement ended. -/
def State.tileAge (s : State) (t : Nat) : Nat := match (s.tileAt t).meas with | some m => (s.now - m) / 1000000000 | none => 2 ^ 20 - 1

/-- The drift ceiling in 0.01 bit (R283), what lies below 0.01 bit cut off, as in R284's worked case: the age is rounded up to whole seconds, so that a comparison with MIN_EB, which is in 0.1 bit, is exact. (DESIGN CHOICE: assumption 44) -/
def State.ceiling (s : State) (t : Nat) : Nat := 750 - (match (s.tileAt t).meas with | some m => (s.now - m + 999999999) / 1000000000 | none => 750)

/-- Effective bits of a tile in 0.01 bit (R283). -/
def State.effBits (s : State) (t integ : Nat) : Nat := min (s.tFigure t integ) (s.ceiling t)

/-- A thermal pause stops dispatch to a tile (R291, R348, Table HEAT-2). -/
def State.tilePaused (s : State) (t : Nat) : Bool :=
  (t :: (List.range 8).map (84 + ·)).any fun i => decide (16 ≤ (s.sensor i).duty + s.mgmt.pausePart)

/-- A working tile that holds a set takes an MVM, but for its window and its precision (R278). -/
def State.tileTakes (s : State) (t : Nat) : Bool := s.tileState t == 0 && !(s.tileAt t).drain && !s.tilePaused t

/-! Input. -/

/-- The bytes a descriptor's input comes from. -/
def TQueue.source (k : TQueue) (d : Desc) : List Byte := match d.feed with | 1 => k.feed0 | 2 => k.feed1 | _ => d.inline

/-- A bound feed stream has left OPEN (Table TE-6). (DESIGN CHOICE: assumption 43) -/
def State.feedLost (s : State) (q : Nat) (d : Desc) : Bool :=
  let lost := fun (v sid : Fld) => s.bit v && (s.ctxAt (s.get sid)).state != 1
  match d.feed with
  | 1 => lost (Reg.TEG_Q_FEED0_VALID q) (Reg.TEG_Q_FEED0_SID q)
  | 2 => lost (Reg.TEG_Q_FEED1_VALID q) (Reg.TEG_Q_FEED1_SID q)
  | _ => false

/-- The input is complete. (DESIGN CHOICE: assumption 43) -/
def TQueue.inputReady (k : TQueue) (d : Desc) : Bool := decide (d.inputLen ≤ (k.source d).length)

/-- A descriptor's input, as byte values. -/
def TQueue.input (k : TQueue) (d : Desc) : List Nat := toVals' ((k.source d).take d.inputLen)
where toVals' (l : List Byte) : List Nat := l.map BitVec.toNat

/-- The input is consumed, with its padding (R276). -/
def TQueue.consume (k : TQueue) (d : Desc) : TQueue :=
  match d.feed with
  | 1 => { k with feed0 := k.feed0.drop (pad64n d.inputLen) }
  | 2 => { k with feed1 := k.feed1.drop (pad64n d.inputLen) }
  | _ => k

/-- The undispatched head of a queue is dispatched with what it computes. -/
def State.dispatch (s : State) (q : Nat) (d : Desc) (c : Computed) (tile : Option Nat) (eats : Bool) : State :=
  let t := s.onTeq q fun k =>
    let j := if eats then k.consume d else k
    { j with slots := k.slots.set k.headAt { d with tile := tile, ord := s.te.ord, res := some c, inline := [] } }
  let t := t.onTe fun e => { e with ord := e.ord + 1, lastQ := q }
  match tile with
  | some i => t.onTile i fun x => { x with win := x.win + 1 }
  | none => t

/-- A descriptor that ends with an error at its turn. (DESIGN CHOICE: assumption 43) -/
def State.dispatchErr (s : State) (q : Nat) (d : Desc) (status : Nat) : State := s.dispatch q d { status := status } none false

/-! The computation. -/

/-- The pieces of an input: vectors or rows of `n` elements. (DESIGN CHOICE: assumption 43) -/
def pieces (d : Desc) (n count : Nat) (l : List Nat) : List (List Nat) := cutAll (fmtBytes d.ifmt n) count l

/-- The exact sum of products. -/
def dot (a b : List Int) : Int := (List.zipWith (· * ·) a b).sum

/-- One analog pass (R270): the sum is clipped at full scale, and digitised as a free value. (DESIGN CHOICE: assumption 42) -/
def pass (free gain : Nat) (w x : List Int) : Int × Bool :=
  let fs : Int := 6272 / (2 ^ gain : Nat)
  let s := dot w x
  let clip := decide (6272 < s.natAbs * 2 ^ gain)
  (Config.digitise free (if clip then (if s < 0 then -fs else fs) else s), clip)

/-- One result of an MVM (R270, R272): the digitised sum scaled by the exponents, and the passes clipped. (DESIGN CHOICE: assumption 42) -/
def mvmOne (free gain : Nat) (q8 : Bool) (w : List Int) (we : Int) (x : Quant) : Dyadic' × Nat :=
  let e := we + x.exp - 16
  if q8 then
    let hh := pass free gain (w.map q8High) (x.qs.map q8High)
    let hl := pass (free + 1) gain (w.map q8High) (x.qs.map q8Low)
    let lh := pass (free + 2) gain (w.map q8Low) (x.qs.map q8High)
    let ll := pass (free + 3) gain (w.map q8Low) (x.qs.map q8Low)
    ((225 * hh.1 + 15 * hl.1 + 15 * lh.1 + ll.1, e), b2n hh.2 + b2n hl.2 + b2n lh.2 + b2n ll.2)
  else
    let p := pass free gain w x.qs
    ((p.1, e), b2n p.2)

/-- The results of an MVM over its vectors and repeats, in order; rows beyond those loaded count as 0 (R268). -/
def mvmAll (free : Nat) (d : Desc) (set : WSet) (l : List Nat) : Computed :=
  let M := if d.q8 then 112 else 7
  let vs := pieces d d.klen d.vcount l
  let qs := vs.map fun v => quantise M (elems d.ifmt d.iexp d.klen v)
  let runs := (List.range (d.rep + 1)).flatMap fun r => (qs.zipIdx).flatMap fun x => (List.range d.nlen).map fun n =>
    mvmOne (free + 4 * ((r * d.vcount + x.2) * d.nlen + n)) d.gain d.q8 (set.rows.getD n []) (set.exps.getD n (-127)) x.1
  { status := 0, vals := runs.map (·.1), clip := (runs.map (·.2)).sum, sat := (qs.map (·.sat)).sum + satIn d.ifmt l,
    nan := (vs.map fun v => nanIn d.ifmt d.iexp d.klen v).sum }

/-- The elements a REDUCE adds (Table TE-1, R272). -/
def reduceAll (d : Desc) (l : List Nat) : Computed :=
  let n := d.vcount * d.nlen
  let es := elems d.ifmt d.iexp n l
  { status := 0
    vals := es.map fun x => match x with
      | .val v => v
      | .nan => (0, 0)
      | .inf neg => (signed neg (34 * 10 ^ 37), 0)
    sat := satIn d.ifmt l + es.countP fun x => match x with | .inf _ => true | _ => false
    nan := nanIn d.ifmt d.iexp n l }

/-- The set a LOADW converts (R268, R273). -/
def loadAll (d : Desc) (l : List Nat) : Computed :=
  let M := if d.q8 then 112 else 7
  let rs := pieces d d.klen d.nlen l
  let qs := rs.map fun r => quantise M (elems d.ifmt d.iexp d.klen r)
  { status := 0, sat := (qs.map (·.sat)).sum + satIn d.ifmt l, nan := (rs.map fun r => nanIn d.ifmt d.iexp d.klen r).sum,
    wset := some { setid := d.setid, q8 := d.q8, klen := d.klen, rows := qs.map (·.qs), exps := qs.map (·.exp) } }

/-! Completion. -/

/-- The completion record of Table TE-5. -/
def State.teRecord (s : State) (q : Nat) (d : Desc) (c : Computed) (status : Nat) : Delivery :=
  .record [q * 2 ^ 26 + status * 2 ^ 16 + d.did, c.eb + min c.sat 65535 * 2 ^ 16, min c.clip 65535 + min c.nan 65535 * 2 ^ 16, s.ftime % 2 ^ 32]

/-- A queue halts (R282): its accumulator is cleared. -/
def State.halt (s : State) (q status : Nat) : State :=
  (((s.put (Reg.TEG_Q_STAT_HALT q) 1).put (Reg.TEG_Q_STAT_LAST_ERR q) status).onTeq q fun k => { k with acc := none, accV := 0, accN := 0 }).raiseEvt 13 2

/-- The oldest descriptor leaves its queue and its tile's window, its counts are added, and its record is sent where due (R281). -/
def State.retire (s : State) (q : Nat) (d : Desc) (c : Computed) (status : Nat) : State :=
  let t := s.onTeq q fun k => { k with slots := k.slots.drop 1 }
  let t := match d.tile with | some i => t.onTile i fun x => { x with win := x.win - 1 } | none => t
  let t := ((t.bump Reg.TEG_CNT_SAT_COUNT c.sat).bump Reg.TEG_CNT_CLIP_COUNT c.clip).bump Reg.TEG_CNT_NAN_COUNT c.nan
  (t.cond (d.cmpl || status != 0) (·.deliver d.port (t.teRecord q d c status))).depthGauge q

/-- The oldest descriptor ends with an error, and its queue halts. (DESIGN CHOICE: assumption 43) -/
def State.retireHalt (s : State) (q : Nat) (d : Desc) (c : Computed) (status : Nat) : State := (s.retire q d c status).halt q status

/-- Does a descriptor use the accumulator? -/
def Desc.usesAcc (d : Desc) : Bool := (d.op == 1 || d.op == 2) && d.accMode != 0

/-- The output a descriptor emits, with its saturations (R272, R276). -/
def Desc.output (d : Desc) (c : Computed) (acc : List Nat) : List Byte × Nat :=
  let es := if d.accMode = 0 then c.vals.map (toOut d.ofmt d.oshift) else acc.map (accOut d.ofmt d.oshift)
  let b := (es.flatMap (·.1)).map (BitVec.ofNat 8)
  (b ++ List.replicate (pad64n b.length - b.length) 0, es.countP (·.2))

/-- The results of the oldest descriptor are added to the accumulator and laid out for the sink (R272, R280). (DEDUCED: assumption 26) -/
def State.layOut (s : State) (q : Nat) (d : Desc) (c : Computed) : State :=
  if d.op = 1 ∨ d.op = 2 then
    let k := s.teqAt q
    let n := c.vals.length
    let acc := if d.accMode = 0 then [] else List.zipWith fp32Acc (k.acc.getD (List.replicate n 0)) c.vals
    let (out, sat) := if d.accMode = 1 then ([], 0) else d.output c acc
    s.onTeq q fun k =>
      { k with
        out := k.out ++ out
        acc := if d.accMode = 1 then some acc else if d.accMode = 2 then none else k.acc
        accV := if d.accMode = 1 then d.vcount else if d.accMode = 2 then 0 else k.accV
        accN := if d.accMode = 1 then d.nlen else if d.accMode = 2 then 0 else k.accN
        slots := k.slots.set 0 { d with laid := true, res := some { c with sat := c.sat + sat } } }
  else s.onTeq q fun k => { k with slots := k.slots.set 0 { d with laid := true } }

/-- How the output of a queue left: all of it that may, some of it waits, or the sink is lost. -/
inductive DrainEnd where
  | done | waits | lost
  deriving DecidableEq, Repr

/-- Output goes to the sink in pieces of OUT_PAY bytes, a partial one only at FLUSH, in the class of its queue (R251, R266, R276, R282); towards a held module it waits (Table CFG-6). (DESIGN CHOICE: assumption 43) -/
def State.drainOut (s : State) (q : Nat) (flush : Bool) : Nat → DrainEnd × State
  | 0 => (.done, s)
  | fuel + 1 =>
    let k := s.teqAt q
    let pay := 64 * (s.get (Reg.TEG_Q_CFG_OUT_PAY q) + 1)
    if k.out.isEmpty || (decide (k.out.length < pay) && !flush) then (.done, s)
    else
      let t := s.onTeq q fun k => { k with out := k.out.drop pay }
      if !s.bit (Reg.TEG_Q_CFG_DST_KIND q) then
        if s.held (s.get (Reg.TEG_Q_CFG_DST_PORT q)) then (.waits, s)
        else (t.deliver (s.get (Reg.TEG_Q_CFG_DST_PORT q)) (.engine q (k.out.take pay))).drainOut q flush fuel
      else
        match t.sendOn (s.get (Reg.TEG_Q_DSID_SID q)) (k.out.take pay) 24 (s.get (Reg.TEG_Q_CFG_TC q)) 0 with
        | (.sent, u) => u.drainOut q flush fuel
        | (.stalled, _) => (.waits, s)
        | (.notOpen, _) => (.lost, s)

/-- The set of a LOADW is placed: on its tiles where it is resident, else on REPL tiles; none where they cannot all be placed (R273). -/
def State.placeSet (s : State) (w : WSet) (repl : Nat) : Option State :=
  let on := s.holders w.setid
  if !on.isEmpty then
    some (s.forAll on fun t u => u.onTile t fun x => { x with slots := x.slots.map fun o => match o with | some v => if v.setid = w.setid then some w else o | none => none })
  else
    let ts := pickTiles (s.roomFor w.setid) repl
    if ts.length < repl then none else some (s.forAll ts fun t u => u.onTile t fun x => x.put w)

/-- Every copy of a set is freed (R273). -/
def State.freeSet (s : State) (setid : Nat) : State :=
  s.forAll (s.holders setid) fun t u => u.onTile t fun x =>
    match x.slotOf setid with
    | some i => { x with slots := x.slots.set i none, active := if x.active = some i then none else x.active }
    | none => x

/-- A dispatched MVM, before a place in the order of dispatch, still uses a set. (DESIGN CHOICE: assumption 44) -/
def State.setInUse (s : State) (setid ord : Nat) : Bool :=
  s.te.queues.any fun e => e.2.slots.any fun d => d.res.isSome && d.op == 1 && d.setid == setid && decide (d.ord < ord)

end Sys2Proof.Machine
end

