-- ==== Sys2Proof/Machine/Te.lean ====
section
/-! DEFINITION. The transit engine's submissions, descriptors, completions and queues (R266 to R282, R290). -/

namespace Sys2Proof.Machine

/-- TE_SUBMISSION (R251, R277): queued from an owning port and charged to it at the intake, denied from any other, or stalled for credit. -/
def execTeSubmission (n : HpId) (q : QueueId) (desc : List Word) (inline : List Byte) (s : State) : Result :=
  if !s.keep.domainsOn || !s.gates || s.frozen || s.held n || s.hpIdle n then .next s
  else
    let d : Desc := { words := desc.map BitVec.toNat, port := n, inline := inline }
    .next (if !bitOf (s.get (Reg.TEG_Q_OWN_PORTS q)) n then (s.deliver n (s.teRecord q d { status := 7 } 7)).consume n
      else if !s.bit (Reg.TEG_Q_CFG_EN q) || decide (4096 ≤ (s.teqAt q).slots.length) || decide (0x400000 < s.teBuffered + inline.length) then s.emit (.stalled n)
      else
        let (ing, t) := s.claim n
        (t.charge n none (blocksOf (32 + inline.length)) ing).onTeq q (fun k => { k with slots := k.slots ++ [d] }) |>.depthGauge q)

/-- The tile an MVM goes to (R278): its active slot holds the set, then the fewest descriptors in the window, then the lowest number. -/
def State.bestTile (s : State) (setid : Nat) (ts : List Nat) : Option Nat :=
  let act := ts.filter fun t => (s.tileAt t).active == (s.tileAt t).slotOf setid
  (if act.isEmpty then ts else act).foldl (fun b t => match b with
    | none => some t
    | some x => if (s.tileAt t).win < (s.tileAt x).win then some t else b) none

/-- An earlier LOADW of the queue that has not completed names a set (R273). (DESIGN CHOICE: assumption 44) -/
def TQueue.loading (k : TQueue) (setid : Nat) : Bool := (k.slots.take k.headAt).any fun d => d.op == 3 && d.setid == setid

/-- The tiles that could take an MVM, before its precision is asked for: those that take dispatches, hold the set and have room (R278). -/
def State.roomTiles (s : State) (d : Desc) : List Nat :=
  (s.holders d.setid).filter fun t => s.tileTakes t && decide ((s.tileAt t).win < 64)

/-- A tile reaches the descriptor's effective bits. -/
def State.precise (s : State) (d : Desc) (t : Nat) : Bool := decide (10 * d.minEb ≤ s.effBits t d.integ)

/-- The width of a resident set. -/
def State.setWidth (s : State) (setid : Nat) : Option Bool :=
  (s.holders setid).head?.bind fun t => ((s.tileAt t).sets.find? (·.setid == setid)).map (·.q8)

/-- The swaps of an MVM on a tile (R274): one where the active slot does not hold its set, one more for Q8 unless it is the tile's only set. -/
def Tile.swapsFor (x : Tile) (d : Desc) : Nat :=
  b2n (x.active != x.slotOf d.setid) + b2n (d.q8 && decide (1 < x.sets.length))

/-- No tile can ever reach the descriptor's effective bits at its INTEG in its present band (Table TE-6). -/
def State.unreachable (s : State) (d : Desc) : Bool := (s.holders d.setid).all fun t => decide (s.tFigure t d.integ < 10 * d.minEb)

/-- The tile that an MVM whose set is resident with its width, and whose precision can be reached, dispatches to now (R278). -/
def State.mvmTile (s : State) (d : Desc) : Option Nat := s.bestTile d.setid ((s.roomTiles d).filter (s.precise d))

/-- A queue has a dispatchable head (R278): one that ends with an error at its turn, or whose input is complete and, for an MVM, which a tile takes. -/
def State.dispatchable (s : State) (q : Nat) : Bool :=
  s.queueRuns q && match (s.teqAt q).head with
    | none => false
    | some d =>
      if !d.ok then true
      else if !(s.teqAt q).inputReady d then s.feedLost q d
      else if d.op ≠ 1 then true
      else !(s.teqAt q).loading d.setid &&
        (match s.setWidth d.setid with
          | none => true
          | some w => w != d.q8 || s.unreachable d || (s.mvmTile d).isSome)

/-- The queue that dispatches next (R278): among those with a dispatchable head the highest PRIO, and round-robin among equals. -/
def State.teNext (s : State) : Option Nat :=
  leastBy (fun q => (15 - s.get (Reg.TEG_Q_CFG_PRIO q)) * 64 + (q + 63 - s.te.lastQ) % 64) ((List.range 64).filter s.dispatchable)

/-- The head of a queue dispatches as operation `op`, where it is one and its queue is next: a bad descriptor ends with BAD_DESC, a lost feed with FEED_LOST, and one whose input is not complete waits. -/
def State.onHead (s : State) (q op : Nat) (f : Desc → TQueue → State) : State :=
  if s.teNext ≠ some q then s
  else match (s.teqAt q).head with
    | none => s
    | some d =>
      if d.op ≠ op then s
      else if !d.ok then s.dispatchErr q d 1
      else if !(s.teqAt q).inputReady d then (if s.feedLost q d then s.dispatchErr q d 5 else s)
      else f d (s.teqAt q)

/-- MVM (R270 to R274, R278, R279): dispatched to an eligible tile; its vectors are multiplied by the set. (DESIGN CHOICE: assumption 44) -/
def execMvm (q : QueueId) (s : State) : Result :=
  .next (s.onHead q 1 fun d k =>
    if k.loading d.setid then s
    else match s.setWidth d.setid with
    | none => s.dispatchErr q d 2
    | some w =>
      if w != d.q8 then s.dispatchErr q d 1
      else if s.unreachable d then s.dispatchErr q d 4
      else match s.mvmTile d with
        | none => s
        | some t =>
          let x := s.tileAt t
          match x.sets.find? (·.setid == d.setid) with
          | none => s
          | some set =>
            let c := mvmAll s.fresh d set (k.input d)
            let c := { c with eb := s.effBits t d.integ / 10 }
            let u := { s with fresh := s.fresh + 4 * ((d.rep + 1) * d.vcount * d.nlen) }
            let u := (u.onTile t fun y => { y with active := y.slotOf d.setid }).bump (Reg.TT_CNT_SWAPS t) (x.swapsFor d)
            u.dispatch q d c (some t) true)

/-- REDUCE (R268, R272). -/
def execReduce (q : QueueId) (s : State) : Result := .next (s.onHead q 2 fun d k => s.dispatch q d (reduceAll d (k.input d)) none true)

/-- LOADW (R268, R273): its rows are converted; it is placed as it completes. -/
def execLoadw (q : QueueId) (s : State) : Result := .next (s.onHead q 3 fun d k => s.dispatch q d (loadAll d (k.input d)) none true)

/-- FREEW (R273). (DESIGN CHOICE: assumption 44) -/
def execFreew (q : QueueId) (s : State) : Result := .next (s.onHead q 4 fun d _ => s.dispatch q d { status := 0 } none false)

/-- NOP (R275): consumes nothing. A code that no operation has comes to its turn here, and ends with BAD_DESC. -/
def execNop (q : QueueId) (s : State) : Result :=
  .next (match (s.teqAt q).head with
    | some d => if 5 ≤ d.op then s.cond (s.teNext == some q.val) (·.dispatchErr q d 1) else s.onHead q 0 fun d _ => s.dispatch q d { status := 0 } none false
    | none => s)

/-- DESCRIPTOR_COMPLETE (R279 to R282): the oldest descriptor commits, in queue order, and its slot returns; a failure halts the queue. (DESIGN CHOICE: assumption 43) -/
def execDescriptorComplete (q : QueueId) (s : State) : Result :=
  .next (if !s.teRuns then s
    else match (s.teqAt q).slots.head? with
    | none => s
    | some d =>
      match d.res with
      | none => s
      | some c =>
        if c.status ≠ 0 then
          (s.cond (c.status == 5) (·.onTeq q fun k => if d.feed = 1 then { k with feed0 := [] } else { k with feed1 := [] })).retireHalt q d c c.status
        else
          let k := s.teqAt q
          if !d.laid && d.usesAcc && k.acc.isSome && (k.accV != d.vcount || k.accN != d.nlen) then s.retireHalt q d c 1
          else if !d.laid && d.op == 4 && s.setInUse d.setid d.ord then s
          else
            match (match d.laid, d.op, c.wset with
              | false, 3, some w => s.placeSet w d.repl
              | false, 4, _ => some (s.freeSet d.setid)
              | _, _, _ => some s) with
            | none => s.retireHalt q d c 3
            | some t =>
              let t := if d.laid then t else t.layOut q d c
              let d' := (t.teqAt q).slots.headD d
              let c' := d'.res.getD c
              match t.drainOut q d.flush ((t.teqAt q).out.length / 64 + 1) with
              | (.done, u) => u.retire q d' c' 0
              | (.waits, u) => u
              | (.lost, u) => (u.onTeq q fun k => { k with out := [] }).retireHalt q d' c' 9)

/-! Queue commands and errors. -/

/-- RESUME (R282): dispatch restarts at the next descriptor. -/
def State.teResume (s : State) (q : Nat) : State := s.put (Reg.TEG_Q_STAT_HALT q) 0

/-- FLUSH (R282): every queued descriptor completes with FLUSHED, and HALT clears. -/
def State.teFlush (s : State) (q : Nat) : State :=
  ((s.teqAt q).slots.foldl (fun t d => t.retire q d (d.res.getD { status := 6 }) 6) s).put (Reg.TEG_Q_STAT_HALT q) 0

/-- A stream may be bound to a queue: a context of the right direction in OPEN that is not Brynn (R267). -/
def State.bindable (s : State) (sid : Nat) (recv : Bool) : Bool :=
  let c := s.ctxAt sid
  c.state == 1 && c.recv == recv && !c.brynn

/-- QUEUE_UE (R290): the queue halts with UE, and its slots are recounted. -/
def execQueueUe (q : QueueId) (slot : Nat) (s : State) : Result :=
  .next (s.cond s.keep.domainsOn fun s =>
    let t := s.halt q 8
    let t := ((t.put Reg.TEG_AUD_RECON (t.teqAt q).slots.length).put Reg.TEG_AUD_Q q).put Reg.TEG_AUD_V 1
    (t.raiseEvt 13 6).raiseErr 13 8 { master := 24, acc := 3, addr := q * 4096 + slot })

/-- The head of a queue waits on precision alone, or on full windows (R290). -/
def State.headWaits (s : State) (q : Nat) (prec : Bool) : Bool :=
  s.queueRuns q && match (s.teqAt q).head with
    | none => false
    | some d =>
      d.op == 1 && d.ok && (s.teqAt q).inputReady d && s.setWidth d.setid == some d.q8 &&
      (if prec then !(s.roomTiles d).isEmpty && !(s.roomTiles d).any (s.precise d)
       else (s.roomTiles d).isEmpty && (s.holders d.setid).any fun t => s.tileTakes t)

/-- PREC_WAIT (R290): a head has waited on precision alone for 1 ms; told once. -/
def execPrecWait (q : QueueId) (s : State) : Result :=
  .next (match (s.teqAt q).head with
    | some d => s.cond (s.headWaits q true && !d.told) fun t => (t.onTeq q fun k => { k with slots := k.slots.set k.headAt { d with told := true } }).raiseEvt 13 3
    | none => s)

/-- WEIGHT_SLOT_UE (R360). -/
def execWeightSlotUe (t : TileId) (slot : Nat) (s : State) : Result :=
  .next (s.cond s.keep.domainsOn fun u => u.raiseErr (0x60 + t) 11 { master := 24, acc := 3, addr := slot % 8 })

end Sys2Proof.Machine
end

