-- ==== Sys2Proof/Machine/Tiles.lean ====
section
/-! DEFINITION. The rotation of the transit engine's tiles: boundaries, drains, copies, measurements and failures (R285 to R289). -/

namespace Sys2Proof.Machine

/-- A tile begins to work. -/
def State.serve (s : State) (t : Nat) : State := s.raiseEvt (0x60 + t) 1

/-- A tile's correction is stored in CAL, over the older of its two copies (R285, R296); a closed window refuses it (R311). -/
def State.corrSave (s : State) (t : Nat) : State :=
  let b := !(tget none s.nv.tileCorr t).getD true
  if !s.bit Reg.CELL_STAT_MOUNTED || !s.cellClocked then s
  else
    let r := s.programPages {} [corrPage t b]
    r.st.cond (r.code == 0) fun u => u.onNv fun v => { v with tileCorr := tset none v.tileCorr t (some b) }

/-- A tile's stored correction read uncorrectable, and it was measured in full (R286, Table CELL-3). -/
def State.corrUe (s : State) (t : Nat) : State :=
  match tget none s.nv.tileCorr t with
  | some b => s.cellUe (corrPage t b)
  | none => s

/-- A tile's measurement has ended well: its age starts, its correction is stored in CAL (R283, R285). (DESIGN CHOICE: assumption 45) -/
def State.measured (s : State) (t : Nat) : State :=
  (((s.onTile t fun x => { x with meas := some s.now, due := false }).bump (Reg.TT_CNT_CALS t)).corrSave t).raiseEvt (0x60 + t) 0

/-- The ERR bits that a failed tile sets (R289, Table FAULT-1): CAL_FAIL for every one, and that of the self-check that failed. -/
def tileErrBits : TileFault → List Nat
  | .calFail => [8]
  | .adcFault => [8, 9]
  | .htrFault => [8, 10]

/-- A tile is marked failed (R289). -/
def State.tileMark (s : State) (t : Nat) (why : TileFault) : State :=
  ((s.put Reg.TEG_FAIL_TILE (setBitOf (s.get Reg.TEG_FAIL_TILE) t)).forAll (tileErrBits why) fun b u => u.raiseErr (0x60 + t) b { addr := t }).raiseEvt 13 1

/-- One set of a tile moves to a free slot of a working tile, as LOADW chooses; where there is none, it stays (R273, R287). -/
def State.moveSet (s : State) (t : Nat) (w : WSet) : State :=
  match pickTiles (s.roomFor w.setid) 1 with
  | [] => s
  | u :: _ =>
    (s.onTile u fun x => x.put w).onTile t fun x =>
      match x.slotOf w.setid with
      | some i => { x with slots := x.slots.set i none, active := if x.active = some i then none else x.active }
      | none => x

/-- Every set of a tile moves to free slots (R287). -/
def State.moveSets (s : State) (t : Nat) : State := s.forAll (s.tileAt t).sets fun w u => u.moveSet t w

/-- A tile's slots are cleared. -/
def State.clearTile (s : State) (t : Nat) : State := s.onTile t fun x => { x with slots := List.replicate 8 none, active := none }

/-- A failed tile's sets without a spare (R289): a set with another working copy loses this one, another moves to a free slot, and one that finds none stops being resident. (DESIGN CHOICE: assumption 45) -/
def State.scatter (s : State) (t : Nat) : State :=
  let only := (s.tileAt t).sets.filter fun w => (s.holders w.setid).all fun u => s.tileState u != 0
  (s.forAll only fun w u => u.moveSet t w).clearTile t

/-- A tile's sets, with the active slot marked, are copied into the spare, which becomes a working tile (R285). (DESIGN CHOICE: assumption 45) -/
def State.handOn (s : State) (t sp : Nat) : State :=
  let x := s.tileAt t
  (((s.onTile sp fun y => { y with slots := x.slots, active := x.active }).clearTile t).onTe fun e => { e with spare := none }).serve sp

/-- The first tile of the rotation at or after `t`: not failed, and not the spare (R285). (DESIGN CHOICE: assumption 45) -/
def State.nextTile (s : State) (t : Nat) : Option Nat :=
  ((List.range 32).map fun i => (t + i) % 32).find? fun u => !s.tileFailed u && s.te.spare != some u

/-- START_MEASUREMENT_END (R287): every tile has measured; the last good one, TT31, stands as the spare, once the sets it still held have moved to free slots; where some find none it works on, and the rotation begins without a spare. (DESIGN CHOICE: assumption 45) -/
def execStartMeasurementEnd (failed ue : List TileId) (s : State) : Result :=
  .next (s.cond (s.te.start && s.teLit) fun s =>
    let t := (s.forAll ue fun i u => u.corrUe i.toNat).onTe fun e => { e with start := false }
    let t := t.forAll ((List.range 32).filter fun i => !s.tileFailed i) fun i u =>
      if failed.any (·.toNat == i) then u.tileMark i .calFail else u.measured i
    let t := t.put Reg.TEG_STAT_READY 1
    let t := t.forAll ((List.range 32).filter fun i => failed.any (·.toNat == i)) fun i u => u.scatter i
    let good := (List.range 32).filter fun i => !t.tileFailed i
    let t := match (if t.bit Reg.TEG_CFG_CAL_EN then good.getLast? else none) with
      | some sp =>
        let u := t.moveSets sp
        let u := if (u.tileAt sp).sets.isEmpty then ((u.onTe fun e => { e with spare := some sp, phase := .rest }).put Reg.TEG_CAL_OUT sp).put Reg.TEG_CAL_MEAS_DONE 1 else u
        u.put Reg.TEG_CAL_NEXT ((u.nextTile 0).getD 0)
      | none => t
    (t.forAll t.workTiles fun i u => u.serve i).raiseEvt 13 0)

/-- The outgoing tile of a boundary: the one CAL_NOW named, else the next of the rotation, which then advances (R285, R288). -/
def State.takeOut (s : State) : State :=
  let named := s.te.calNow.filter fun t => !s.tileFailed t && s.te.spare != some t
  let s := s.cond (s.te.calNow.isSome && named.isNone) fun s => (s.onTe fun e => { e with calNow := none, calCmd := none }).mboxEnd 0x40 0x02 []
  match named with
  | some t => (s.onTe fun e => { e with calNow := none, phase := .drain, outg := some t }).onTile t fun x => { x with drain := true }
  | none =>
    match s.nextTile (s.get Reg.TEG_CAL_NEXT) with
    | none => s
    | some t =>
      let u := (s.onTe fun e => { e with phase := .drain, outg := some t }).onTile t fun x => { x with drain := true }
      u.put Reg.TEG_CAL_NEXT ((u.nextTile (t + 1)).getD 0)

/-- CAL_BOUNDARY (R285 to R288): the slot ends, and with it a CAL_NOW whose slot it was; with CAL_EN 0 the rotation stops and the spare works. -/
def execCalBoundary (s : State) : Result :=
  .next (s.cond (s.teLit && s.bit Reg.TEG_STAT_READY && (s.te.phase == .rest || s.te.phase == .none)) fun s =>
    let s := s.cond (s.te.phase == .rest && s.te.calCmd.isSome && s.te.calNow.isNone) fun s =>
      (s.onTe fun e => { e with calCmd := none }).mboxEnd 0x40 0 []
    if !s.bit Reg.TEG_CFG_CAL_EN then
      match s.te.spare with
      | some sp => (s.onTe fun e => { e with spare := none, phase := .none, outg := none }).serve sp
      | none => s.onTe fun e => { e with phase := .none, outg := none }
    else s.takeOut)

/-- TILE_DRAIN_END (R285): the outgoing tile's window is empty, and the copy begins. -/
def execTileDrainEnd (s : State) : Result :=
  .next (match s.te.outg with
    | some t => s.cond (s.teLit && s.te.phase == .drain && (s.tileAt t).win == 0) fun s => (s.onTe fun e => { e with phase := .copy }).put Reg.TEG_STAT_HANDOVER 1
    | none => s)

/-- SET_COPY_END (R285, R287): the spare works, and the outgoing tile begins its measurement; without a spare the sets have moved to free slots. -/
def execSetCopyEnd (s : State) : Result :=
  .next (match s.te.outg with
    | some t => s.cond (s.teLit && s.te.phase == .copy) fun s =>
        let u := match s.te.spare with
          | some sp => s.handOn t sp
          | none => s.moveSets t
        (((u.onTile t fun x => { x with drain := false }).onTe fun e => { e with phase := .measure }).put Reg.TEG_STAT_HANDOVER 0).put Reg.TEG_CAL_OUT t
          |>.put Reg.TEG_CAL_MEAS_DONE 0
    | none => s)

/-- The outgoing tile is out of the rotation: its slot rests until the next boundary. -/
def State.outRests (s : State) : State := (s.onTe fun e => { e with phase := .rest, outg := none }).put Reg.TEG_CAL_MEAS_DONE 1

/-- TILE_MEASUREMENT_END (R285, R286, R289): the tile stands as the spare, or works at once where it holds sets or a failed tile's sets wait for it; or it fails. -/
def execTileMeasurementEnd (ok ue : Bool) (s : State) : Result :=
  .next (match s.te.outg with
    | some t => s.cond (s.teLit && s.te.phase == .measure) fun s =>
        let s := s.cond ue (·.corrUe t)
        if !ok then
          let u := (s.outRests.tileMark t .calFail).scatter t
          match u.te.failWait with
          | some f => (u.scatter f).onTe fun e => { e with failWait := none }
          | none => u
        else
          let u := s.outRests.measured t
          match u.te.failWait with
          | some f => (u.handOn f t).onTe fun e => { e with failWait := none }
          | none => if (u.tileAt t).sets.isEmpty then u.onTe fun e => { e with spare := some t } else u.serve t
    | none => s)

/-- TILE_FAIL (R289): the tile is marked; a working tile's sets go to the spare, at once or after its measurement, or to free slots. (DESIGN CHOICE: assumption 45) -/
def execTileFail (t : TileId) (why : TileFault) (s : State) : Result :=
  .next (s.cond (s.keep.domainsOn && !s.tileFailed t) fun s =>
    let was := s.tileState t
    let u := s.tileMark t why
    if was = 2 then u.onTe fun e => { e with spare := none }
    else if was = 1 then (u.cond (u.te.outg == some t.toNat) State.outRests).scatter t
    else
      let u := u.cond (u.te.outg == some t.toNat) fun u => ((u.onTile t fun x => { x with drain := false }).outRests).put Reg.TEG_STAT_HANDOVER 0
      match u.te.spare with
      | some sp => u.handOn t sp
      | none => if u.te.phase == .measure && u.te.failWait.isNone then u.onTe fun e => { e with failWait := some t.toNat } else u.scatter t)

/-- TEG_FAIL written with 1 returns tiles to the rotation; each works only after its next measurement (R289). -/
def State.tileReturn (s : State) (v : Nat) : State :=
  s.forAll ((List.range 32).filter fun t => bitOf v t && s.tileFailed t) fun t u =>
    (u.onTile t fun x => { x with due := true }).put Reg.TEG_FAIL_TILE (clrBitOf (u.get Reg.TEG_FAIL_TILE) t)

end Sys2Proof.Machine
end

