-- ==== Sys2Proof/Machine/View.lean ====
section
/-! DEFINITION. What a read of the register space shows: fields that are stored, and fields that show the live state of the units behind them (R90 to R92). -/

namespace Sys2Proof.Machine

/-- A signed reading as 12 bits. -/
def to12 (v : Int) : Nat := (v % 4096).toNat

/-- The bits of a list of indices. -/
def maskOf (l : List Nat) : Nat := l.foldl setBitOf 0

/-- The hottest enabled sensor (HEAT_STAT.HOT): the lowest number among equals. -/
def State.hotSensor (s : State) : Option Nat :=
  ((List.range 96).filter fun i => s.takesPart i && (s.sensor i).valid).foldl (fun b i => match b with
    | none => some i
    | some j => if (s.sensor j).tj < (s.sensor i).tj then some i else some j) none

/-- The Shelf entry that SHELF_SEL.IDX shows. -/
def State.shelfShown (s : State) : Option ShelfEntry := s.keep.shelf[s.get Reg.SHELF_SEL_IDX]?

/-- The context that STRM_SEL shows; a transaction channel shown as one (R223). -/
def State.ctxShown (s : State) : Ctx :=
  if s.bit Reg.STRM_SEL_CHAN then
    let node := s.get Reg.STRM_SEL_SID % 1024
    let c := s.chanAt (2 * node + s.get Reg.STRM_SEL_CDIR)
    { recv := s.bit Reg.STRM_SEL_CDIR, peerNode := node, seq := c.seq, acked := c.acked, unack := c.unack, replays := c.replays }
  else s.ctxAt (s.get Reg.STRM_SEL_SID)

/-- The line that LAM_SEL shows on a port. -/
def State.ringShown (s : State) (n : Nat) : Ring := s.ringAt n (s.bit (Reg.LAM_SEL_DIR n)) (s.get (Reg.LAM_SEL_LINE n))

/-- Tokens a point holds in its buckets, and those of granted blocks that are not yet through it (R261). (DESIGN CHOICE: assumption 51) -/
def State.tokBuckets (s : State) (pt : Nat) : Nat := (s.point pt).buckets.sum
def State.tokFlight (s : State) (pt : Nat) : Nat := (s.point pt).drawn

/-- The route entry that ROUTE_SEL shows (R25). -/
def State.routeShown (s : State) : Nat :=
  let a := s.get Reg.ROUTE_BANK_ACTIVE
  tget 0 s.routes (1024 * (if s.bit Reg.ROUTE_SEL_BANK then a else 1 - a) + s.get Reg.ROUTE_SEL_ENTRY)

/-- The clock of a tile is gated: it is idle and CLK_GATE.TE_AUTO is 1 (Table CLK-1). -/
def State.tileGated (s : State) (t : Nat) : Bool := s.bit Reg.CLK_GATE_TE_AUTO && (s.tileAt t).win == 0 && s.tileState t != 1

/-- STAT.READY of a page (R70, R90): the block is powered, clocked and not held. A module is not clocked while it is unused or rests in L1, a port not in DOZE or DARK. (DEDUCED: assumption 56) -/
def State.pageReady (s : State) (p : Nat) : Bool :=
  if p = 0 ∨ p = 2 then true
  else if !s.keep.mgmtOn then false
  else if p = 6 then s.cellClocked
  else if p = 7 ∨ p = 8 ∨ p = 9 ∨ p = 10 ∨ p = 11 then s.coreClocked
  else if p = 12 then s.keep.domainsOn
  else if p = 13 then s.teClocked
  else if 96 ≤ p ∧ p < 128 then s.teClocked && !s.tileGated (p - 96)
  else if 16 ≤ p ∧ p < 40 then
    s.keep.domainsOn && bitOf (s.get Reg.CLK_HOST_LOCK) (p - 16) && s.hpState (p - 16) != 0 && s.hpState (p - 16) != 6 && !s.held (p - 16)
  else if 48 ≤ p ∧ p < 64 then
    s.keep.domainsOn && bitOf (s.get Reg.CLK_LINE_LOCK) (p - 48) && s.get (Reg.OP_STAT_PSTATE (p - 48)) != 0 && s.get (Reg.OP_STAT_PSTATE (p - 48)) != 4
  else if 64 ≤ p ∧ p < 80 then s.tuneRuns
  else if 128 ≤ p then s.keep.domainsOn && bitOf (s.get Reg.CLK_STAT_LOCK) 4
  else true

/-- The load of S10 runs; PWR_STAT.STEP shows it where no other step is in progress (R80). -/
def State.loadAtS10 (s : State) : Bool := s.mgmt.load.any (·.atS10)

/-- Fields of the pages KEEP to TEG and MBOX that show live state, by page, offset and low bit; none where the field is stored. (DESIGN CHOICE: assumption 51) -/
def State.viewLow (s : State) (f : Fld) : Option Nat :=
  match f.page, f.off, f.lsb with
  | 0, 0x50, 0 => some (b2n s.keep.pwrEn)
  | 0, 0x50, 1 => some (b2n s.keep.resetN)
  | 0, 0x50, 2 => some (b2n s.keep.wakeN)
  | 0, 0x50, 3 => some (b2n s.keep.faultInN)
  | 2, 0x4c, 5 => some (if s.get f = 0 ∧ s.loadAtS10 then 10 else s.get f)
  | 3, 0x58, 0 => some (b2n (s.errSum != 0))
  | 3, 0x58, 1 => some (b2n s.keep.inTrap)
  | 3, 0x58, 3 => some (b2n s.aliveRuns)
  | 3, 0x58, 4 => some (b2n (s.keep.dump == .running))
  | 3, 0x84, l => some (match s.shelfShown with
    | none => 0
    | some e => match l with
      | 0 => e.code | 3 => e.bit | 9 => e.errbit | 14 => e.page | 22 => b2n e.coarse | _ => b2n e.suspect)
  | 3, 0x88, _ => some (match s.shelfShown with | some e => e.time % 2 ^ 32 | none => 0)
  | 3, 0x8c, _ => some (match s.shelfShown with | some e => e.time / 2 ^ 32 | none => 0)
  | 3, 0x90, 0 => some s.keep.shelf.length
  | 4, 0x44, 0 => some (s.hotSensor.getD 0)
  | 4, 0x44, 8 => some (match s.hotSensor with | some i => to12 (s.sensor i).tj | none => 0)
  | 4, 0x44, 20 => some (b2n (s.mgmt.sensors.any fun e => e.2.st != 0))
  | 4, 0x44, _ => some (b2n (s.mgmt.sensors.any fun e => e.2.st == 2))
  | 4, 0x50, 0 => some (to12 (s.sensor f.bank).tj)
  | 4, 0x50, 12 => some (s.bandOf f.bank)
  | 4, 0x50, 15 => some (s.sensor f.bank).st
  | 4, 0x50, 17 => some (b2n (s.sensor f.bank).fault)
  | 4, 0x50, _ => some (s.sensor f.bank).duty
  | 4, 0x54, 8 => some s.dutyMax
  | 4, off, _ =>
    if 0x70 ≤ off ∧ off < 0x7c then some (maskOf ((List.range 32).filter fun b => (s.sensor (32 * ((off - 0x70) / 4) + b)).st != 0))
    else if 0x80 ≤ off ∧ off < 0x8c then some (maskOf ((List.range 32).filter fun b => (s.sensor (32 * ((off - 0x80) / 4) + b)).st == 2))
    else none
  | 5, 0x44, 0 => some (b2n s.reqEnc)
  | 5, 0x4c, _ => some s.heldMask
  | 5, 0xa0, 3 => some (b2n (s.mgmt.fuseRead && Config.fuseKey.isSome))
  | 5, 0xa0, 4 => some (b2n (s.mgmt.fuseRead && Config.encOnly))
  | 8, 0x98, 0 => some (s.tokBuckets (s.get Reg.QOS_TOK_SEL_POINT))
  | 8, 0x98, _ =>
    let pt := s.get Reg.QOS_TOK_SEL_POINT
    some (if s.keep.domainsOn then 1024 - s.tokBuckets pt - s.tokFlight pt else 0)
  | 9, 0x48, l => some (let c := s.ctxShown
    match l with
    | 0 => c.state | 3 => b2n c.recv | 4 => b2n c.sel | 5 => b2n c.brynn | 6 => c.tc | 9 => b2n c.cause | 10 => c.gen | _ => c.peerNode)
  | 9, 0x4c, _ => some s.ctxShown.peerSid
  | 9, 0x50, _ => some s.ctxShown.seq
  | 9, 0x54, _ => some s.ctxShown.acked
  | 9, 0x58, 0 => some (if s.ctxShown.recv then s.ctxShown.held.length else s.ctxShown.live.length)
  | 9, 0x58, _ => some s.ctxShown.replays
  | 9, 0x90, _ => some s.strm.larder.length
  | 9, 0x98, _ => some s.robUsed
  | 10, 0x50, l => some (bits s.routeShown l f.width)
  | 11, 0x40, _ => some (s.ftime % 2 ^ 32)
  | 13, 0x48, 1 => some s.workTiles.length
  | 13, 0x48, 7 => some (s.workTiles.map fun t => (s.tileAt t).free).sum
  | 13, 0x54, _ => some (maskOf (s.holders (s.get Reg.TEG_SET_SEL_SETID)))
  | 13, 0x98, 0 => some (s.teqAt f.bank).slots.length
  | 14, off, _ =>
    if 0x80 ≤ off ∧ off < 0xa0 then some (s.mgmt.mboxRes.getD ((off - 0x80) / 4) 0).toNat
    else if 0xa0 ≤ off ∧ off < 0xc0 then
      some (maskOf ((List.range 32).filter fun b => pageAssigned (32 * ((off - 0xa0) / 4) + b) && s.irqLine (32 * ((off - 0xa0) / 4) + b)))
    else none
  | _, _, _ => none

/-- Fields of the pages HPn, OPn, LAMn and TTt that show live state. -/
def State.viewUnit (s : State) (f : Fld) : Option Nat :=
  let p := f.page
  if 16 ≤ p ∧ p < 40 then
    match f.off with
    | 0x50 => if p % 2 = 1 then some 0 else none
    | 0x60 => if f.lsb = 24 then some (b2n (decide (2 ≤ s.power) && (s.hpAt (p - 16)).level)) else none
    | 0x8c => some (lbView (s.hpAt (p - 16)).lbErr (s.get (Reg.HP_LB_LANE (p - 16))) s.fresh (s.get (Reg.HP_LB_MODE (p - 16)) == 3))
    | _ => none
  else if 48 ≤ p ∧ p < 64 then
    match f.off with
    | 0x74 => some (lbView (s.opAt (p - 48)).lbErr (s.get (Reg.OP_LB_LANE (p - 48))) s.fresh (s.loopPrbs (p - 48)))
    | _ => none
  else if 64 ≤ p ∧ p < 80 then
    let n := p - 64
    let lock := fun (rx : Bool) (base : Nat) (k : Nat) => maskOf ((List.range k).filter fun l => (s.ringAt n rx (base + l)).lock)
    match f.off, f.lsb with
    | 0x44, 12 => some (s.freeSpares n).length
    | 0x44, 17 => some (s.bandMax (portSensors n))
    | 0x48, _ => some (lock false 0 32)
    | 0x4c, _ => some (lock true 0 32)
    | 0x50, 0 => some (lock false 32 4)
    | 0x50, _ => some (lock true 32 4)
    | 0x58, 0 => some (s.ringShown n).code
    | 0x58, 16 => some ((s.ringShown n).slot - 1)
    | 0x58, 22 => some (b2n (s.ringShown n).lock)
    | 0x58, 23 => some (b2n (s.ringShown n).bad)
    | 0x58, 24 => some (b2n (s.ringShown n).absent)
    | 0x58, _ => some (min (s.ringShown n).flaps 16)
    | _, _ => none
  else if 96 ≤ p ∧ p < 128 then
    let t := p - 96
    let x := s.tileAt t
    match f.off, f.lsb with
    | 0x40, 0 => some (s.tileState t)
    | 0x40, 2 => some x.win
    | 0x40, 9 => some x.sets.length
    | 0x40, _ => some (b2n (s.tileGated t))
    | 0x44, 0 => some (if x.meas.isSome then s.ceiling t else 0)
    | 0x44, _ => some (if x.meas.isSome then min (s.tileAge t) (2 ^ 20 - 1) else 0)
    | off, l =>
      if 0x48 ≤ off ∧ off < 0x68 then
        let k := (off - 0x48) / 4
        some (match x.slots.getD k none with
          | none => 0
          | some w => match l with
            | 0 => w.setid | 16 => b2n w.q8 | 17 => 1 | _ => b2n (x.active == some k))
      else none
  else none

/-- The value a read of a field shows. -/
def State.view (s : State) (f : Fld) : Nat :=
  match (if f.page < 16 then s.viewLow f else s.viewUnit f) with
  | some v => v % 2 ^ f.width
  | none => s.get f

/-- The bank a page's select register names (HEAT_SEL, TEG_Q_SEL, OP_CRA_SEL). -/
def State.bankOf (s : State) (p : Nat) : Nat :=
  if p = 4 then s.get Reg.HEAT_SEL_SENSOR
  else if p = 13 then s.get Reg.TEG_Q_SEL_Q
  else if 48 ≤ p ∧ p < 64 then s.get (Reg.OP_CRA_SEL_POOL (p - 48))
  else 0

/-- The fields of the register at an address, in the bank selected; a queue's, a sensor's or a pool's registers alone are banked. -/
def State.fieldsOf (s : State) (p off : Nat) : List CardField := fieldsAt p off (s.bankOf p)

/-- A register of the header that no field holds (R90); STAT [8] of a host-port page says that the module is ACTIVE. -/
def State.headWord (s : State) (p off : Nat) : Option Nat :=
  if off = 0 then some (p + 0x0512 * 256)
  else if off = 4 then some (0xB0 + 0x01 * 256)
  else if off = 0xC then some (b2n (s.pageReady p) + (if 16 ≤ p ∧ p < 40 then 256 * b2n (s.get (Reg.HP_STAT_STATE (p - 16)) == 5) else 0))
  else none

/-- The partition of a fabric-owned page: that of its host port, or P24 (Table FAULT-1). (DESIGN CHOICE: assumption 8) -/
def fabPart (p : Nat) : Nat := if p < 176 then (p - 128) / 2 else 24

/-- The registers of a fabric-owned page whose bits [31:8] the loaded personality defines: CTL, STAT, ERR and EVT (R90). -/
def persHead (p off : Nat) : Bool := pageFabric p && (off == 8 || off == 0xC || off == 0x10 || off == 0x18)

/-- What the personality's part of such a register shows: of the bits that the personality of its partition defines a free value, 0 in the others (R90). (DESIGN CHOICE: assumption 8) -/
def State.persWord (s : State) (p off : Nat) : Nat :=
  if persHead p off then
    256 * (((Config.freeWord (8 * s.fresh)).toNat / 256) &&& (Config.persBits (tget {} s.mgmt.loadedFrom (fabPart p)).persId p off).toNat)
  else 0

/-- The word at an offset of an assigned page; fields that a write alone reaches read 0 (R90, R92). The registers of a fabric-owned page beyond its header are its personality's: a free value. (DESIGN CHOICE: assumption 8) -/
def State.word (s : State) (p off : Nat) : Nat :=
  s.persWord p off + match s.headWord p off with
  | some v => v
  | none =>
    if pageFabric p ∧ 0x40 ≤ off then (Config.freeWord (8 * s.fresh)).toNat
    else ((s.fieldsOf p off).map fun c => if c.acc = .wo then 0 else s.view c.fld * 2 ^ c.fld.lsb).sum

end Sys2Proof.Machine
end

