-- ==== Sys2Proof/Machine/Attic.lean ====
section
/-! DEFINITION. Dumps into the Attic: their records and pages, the fatal dump, and what DUMP_NOW writes (R297, R371 to R374). -/

namespace Sys2Proof.Machine

/-! Records (Table FAULT-5). -/

/-- The pages 0x00 to 0x7F that are assigned. -/
def dumpedPages : List Nat := (List.range 128).filter pageAssigned

/-- Words of the register space from an offset of a page, big-endian. (DESIGN CHOICE: assumption 50) -/
def State.image (s : State) (p off n : Nat) : List Nat := ((List.range n).map fun i => natBe 4 (s.word p (off + 4 * i))).flatten

/-- HEAD (Table FAULT-6). -/
def State.headRec (s : State) (kind reason start slot : Nat) : List Nat :=
  [0, 1, 0x05, 0x12, 0xB0, kind, 0, 0] ++ natBe 4 reason ++ natBe 4 s.nv.bootCount ++ natBe 8 start ++
    natBe 4 (Config.firmwareVersion s.mgmt.fwSlot).toNat ++
    natBe 4 (s.get Reg.CFG_PERS_ID_ID) ++ [s.power, s.get Reg.TWIN_STAT_ROLE] ++ natBe 2 (s.get Reg.ROUTE_NODE_NODE) ++
    natBe 2 (s.get Reg.ROUTE_NODE_DOMAIN) ++ [slot] ++ List.replicate 25 0

/-- A Shelf entry's 16 bytes: SHELF_EV, SHELF_TIME_LO, SHELF_TIME_HI and 0; zeros for an empty entry. -/
def shelfBytes (e : Option ShelfEntry) : List Nat :=
  match e with
  | none => List.replicate 16 0
  | some e => natBe 4 (e.code + e.bit * 2 ^ 3 + e.errbit * 2 ^ 9 + e.page * 2 ^ 14 + b2n e.coarse * 2 ^ 22 + b2n e.suspect * 2 ^ 23) ++
      natBe 4 (e.time % 2 ^ 32) ++ natBe 4 (e.time / 2 ^ 32) ++ natBe 4 0

/-- FAULT. -/
def State.faultRec (s : State) : List Nat :=
  s.image 3 0x40 48 ++ ((List.range 16).map fun i => shelfBytes s.keep.shelf[i]?).flatten ++
    (dumpedPages.map fun p => natBe 4 (s.get (Reg.ERR p)) ++ natBe 4 (s.get (Reg.ERR_MSK p)) ++ natBe 4 (s.get (Reg.EVT p))).flatten

/-- REGS: a page whose domain is isolated has bit 31 of its number set and no image. -/
def State.regsRec (s : State) : List Nat :=
  (dumpedPages.map fun p => if s.pageLive p then natBe 4 p ++ s.image p 0 1024 else natBe 4 (p + 2 ^ 31)).flatten

/-- ROUTE: the active bank first. -/
def State.routeRec (s : State) : List Nat :=
  let a := s.get Reg.ROUTE_BANK_ACTIVE
  ([a, 1 - a].map fun b => ((List.range 1024).map fun e => natBe 4 (tget 0 s.routes (1024 * b + e))).flatten).flatten

/-- LINE: LAM_LINE of the transmit lines, then of the receive lines, of each port. -/
def State.lineRec (s : State) : List Nat :=
  ((List.range 16).map fun n => ([false, true].map fun rx => ((List.range 36).map fun l =>
    let r := s.ringAt n rx l
    natBe 4 (r.code + (r.slot - 1) * 2 ^ 16 + b2n r.lock * 2 ^ 22 + b2n r.bad * 2 ^ 23 + b2n r.absent * 2 ^ 24 + min r.flaps 16 * 2 ^ 25)).flatten).flatten).flatten

/-- CHAN: each channel's next sequence, last acknowledged and unacknowledged count in 3, 3 and 2 bytes. (DESIGN CHOICE: assumption 50) -/
def State.chanRec (s : State) : List Nat :=
  ((List.range 2048).map fun k => let c := s.chanAt k; natBe 3 c.seq ++ natBe 3 c.acked ++ natBe 2 c.unack.length).flatten

/-- TAGS: tag, master, node, operation and address in 4, 2, 2, 2 and 6 bytes. (DESIGN CHOICE: assumption 50) -/
def State.tagsRec (s : State) : List Nat :=
  (s.strm.tags.map fun e => match e.2 with
    | some r => natBe 4 e.1 ++ natBe 2 r.master ++ natBe 2 r.node ++ natBe 2 r.op ++ natBe 6 r.addr
    | none => []).flatten

/-- The replay count of the frame in a slot. -/
def State.slotReplays (s : State) (port slot : Nat) : Nat :=
  let at' := fun (us : List Unacked) => us.find? fun u => u.port == port && u.slot == slot
  match (s.strm.larder.findSome? fun e => at' e.2.unack) with
  | some u => u.replays
  | none => ((s.strm.chans.findSome? fun e => at' e.2.unack).map (·.replays)).getD 0

/-- PANTRY: port, slot and replay count in 4 bytes each, 4 zeros, and the header. (DESIGN CHOICE: assumption 50) -/
def State.pantryRec (s : State) : List Nat :=
  ((List.range 16).map fun n => ((s.opAt n).pantry.map fun e => match e.2 with
    | some f => natBe 4 n ++ natBe 4 e.1 ++ natBe 4 (s.slotReplays n e.1) ++ natBe 4 0 ++ natBe 16 (frameHead f)
    | none => []).flatten).flatten

/-- TEQ: queue and slot in 2 bytes each, the descriptor, and its state: 0 queued, 1 dispatched. (DESIGN CHOICE: assumption 50) -/
def State.teqRec (s : State) : List Nat :=
  (s.te.queues.map fun e => ((e.2.slots.zipIdx).map fun d =>
    natBe 2 e.1 ++ natBe 2 d.2 ++ (d.1.words.map (natBe 4)).flatten ++ natBe 4 (b2n d.1.res.isSome)).flatten).flatten

/-- LARDER: the SID and the images of STRM_CTX0 to STRM_CTX4. -/
def State.larderRec (s : State) : List Nat :=
  (s.strm.larder.map fun e =>
    let c := e.2
    natBe 4 e.1 ++ natBe 4 (c.state + b2n c.recv * 2 ^ 3 + b2n c.sel * 2 ^ 4 + b2n c.brynn * 2 ^ 5 + c.tc * 2 ^ 6 + b2n c.cause * 2 ^ 9 + c.gen * 2 ^ 10 +
      c.peerNode * 2 ^ 18) ++ natBe 4 c.peerSid ++ natBe 4 c.seq ++ natBe 4 c.acked ++
      natBe 4 ((if c.recv then c.held.length else c.live.length) + c.replays * 2 ^ 16) ++ natBe 8 0).flatten

/-! Pages (R372, R373). -/

/-- A page of a record before it has its place in the slot. -/
structure DumpPage where
  ty    : Nat
  first : Bool
  last  : Bool
  part  : Nat
  data  : List Nat
  deriving DecidableEq, Repr

/-- A record cut into pages; one with nothing to hold is one empty page. -/
def recPages (ty : Nat) (data : List Nat) : List DumpPage :=
  let cs := if data.isEmpty then [[]] else chunks 4064 (data.length / 4064 + 1) data
  (cs.zipIdx).map fun c => ⟨ty, c.2 == 0, c.2 + 1 == cs.length, c.2, c.1⟩

/-- A page's DATA area. -/
def DumpPage.area (p : DumpPage) : List Nat := p.data ++ List.replicate (4064 - p.data.length) 0

/-- A page's 4 KiB (Table FAULT-4). -/
def DumpPage.bytes (p : DumpPage) (id idx : Nat) : List Byte :=
  let h := [0xA7, 0xC1, p.ty, b2n p.first + 2 * b2n p.last] ++ natBe 4 id ++ natBe 4 idx ++ natBe 4 p.part ++ natBe 2 p.data.length ++ List.replicate 10 0
  toBytes (h ++ natBe 4 (crc32c (h ++ p.area)) ++ p.area)

/-- The pages of a slot that a writer has not skipped. -/
def slotFree (skip : List Nat) : List Nat := (List.range 65536).filter fun i => !skip.contains i

/-- A dump's pages with their places in the slot, and whether it was truncated (R373). (DESIGN CHOICE: assumption 50) -/
def State.dumpPages (s : State) (kind reason start slot : Nat) (skip : List Nat) : List (Nat × List Byte) × Bool :=
  let free := slotFree skip
  let early := recPages 1 (s.headRec kind reason start slot) ++ recPages 2 s.faultRec ++ recPages 3 s.regsRec ++ recPages 4 s.routeRec ++
    recPages 5 s.lineRec ++ recPages 6 s.chanRec ++ recPages 7 s.tagsRec ++ recPages 8 s.pantryRec ++ recPages 9 s.teqRec ++
    recPages 10 s.larderRec ++ recPages 11 (toVals ((Config.firmwareLog s.fresh).take 1048576))
  let at' := free.getD early.length 65536
  let all := early ++ recPages 12 ((skip.filter fun i => decide (i < at')).map (natBe 2)).flatten
  let kept := all.take (free.length - 1)
  let last := free.getD kept.length 65535
  let fin : List Nat := natBe 4 (kept.map (·.ty)).eraseDups.length ++ natBe 4 kept.length ++ natBe 4 (skip.filter fun i => decide (i < last)).length ++
    natBe 8 s.ftime ++ sha256 (kept.map (·.area)).flatten
  ((free.zip (kept ++ recPages 15 fin)).map fun x => (x.1, x.2.bytes s.nv.bootCount x.1), decide (kept.length < all.length))

/-- The first page of a slot. -/
def slotBase (k : Nat) : Nat := atticBase / 4096 + 65536 * k

/-- Pages of a slot that fail their verify, by their place in it (R297). (DESIGN CHOICE: assumption 50) -/
def skipOf (k : Nat) (env : CellEnv) : List Nat :=
  (List.range 65536).filter fun i => decide (slotBase k + i ∈ env.retire)

/-- The lowest FREE slot (R297). -/
def State.freeSlotOf (s : State) : Option Nat := (List.range 8).find? fun k => tget AtticState.free s.nv.attic k == .free

def State.setAttic (s : State) (k : Nat) (a : AtticState) : State := s.onNv fun v => { v with attic := tset .free v.attic k a }

/-- A dump begins in a slot: which of its pages are written while it runs is not told, so they read as free values until it has ended (R297). (DESIGN CHOICE: assumption 50) -/
def State.dumpBegin (s : State) (k : Nat) : State :=
  (s.setAttic k .writing).onNv fun v =>
    { v with lost := ((List.range 65536).map (slotBase k + ·)) ++ v.lost.filter fun p => !(decide (slotBase k ≤ p) && decide (p < slotBase k + 65536)) }

/-- A dump has been written: its pages are in the slot, which is FULL. (DESIGN CHOICE: assumption 50) -/
def State.dumpWrite (s : State) (k : Nat) (pages : List (Nat × List Byte)) : State :=
  let t := s.forAll pages fun p u => (u.program1 (slotBase k + p.1) false).2.onNv fun v => v.write ((slotBase k + p.1) * 4096) p.2
  (t.setAttic k .full).cellGauges

/-! The fatal dump (R371). -/

/-- FATAL_DUMP (R371): the housekeeper starts the dump that is due in the lowest FREE slot. -/
def execFatalDump (env : CellEnv) (s : State) : Result :=
  .next (s.cond (s.keep.dump == .due && s.mgmt.hkRun && s.bit Reg.CELL_STAT_MOUNTED && s.cellClocked) fun s =>
    let none' := fun (t : State) (r : Nat) => ((t.dumpRecord r).onKeep fun k => { k with dump := .idle }).trapPowerDown
    match s.freeSlotOf with
    | none => none' s 2
    | some k =>
      let t := if env.winCloses = some 0 then s.winClose else s
      if !t.bit Reg.CELL_STAT_WIN then none' t 3
      else if env.bootFails then none' t 4
      else
        (((t.dumpBegin k).onKeep fun d => { d with dump := .running, dumpSkip := skipOf k env, dumpStart := s.ftime }).dumpRecord 0).put Reg.FAULT_DUMP_SLOT k)

/-- FATAL_DUMP_END (R371): the outcome of the running dump. -/
def execFatalDumpEnd (r : DumpResult) (s : State) : Result :=
  .next (s.cond (s.keep.dump == .running) fun s =>
    let k := s.get Reg.FAULT_DUMP_SLOT
    let done := fun (t : State) (code : Nat) => ((t.dumpRecord code).onKeep fun d => { d with dump := .idle, dumpSkip := [] }).trapPowerDown
    match r with
    | .windowClosed => done s.winClose 3
    | .cellErr => done s 4
    | .aborted => done s 5
    | .whole | .truncated =>
      let (pages, cut) := s.dumpPages 0 (s.get Reg.FAULT_FIRST_SRC_BIT) s.keep.dumpStart k s.keep.dumpSkip
      let t := { s with fresh := s.fresh + 1 }.dumpWrite k pages
      if cut then done t 7 else done ((t.shelve 6 0 0 0).raiseEvt 3 4) 1)

/-- HK_DEAD (R371): the dump has not started 10 ms after the entry. -/
def execHkDead (s : State) : Result :=
  .next (s.cond (s.keep.dump == .due) fun t => ((t.dumpRecord 6).onKeep fun k => { k with dump := .idle }).trapPowerDown)

/-! DUMP_NOW (R371). -/

/-- What DUMP_NOW does when it starts: its code, its results and the state: the slot is taken, or there is none, the window is closed, or the directory cannot be written. -/
def State.dumpNow (s : State) (reason : Nat) (env : CellEnv) : Nat × List Nat × State :=
  match s.freeSlotOf with
  | none => (0x0B, [], s)
  | some k =>
    let t := if env.winCloses = some 0 then s.winClose else s
    if !t.bit Reg.CELL_STAT_WIN then (7, [], t.bump Reg.CELL_CNT_TEMP_REF)
    else if env.bootFails then (8, [], t)
    else
      let (pages, cut) := t.dumpPages 1 reason t.ftime k (skipOf k env)
      let u := ({ t.dumpBegin k with fresh := t.fresh + 1 }).onKeep fun d => { d with dumpStart := t.ftime, dumpSkip := skipOf k env }
      match env.winCloses with
      | some n => if n < pages.length then (7, [], u.winClose) else (0, [k, b2n cut], u)
      | none => (0, [k, b2n cut], u)

/-- DUMP_NOW ends well: the dump is in its slot. -/
def State.dumpNowEnd (s : State) (reason k : Nat) : State :=
  let (pages, _) := s.dumpPages 1 reason s.keep.dumpStart k s.keep.dumpSkip
  { s with fresh := s.fresh + 1 }.dumpWrite k pages

end Sys2Proof.Machine
end

