-- ==== Sys2Proof/Machine/Sequencer.lean ====
section
/-! DEFINITION. The steps of power-up and power-down (R52, R62, R63, R78 to R86, R299, R401). -/

namespace Sys2Proof.Machine

/-! KEEP to MGMT. -/

/-- S1_RAILS (R52, R62): the rails are good; S2 latches the straps, unless the climb stops at the end of S1. -/
def execS1Rails (straps : Straps) (s : State) : Result :=
  .next (s.cond (s.atStep 1) fun t =>
    let t := t.onKeep fun k => { k with railsGood := 31, railWatch := true }
    if t.bit Reg.PWR_STAT_OFF_PEND || t.keep.trapStop then t.boundary 1
    else (((t.putB Reg.KEEP_STRAP_LEGACY_BRN straps.legacyBrn).put Reg.KEEP_STRAP_BOOT_SRC straps.bootSrc).putB
      Reg.KEEP_STRAP_CHAIN_FIRST straps.chainFirst |>.putB Reg.KEEP_STRAP_TWIN_ROLE straps.twinRole).boundary 2)

/-- RAIL_MISSING (R52): the power-up is abandoned. -/
def execRailMissing (good : RailMask) (s : State) : Result :=
  .next (s.cond (s.atStep 1 && good != 31) fun t =>
    ((((t.onKeep fun k => { k with railsGood := good }).put Reg.PWR_REC_RAIL_MISSING 1).put Reg.PWR_REC_RAIL_MASK (31 - good.toNat)).stepFail 1 7))

/-- S3_MGMT_ON (R80): MGMT is powered and clocked; LINK_CTL.COMPAT takes its reset value from the strap (Table PKG-6). -/
def execS3MgmtOn (s : State) : Result :=
  .next (s.cond (s.atStep 3) fun t =>
    let t := ((t.onKeep fun k => { k with mgmtOn := true }).put Reg.CLK_STAT_REFCLK_OK 1).put Reg.CLK_STAT_LOCK 1
    (t.cond (t.bit Reg.KEEP_STRAP_LEGACY_BRN) fun u => u.forAll (List.range 16) fun n w => w.put (Reg.LINK_CTL_COMPAT n) 1).boundary 3)

/-- S4_FUSE (R80). -/
def execS4Fuse (s : State) : Result :=
  .next (s.cond (s.atStep 4) fun t => (t.onMgmt fun m => { m with fuseRead := true }).boundary 4)

/-- S5_HK_BOOT (R63, R105): MGMT is reached; a strap conflict stops the climb here. -/
def execS5HkBoot (s : State) : Result :=
  .next (s.cond (s.atStep 5) fun t =>
    let t := ((t.onMgmt fun m => { m with hkRun := true }).put Reg.MBOX_ST_ROM 1).reachState 1
    (t.cond (t.bit Reg.KEEP_STRAP_CHAIN_FIRST && t.get Reg.KEEP_STRAP_BOOT_SRC == 1) (·.put Reg.PWR_REC_STRAP_CONFLICT 1)).boundary 5)

/-! MGMT to DARK. -/

/-- S6_DOMAINS_ON (R80): every domain is powered and clocked. -/
def execS6DomainsOn (s : State) : Result :=
  .next (s.cond (s.atStep 6) fun t =>
    ((t.onKeep fun k => { k with domainsOn := true }).put Reg.CLK_STAT_LOCK 0x3F).boundary 6)

/-- S7_CELLAR (R298, R299): the mount, unless a command has made it, and the boot record. -/
def execS7Cellar (env : CellEnv) (s : State) : Result :=
  .next (s.cond (s.atStep 7 && s.cellClocked) fun t =>
    match if t.bit Reg.CELL_STAT_MOUNTED then some t else t.mount env with
    | none => t.stepFail 7 5
    | some u =>
      match u.commitBoot env with
      | none => u.stepFail 7 5
      | some w => w.boundary 7)

/-- A firmware slot holds a committed object whose SHA-256 checks (R295, R401). -/
def State.fwGood (s : State) (slot : Nat) : Bool :=
  let e := tget {} s.nv.loft slot
  e.committed && toBytes (sha256 (toVals (s.nv.read (loftAddr slot) e.len))) == e.digest

/-- The firmware of a slot runs, as its present commit generation has it (R295). -/
def State.runFw (s : State) (slot : Nat) : State := (s.onMgmt fun m => { m with fwSlot := some (slot, (tget {} s.nv.loft slot).gen) }).put Reg.MBOX_ST_ROM 0

/-- S8 reads a slot (R302, R401): an uncorrectable read fails it; else its digest decides. -/
def State.fwRead (s : State) (slot : Nat) (env : CellEnv) : Bool × State :=
  let e := tget ({} : LoftEntry) s.nv.loft slot
  match (if e.committed then CellEnv.firstUe env (pagesOf (loftAddr slot) e.len) else none) with
  | some p => (false, s.cellUe p)
  | none => (s.fwGood slot, s)

/-- S8_FIRMWARE (R302, R401): slot 0, or slot 1 once; a slot may read uncorrectable. -/
def execS8Firmware (env : CellEnv) (s : State) : Result :=
  .next (s.cond (s.atStep 8 && s.cellClocked) fun t =>
    let (good0, t) := (t.cellCorr env.corrected).fwRead 0 env
    if good0 then (t.runFw 0).boundary 8
    else
      let (good1, t) := t.fwRead 1 env
      if good1 then (t.runFw 1).boundary 8 else t.stepFail 8 6)

/-- S9_KEY (R118): the keys go to the engine; DARK is reached, and S10 starts beside the later steps (R80, R121). -/
def execS9Key (s : State) : Result :=
  .next (s.cond (s.atStep 9) fun t =>
    let k := t.nv.batteryKey
    let t := ((t.onMgmt fun m => { m with engineFuse := Config.fuseKey.isSome, engineBat := k }).putB Reg.CFG_BKEY_CTL_PRESENT k.isSome).put
      Reg.CFG_BKEY_KCV_KCV (match k with | some b => kcv b | none => 0)
    let t := ((t.cond k.isNone (·.put Reg.PWR_REC_KEY_EMPTY 1)).reachState 2).hpDark
    (t.cond (!t.bit Reg.PWR_STAT_OFF_PEND && !t.keep.trapStop) (·.s10)).boundary 9)

/-! DARK to RUN. -/

/-- NODE_ID_WAIT_END (R78). -/
def execNodeIdWaitEnd (s : State) : Result :=
  .next (s.cond (s.bit Reg.PWR_STAT_WAIT_NODE_ID && s.bit Reg.ROUTE_NODE_VALID) (·.boundary 9))

/-- The ring map is read as S12 starts (R302, Table CELL-3): a copy that reads uncorrectable is invalid. -/
def State.mapRead (s : State) (mapUe : List Nat) : State :=
  s.cond (s.bit Reg.PWR_CTL_WARM_OK && !s.bit Reg.PWR_STAT_OFF_PEND && !s.keep.trapStop && decide (s.power < s.climbTarget)) fun t =>
    t.forAll (mapUe.filter fun p => decide (pageOf calBase ≤ p) && decide (p < corrPage 0 false)) fun p u => (u.cellUe p).onNv fun v => v.dropCopy p

/-- S11_COMB (R167, R173): each module is brought up, COMBS where SPARE_HOT is 1; a quad whose module failed may go onto COMBS. -/
def State.s11 (s : State) (mods : List ModuleUp) (mapUe : List Nat) : State :=
  let t := s.forAll ([0, 1, 2, 3] ++ (if s.bit Reg.COMB_CTL_SPARE_HOT then [4] else [])) fun m u => u.combUp m (mods.getD m {})
  (t.forAll [0, 1, 2, 3] fun q u => u.cond (u.quadNeeds q) (·.autoSwitch q)).mapRead mapUe |>.boundary 11

/-- S11_COMB. (DESIGN CHOICE: assumption 35) -/
def execS11Comb (mods : List ModuleUp) (mapUe : List Nat) (s : State) : Result := .next (s.cond (s.atStep 11) (·.s11 mods mapUe))

/-- A ring that serves a line of a bank, by its key in the ring table. -/
def ringIdKey (r : RingId) : Nat := ringKey r.port r.rx r.idx

/-- The rings of a warm port that have not locked and are still to be swept alone (R185), as slots of each quad. (DESIGN CHOICE: assumption 35) -/
def State.loneSweeps (s : State) (unlocked : List RingId) : List Nat :=
  (unlocked.filter fun r =>
    let g := s.ringAt r.port r.rx r.idx
    s.bit (Reg.LAM_STAT_WARM r.port) && g.slot != 0 && !g.bad && !g.absent && !s.mgmt.lone.contains (ringKey r.port r.rx (g.slot - 1))).map
      fun r => ringKey r.port r.rx ((s.ringAt r.port r.rx r.idx).slot - 1)

/-- The sweeps of single rings are queued at their quads' engines (R179, R185). -/
def State.queueLone (s : State) (ks : List Nat) : State :=
  (s.onMgmt fun m => { m with lone := m.lone ++ ks }).forAll [0, 1, 2, 3] fun q t =>
    let l := ks.filter fun k => keyPort k / 4 == q
    t.cond (!l.isEmpty) fun u => (u.onMgmt fun m => { m with sweep := tset [] m.sweep q (l.map fun k => (k, 3)) }).markQuad q true

/-- S12_RINGS (R81, R185): after every sweep of a search has ended, the rings in use lock, but for those that fail to; a ring that fails to relock in a warm S12 is first swept alone, and S12 goes on. (DESIGN CHOICE: assumption 35) -/
def execS12Rings (unlocked : List RingId) (s : State) : Result :=
  .next (s.cond (s.atStep 12 && s.mgmt.sweep.isEmpty) fun t =>
    let bad := unlocked.map ringIdKey
    let ks := t.loneSweeps unlocked
    let u := { t with rings := tmap {} (fun k r =>
      { r with lock := r.slot != 0 && !r.bad && !r.absent && !r.parked && !(bad.contains k), frozen := false, low := false }) t.rings }
    if ks.isEmpty then (u.forAll ((List.range 16).filter u.allLocked) fun n v => v.raiseEvt (64 + n) 0).boundary 12
    else u.queueLone ks)

/-- S13 ends: LIT is reached, and every tile measures (R80, R287). -/
def State.s13 (s : State) : State := ((s.reachState 3).teStart).boundary 13

/-- S13_TRAIN (R80): ports that have not trained go on in the background. (DESIGN CHOICE: assumption 35) -/
def execS13Train (s : State) : Result := .next (s.cond (s.atStep 13) (·.s13))

/-- The traffic gates open, but not on a standby twin (R80, R153, R334). (DESIGN CHOICE: assumption 46) -/
def State.openGates (s : State) : State := if s.get Reg.TWIN_STAT_ROLE = 2 then s else ({ s with gates := true }).crInitAll

/-- S14_GATES (R80). -/
def execS14Gates (s : State) : Result := .next (s.cond (s.atStep 14) fun t => (t.openGates.reachState 4).boundary 14)

/-! Failures, abort points, undo. -/

/-- POWER_UP_STEP_TIMEOUT (Table PWR-4): the step is recorded and undone, or the climb goes on. (DESIGN CHOICE: assumption 35) -/
def execPowerUpStepTimeout (refclkMissing : Bool) (s : State) : Result :=
  if !(s.bit Reg.PWR_STAT_BUSY && !s.bit Reg.PWR_STAT_DIR && !s.bit Reg.PWR_STAT_WAIT_NODE_ID) then .next s
  else .next (match s.get Reg.PWR_STAT_STEP with
    | 3 => s.stepFail 3 (if refclkMissing then 1 else 2)
    | 4 => s.stepFail 4 3
    | 5 => s.stepFail 5 4
    | 6 => s.stepFail 6 2
    | 7 => s.stepFail 7 5
    | 8 => s.stepFail 8 6
    | 11 => s.s11 [] []
    | 12 => ((s.onMgmt fun m => { m with sweep := [] }).forAll (List.range 16) fun n u => u.put (Reg.LAM_STAT_SEARCHING n) 0).boundary 12
    | 13 => s.s13
    | _ => s)

/-- ABORT_POINT (R77, R82, R368): in an abortable step or the wait for a node ID, an off request, the Trapdoor or a lowered target stops the climb. -/
def execAbortPoint (s : State) : Result :=
  let step := s.get Reg.PWR_STAT_STEP
  let wait := s.bit Reg.PWR_STAT_WAIT_NODE_ID
  if !s.bit Reg.PWR_STAT_BUSY || s.bit Reg.PWR_STAT_DIR || !(wait || step ∈ [1, 3, 5, 6, 8, 11, 12, 13]) then .next s
  else .next (if s.bit Reg.PWR_STAT_OFF_PEND then s.startUndo 0 true false
    else if s.keep.trapStop then (if wait then s.seqIdle.onKeep fun k => { k with trapStop := false } else s.startUndo s.power false false)
    else if s.climbTarget ≤ s.power then (if wait && s.climbTarget == s.power then s.seqIdle else s.startUndo s.climbTarget false true)
    else s)

/-- UNDO_DONE (R75, R77, R82, R84): the steps are undone. PWR_TIME takes the duration where a transition has completed: an off request, or a lower state than the one the undo began in. At KEEP, PWR_EN is sampled where the undo ends a power-down; after a lowered target, the target is read again. -/
def execUndoDone (s : State) : Result :=
  match s.keep.undo with
  | none => .next s
  | some u =>
    let t := s.undoSteps (s.get Reg.PWR_STAT_STEP) u.target
    let t := t.onKeep fun k => { k with undo := none, seqStart := s.keep.seqStart }
    let t := (t.cond (u.sample || s.power != u.target) (·.reachState u.target)).seqIdle
    .next (if u.sample then t.sampleEn else if u.again then t.follow else t)

/-! Power-down. -/

/-- The sequencer is at power-down step `k`. -/
def State.atDown (s : State) (k : Nat) : Bool := s.bit Reg.PWR_STAT_BUSY && s.bit Reg.PWR_STAT_DIR && s.keep.undo.isNone && s.get Reg.PWR_STAT_STEP == k

/-- P2_LIGHT_OFF (R85): links, ring loops and combs off; the ring map is kept for P3, which runs beside. -/
def execP2LightOff (s : State) : Result :=
  .next (s.cond (s.atDown 18) fun t =>
    let t := t.onMgmt fun m => { m with mapStash := some s.mapNow }
    let t := ((t.forAll (List.range 16) fun n u => u.portDark n).ringsOff).combsOff
    t.put Reg.PWR_STAT_STEP (if t.keep.p3Done then 20 else 19))

/-- P3_MAP_SAVE (R85, R86): the ring map goes to CAL, from LIT or RUN and where SAVE_MAP is 1; a closed write window leaves it unsaved. (DESIGN CHOICE: assumption 35) -/
def execP3MapSave (env : CellEnv) (s : State) : Result :=
  .next (s.cond ((s.atDown 18 && !s.keep.p3Done) || s.atDown 19) fun t =>
    let t := if t.bit Reg.PWR_CTL_SAVE_MAP && decide (3 ≤ t.power) && t.bit Reg.CELL_STAT_MOUNTED then
        if !t.cellClocked then t.put Reg.PWR_REC_MAP_NOT_SAVED 1
        else
          let r := t.mapSave env (t.mgmt.mapStash.getD t.mapNow)
          r.2.cond (r.1 == 7) (·.put Reg.PWR_REC_MAP_NOT_SAVED 1)
      else t
    if t.get Reg.PWR_STAT_STEP = 19 then t.put Reg.PWR_STAT_STEP 20 else t.onKeep fun k => { k with p3Done := true })

/-- P4_CELLAR (R85, R312). -/
def execP4Cellar (s : State) : Result :=
  .next (s.cond (s.atDown 20) fun t => ((t.onNv fun v => { v with intents := [] }).unmount).put Reg.PWR_STAT_STEP 21)

/-- P5_DOMAINS_OFF (R85): the key register is zeroised and the domains are isolated. -/
def execP5DomainsOff (s : State) : Result := .next (s.cond (s.atDown 21) fun t => t.domainsOff.put Reg.PWR_STAT_STEP 22)

/-- P6_MGMT_OFF (R84, R85). -/
def execP6MgmtOff (s : State) : Result :=
  .next (s.cond (s.atDown 22) fun t =>
    (((t.isolate.onKeep fun k => { k with seqStart := t.keep.seqStart }).reachState 0)).sampleEn)

end Sys2Proof.Machine
end

