-- ==== Sys2Proof/Machine/TxnOps.lean ====
section
/-! DEFINITION. The payloads of TXN and ACK frames, frames entering and leaving ports (R199, R201, R208, R240, R244, R250). -/

namespace Sys2Proof.Machine

/-! Payload words. -/

/-- Word `i` of a payload, big-endian. -/
def wordAt (l : List Byte) (i : Nat) : Nat := beNat (((l.drop (4 * i)).take 4).map BitVec.toNat)

/-- A payload with word `i` replaced. -/
def setWord (l : List Byte) (i v : Nat) : List Byte := l.take (4 * i) ++ toBytes (natBe 4 v) ++ l.drop (4 * i + 4)

/-- Zeros up to a multiple of 64 bytes. -/
def pad64 (l : List Byte) : List Byte := l ++ List.replicate ((64 - l.length % 64) % 64) 0

/-- The first block of a TXN payload and the data after it (Table STRM-3): `w0` is word 0, `ops` words 5 to 15. -/
def txnPayload (w0 addr blocks : Nat) (ops data : List Byte) : List Byte :=
  let head := natBe 4 w0 ++ natBe 4 (addr / 2 ^ 32) ++ natBe 4 (addr % 2 ^ 32) ++ natBe 4 blocks ++ natBe 4 0
  (toBytes head ++ ops ++ List.replicate (44 - ops.length) 0) ++ pad64 data

/-- Operation codes of Table STRM-3. -/
def txnCode : TxnOp → Nat
  | .read => 1 | .write => 2 | .atomic => 3

/-- A TXN_REQ's payload. -/
def txnBytes (t : Txn) (tag : Nat) : List Byte :=
  let w0 := txnCode t.op * 2 ^ 28 + (if t.op = .atomic then t.opx % 256 else 0) * 2 ^ 20 + tag
  txnPayload w0 t.addr (if t.op = .read then t.blocks else 0) (if t.op = .atomic then t.data.take 44 else []) (if t.op = .write then t.data else [])

/-- A TXN_CPL's payload. -/
def cplBytes (c : TargetCpl) : List Byte :=
  txnPayload (txnCode c.op * 2 ^ 28 + c.status % 256 * 2 ^ 20 + c.tag) 0 0 (if c.op = .atomic then c.data.take 44 else []) (if c.op = .read then c.data else [])

/-- A NOP completion, which only acknowledges (R240), and the answer to a channel reset (R336). -/
def nopPayload (status : Nat) : List Byte := txnPayload (status * 2 ^ 20) 0 0 [] []

/-- The channel reset: OP NOP, OPX 0xFF, the promotion count in word 1 (R336). -/
def resetPayload (count : Nat) : List Byte := toBytes (natBe 4 (0xFF * 2 ^ 20) ++ natBe 4 count ++ List.replicate 56 0)

/-- An acknowledgement record of 32 bytes (Table LINK-4). -/
def ackBytes (sid cum : Nat) (rs : List (Nat × Nat)) : List Nat :=
  let w := [2 ^ 31 + rs.length * 2 ^ 28 + sid, cum] ++ rs.map (fun r => r.1 * 2 ^ 16 + r.2)
  ((w ++ List.replicate (8 - w.length) 0).map (natBe 4)).flatten

/-! Leaving a port. -/

/-- A stream acknowledgement rides in a frame bound for the node that needs it (R201, R230): one without ranges. -/
def State.piggyback (s : State) (f : Frame) (port : Nat) : Frame × State :=
  match s.strm.due.find? fun sid =>
      (s.ctxAt sid).peerNode == f.dst && (s.ackOf port sid).2.isEmpty && (!s.brynn port || decide ((s.ackOf port sid).1 < 65536)) with
  | some sid =>
    let c := (s.ackOf port sid).1
    ({ f with ackV := true, ackSid := (s.ctxAt sid).peerSid, ackSeq := c },
      (s.onCtx sid fun x => { x with acked := c }).onStrm fun m => { m with due := m.due.filter (· != sid) })
  | none => (f, s)

/-- A channel acknowledgement rides in any TXN frame bound the other way (R240). -/
def State.rideCa (s : State) (f : Frame) : Frame × State :=
  let c := s.chanAt (2 * f.dst + 1)
  if (f.ftype = 1 ∨ f.ftype = 2) ∧ c.due = true then
    ({ f with payload := setWord f.payload 4 (2 ^ 31 + c.seq) }, s.onChan (2 * f.dst + 1) fun c => { c with due := false, acked := c.seq })
  else (f, s)

/-- Link credits of a frame's pool are spent (R208). -/
def State.spend (s : State) (port : Nat) (f : Frame) : State :=
  let pool := poolOf f.tc f.rl
  s.onOp port fun o => { o with txCr := setAt o.txCr pool (o.txCr.getD pool 0 - frameBlocks f) }

/-- A frame leaves with its credit spent; one that a port in Brynn mode does not carry is discarded and counted, and spends none (R19, R208, R244, R246). -/
def State.leave (s : State) (port : Nat) (f : Frame) : State :=
  if s.brynnBars port f then s.bump Reg.ROUTE_DISC_BRYNN else (s.spend port f).putOut port f

/-- A granted frame leaves a port: a frame from a Pantry slot carries what acknowledgements may ride in it (R201, R208, R237). -/
def State.departSlot (s : State) (port home slot : Nat) (rpl : Bool) : State :=
  match tget none (s.opAt home).pantry slot with
  | none => s
  | some f =>
    if s.brynnBars port f then s.bump Reg.ROUTE_DISC_BRYNN
    else
      let (g, t) := s.piggyback { f with rpl := rpl } port
      let (g, t) := t.rideCa g
      t.leave port g

/-- Blocks of a pool of a port's receive buffer are freed (R208). -/
def State.rxFree (s : State) (port pool blocks : Nat) : State :=
  s.onOp port fun o => { o with rxOcc := setAt o.rxOcc pool (o.rxOcc.getD pool 0 - blocks), rxFreed := setAt o.rxFreed pool (o.rxFreed.getD pool 0 + blocks) }

/-- The blocks of a frame are freed. -/
def State.rxDone (s : State) (n : Nat) (f : Frame) : State := s.rxFree n (poolOf f.tc f.rl) (frameBlocks f)

/-- A granted relayed frame leaves a port, and its blocks at the port it came in on are freed (R244). (DESIGN CHOICE: assumption 22) -/
def State.departRelay (s : State) (port : Nat) (f : Frame) (from' pool : Nat) : State :=
  (s.leave port f).rxFree from' pool (frameBlocks f)

/-! Arriving at a port. -/

/-- A frame occupies its blocks of the receive buffer; none where the peer sent it without credit, which is discarded and flagged (R208). -/
def State.rxTake (s : State) (n : Nat) (f : Frame) : Bool × State :=
  let pool := poolOf f.tc f.rl
  let o := s.opAt n
  if 512 < o.rxOcc.getD pool 0 + o.rxFreed.getD pool 0 + frameBlocks f then
    (false, s.raiseErr (48 + n) 8 { master := if f.dst = s.get Reg.ROUTE_NODE_NODE then 31 else 28, acc := 5, addr := pool })
  else (true, s.onOp n fun o => { o with rxOcc := setAt o.rxOcc pool (o.rxOcc.getD pool 0 + frameBlocks f) })

/-- What becomes of a frame other than LCTL at a port (R38, R199, R200, R208): it occupies its blocks, or it is gone, with the state. The fence discards DATA, TXN and ACK frames; link-control messages of a fenced direct neighbour are still acted on. (DESIGN CHOICE: assumption 58) -/
def State.arrive (s : State) (n : Nat) (f : Frame) : Bool × State :=
  if !s.trained n then (false, s)
  else
    match s.rxTake n f with
    | (false, t) => (false, t)
    | (true, t) =>
      if crcStomped (s.brynn n) f then (false, (t.bump (Reg.OP_FRM_ERR_STOMP n)).rxDone n f)
      else if !crcGood (s.brynn n) f || f.ftype == 3 || f.ftype == 6 || f.ftype == 7 then (false, (t.bump (Reg.OP_FRM_ERR_CRC n)).rxDone n f)
      else if s.fenced f.src then (false, (t.bump Reg.ROUTE_FENCED_DISC).rxDone n f)
      else if !s.gates || s.frozen then (false, t.rxDone n f)
      else (true, t)

/-- A frame for this node is taken out of the receive buffer; the acknowledgement that rides in it is handled (R201). -/
def State.local (s : State) (n : Nat) (f : Frame) : State :=
  let t := s.rxDone n f
  t.cond f.ackV (·.ackTake f.src { v := true, nr := 0, sid := f.ackSid, cum := f.ackSeq, ranges := [] })

/-! What stands on the wire. -/

/-- The words of something a port sends, in the framing the port runs (R197, R207); nothing for what is no frame. -/
def Out.words (brynn : Bool) : Out → List Nat
  | .frame _ f => frameWords brynn f
  | .stomped _ f => frameWords brynn f
  | .lctl _ code fields dst src => frameWords brynn (framed brynn (lctlFrame code fields dst src))
  | _ => []

end Sys2Proof.Machine
end

