-- ==== Sys2Proof/Machine/Streams.lean ====
section
/-! DEFINITION. Streams, acknowledgements, replays and the relay (R197 to R201, R221 to R247). -/

namespace Sys2Proof.Machine

/-- A primitive of the personality of module n reaches the stream engine: the gates are open, traffic is not frozen, the module is not held, does not loop its primitives back and is not the odd one of a Wide pair (R80, R128, R150, R162, R367). (DESIGN CHOICE: assumption 24) -/
def State.hostOn (s : State) (n : Nat) : Bool := s.gates && !s.frozen && !s.held n && !s.hpIdle n && s.get (Reg.HP_LB_MODE n) != 2

/-- A frame for another node that occupies its blocks is routed on with its hop count lowered, or discarded and counted (R30, R32, R244). (DESIGN CHOICE: assumption 22) -/
def State.relayOn (s : State) (n : Nat) (f : Frame) : State :=
  if f.hop = 0 then ((s.rxDone n f).bump Reg.ROUTE_DISC_HOP_EXPIRED).raiseEvt 10 0
  else
    match s.pickRoute f.dst f.dsid false with
    | (none, _) =>
      ((((s.rxDone n f).bump Reg.ROUTE_NOROUTE_COUNT).put Reg.ROUTE_NOROUTE_NODE f.dst).put Reg.ROUTE_NOROUTE_AT_RELAY 1).raiseEvt 10 0
    | (some (port, dl), u) =>
      let g := { f with hop := f.hop - 1, rl := max f.rl (b2n dl) }
      if u.brynn n ≠ u.brynn port ∧ frameBrynnOk g = false then (u.rxDone n f).bump Reg.ROUTE_DISC_BRYNN
      else (u.present (1 + port) 28 g.tc (frameBlocks g) (.relay g n (poolOf f.tc f.rl))).wakePort port

/-- CODEWORD_UNCORRECTABLE (R199, R200, R203, R246): a codeword that the port's FEC cannot correct is counted; the frames that overlap it are discarded uncounted and their blocks freed, and one being forwarded goes on stomped. In a loop-back of framed IDLE words it is counted alone (R216). -/
def execCodewordUncorrectable (n : OpId) (word : List Nat) (frames : List Frame) (s : State) : Result :=
  if !(s.trained n || s.loopIdle n) || ((s.fec n).decode word).isSome then .next s
  else
    let t := s.bump (Reg.OP_FEC_UNC_CW n)
    .next (if !s.trained n then t
      else t.forAll frames fun f u =>
        match u.rxTake n f with
        | (false, v) => v
        | (true, v) =>
          if f.dst = v.get Reg.ROUTE_NODE_NODE ∨ f.ftype = 5 ∨ v.fenced f.src ∨ !v.gates ∨ v.frozen then v.rxDone n f
          else v.relayOn n { f with cut := true })

/-- RELAY_FORWARD (R25 to R33, R244, R249): a frame for another node is forwarded, or discarded and counted. -/
def execRelayForward (n : OpId) (f : Frame) (s : State) : Result :=
  if f.dst = s.get Reg.ROUTE_NODE_NODE ∨ f.ftype = 5 then .next s
  else
    match s.arrive n f with
    | (false, t) => .next t
    | (true, t) => .next (t.relayOn n f)

/-! Opening, closing and sending. -/

/-- STREAM_OPEN (R222, Table STRM-1). (DESIGN CHOICE: assumption 19) -/
def execStreamOpen (n : HpId) (req : OpenReq) (s : State) : Result :=
  if !s.hostOn n then .next (s.cond (s.fabricLoop n) (·.deliver n (.returned (.streamOpen req))))
  else if 2097152 ≤ s.strm.larder.length then
    .next ((((s.bump Reg.STRM_CNT_CTX_COUNT).raiseEvt 9 0).emit (.opened n 1 0)).consume n)
  else
    let sid := (req.sid.map (· % 2097152)).getD (lowestFree 0 (s.strm.larder.map (·.1)))
    if (s.ctxAt sid).state ≠ 0 then .next ((s.emit (.opened n 2 sid)).consume n)
    else if s.fenced req.peerNode then .next ((s.emit (.opened n 3 0)).consume n)
    else
      let c : Ctx := { state := 1, recv := req.recv, sel := req.sel, brynn := req.brynn, tc := req.tc, peerNode := req.peerNode,
                       peerSid := req.peerSid, module := n }
      .next (((s.onCtx sid fun _ => c).emit (.opened n 0 sid)).consume n)

/-- A close of a context (R224): CLOSING where frames are unacknowledged, FREE otherwise. -/
def State.closeCtx (s : State) (sid : Nat) : State :=
  let c := s.ctxAt sid
  if c.state = 0 ∨ c.state = 3 then s
  else if c.recv = false ∧ c.state ≠ 4 ∧ c.unack ≠ [] then s.onCtx sid fun c => { c with state := 3 }
  else s.freeCtx sid

/-- STREAM_CLOSE (R224). -/
def execStreamClose (n : HpId) (sid : Nat) (s : State) : Result :=
  .next ((s.cond (s.hostOn n) fun t => (t.closeCtx sid).consume n).cond (s.fabricLoop n) (·.deliver n (.returned (.streamClose sid))))

/-- The forced close of a context (R224): FREE at once, its Pantry slots released and counted. -/
def State.forceClose (s : State) (sid : Nat) : State :=
  if (s.ctxAt sid).state = 0 then s else (s.freeCounted (s.ctxAt sid).unack).freeCtx sid

/-- A payload a send may carry: 64 to 2048 bytes in steps of 64 (Table FLEET-2), at most 512 on a BRYNN stream (R228). -/
def payloadOk (brynn : Bool) (payload : List Byte) : Bool :=
  payload.length % 64 == 0 && decide (64 ≤ payload.length) && decide (payload.length ≤ if brynn then 512 else 2048)

/-- STREAM_SEND (R224, R226, R227, R237): the frame takes its sequence and slot and asks for entry at the intake, the send is refused, or the requester stalls. (DESIGN CHOICE: assumption 20) -/
def execStreamSend (n : HpId) (sid : Nat) (payload : List Byte) (s : State) : Result :=
  if s.fabricLoop n then .next (s.deliver n (.returned (.streamSend sid payload)))
  else if !s.hostOn n || !payloadOk (s.ctxAt sid).brynn payload then .next s
  else
    let (ing, t) := s.claim n
    match t.sendOn sid payload n (s.ctxAt sid).tc ing with
    | (.sent, t) => .next t
    | (.notOpen, _) => .next ((s.emit (.notOpen n sid)).consume n)
    | (.stalled, _) => .next ((s.sendOn sid payload n (s.ctxAt sid).tc 0).2.emit (.stalled n))

/-! DATA and acknowledgements. -/

/-- A link-control frame that a port receives with a bad CRC, or with a code it does not know, is discarded and counted (R199, R207); the messages themselves are commands of their own. -/
def State.lctlCheck (s : State) (n : Nat) (f : Frame) : State :=
  let on := s.trained n || s.get (Reg.OP_STAT_PSTATE n) == 1
  if !on then s
  else if crcStomped (s.brynn n) f then s.bump (Reg.OP_FRM_ERR_STOMP n)
  else s.cond (!crcGood (s.brynn n) f || !lctlKnown (s.brynn n) ((f.payload.headD 0).toNat)) (·.bump (Reg.OP_FRM_ERR_CRC n))

/-- DATA (R199, R207, R225, R229, R230, R234): a DATA frame for this node meets its context; a frame cut short is lost; a frame of a reserved type and an unknown link-control frame are counted. -/
def execData (n : OpId) (f : Frame) (s : State) : Result :=
  if f.ftype = 5 then .next (s.lctlCheck n f)
  else if f.dst ≠ s.get Reg.ROUTE_NODE_NODE ∨ f.ftype = 1 ∨ f.ftype = 2 ∨ f.ftype = 4 then .next s
  else
    match s.arrive n f with
    | (false, t) => .next t
    | (true, t) =>
      if f.cut then .next (t.rxDone n f)
      else .next ((t.local n f).takeData f (!t.capable n 2)).2

/-- The acknowledgements due to a node leave in ACK frames of at most `max` records (R201, R230); they stay due where no alternate is usable. (DESIGN CHOICE: assumption 21) -/
def State.ackNode (s : State) (node : Nat) : State :=
  match s.pickRoute node 0 false with
  | (none, t) => t
  | (some (port, dl), t) =>
    let sids := t.strm.due.filter fun sid => (t.ctxAt sid).peerNode == node
    let recs := sids.map fun sid => ackBytes (t.ctxAt sid).peerSid (t.ackOf port sid).1 (t.ackOf port sid).2
    let u := t.forAll sids fun sid v => v.onCtx sid fun c => { c with acked := (t.ackOf port sid).1 }
    let u := u.onStrm fun m => { m with due := m.due.filter fun sid => !sids.contains sid }
    u.forAll (chunks (if t.brynn port then 16 else 64) (sids.length + 1) recs) fun rs v =>
      v.sendFree port (s.txnFrame node 4 0 (b2n dl) 0 (pad64 (toBytes rs.flatten)))

/-- ACK_WINDOW (R230, R240): the 64 ns window ends; what is still due goes in ACK frames, and a due channel acknowledgement in a NOP completion. (DESIGN CHOICE: assumption 21) -/
def execAckWindow (s : State) : Result :=
  if !s.gates || s.frozen then .next s
  else
    let nodes := (s.strm.due.map fun sid => (s.ctxAt sid).peerNode).eraseDups
    let t := s.forAll nodes fun node u => u.ackNode node
    let chans := (t.strm.chans.filter fun e => e.1 % 2 == 1 && e.2.due).map (·.1)
    .next (t.forAll chans fun k u =>
      match u.pickRoute (k / 2) 0 false with
      | (none, v) => v
      | (some (port, dl), v) =>
        (v.onChan k fun c => { c with due := false, acked := c.seq }).sendFree port
          (v.txnFrame (k / 2) 2 0 (b2n dl) 0 (setWord (nopPayload 0) 4 (2 ^ 31 + (v.chanAt k).seq))))

/-- The records of an ACK frame (Table LINK-4). -/
def ackRecords (payload : List Byte) : List AckRecord :=
  (chunks 32 65 payload).map fun r =>
    let w := wordAt r
    { v := decide (2 ^ 31 ≤ w 0), nr := bits (w 0) 28 3, sid := bits (w 0) 0 21, cum := bits (w 1) 0 24,
      ranges := (List.range 4).map fun i => (bits (w (2 + i)) 16 12, bits (w (2 + i)) 0 12) }

/-- One record of an ACK frame (R201, R211, R231): one with V = 0 is skipped; where the link has no selective acknowledgement, ranges void it. -/
def State.ackRecord (s : State) (n src : Nat) (r : AckRecord) : State :=
  if !r.v then s
  else if !s.capable n 0 && r.nr != 0 then s.bump Reg.STRM_CNT_ACKBAD_COUNT
  else s.ackTake src r

/-- ACK (R199, R201, R208, R231): an ACK frame for this node is taken as any frame is, and its records in order. -/
def execAck (n : OpId) (f : Frame) (s : State) : Result :=
  if f.dst ≠ s.get Reg.ROUTE_NODE_NODE ∨ f.ftype ≠ 4 then .next s
  else
    match s.arrive n f with
    | (false, t) => .next t
    | (true, t) =>
      if f.cut then .next (t.rxDone n f)
      else .next ((t.local n f).forAll (ackRecords f.payload) fun r u => u.ackRecord n f.src r)

/-! Replays. -/

/-- REPLAY_TIMER (R232, R233, R239, R336): the unacknowledged frames of a stream or a channel are replayed; an unanswered channel reset is sent again. (DESIGN CHOICE: assumption 23) -/
def execReplayTimer (k : ReplayKey) (s : State) : Result :=
  if !s.gates || s.frozen then .next s
  else
    match k with
    | .stream sid =>
      let c := s.ctxAt sid
      if c.recv || !(c.state == 1 || c.state == 2 || c.state == 3) || c.live.isEmpty then .next s
      else
        let (us, t) := s.replayAll c.peerNode c.peerSid (match c.live with | u :: _ => u.master == 24 | [] => false) c.unack
        .next (t.onCtx sid fun c => { c with unack := us, replays := min 65535 (c.replays + ((us.map (·.replays)).sum - (c.unack.map (·.replays)).sum)) })
    | .channel node =>
      let (us, t) := s.replayAll node 0 false (s.chanAt (2 * node)).unack
      let t := t.onChan (2 * node) fun c => { c with unack := us, replays := min 65535 (c.replays + ((us.map (·.replays)).sum - (c.unack.map (·.replays)).sum)) }
      .next (t.cond (t.strm.resetOwed.contains node) (·.sendLoose node 1 (resetPayload (t.get Reg.TWIN_PROM_COUNT))))

/-- REPLAY_LIM (R236): a frame has been replayed REPLAY_LIM times without progress. (DESIGN CHOICE: assumption 23) -/
def execReplayLim (sid : Nat) (s : State) : Result :=
  let lim := s.get Reg.STRM_CFG_REPLAY_LIM
  .next (s.cond (lim != 0 && (s.ctxAt sid).live.any fun u => decide (lim ≤ u.replays)) fun t =>
    ((t.put Reg.STRM_LIM_SID_SID sid).put Reg.STRM_LIM_SID_VALID 1).raiseEvt 9 2)

end Sys2Proof.Machine
end

