-- ==== Sys2Proof/Machine/Txn.lean ====
section
/-! DEFINITION. Remote transactions and their channels (R157, R158, R239 to R242, R336). -/

namespace Sys2Proof.Machine

/-- What an address window says of a transaction (R157): permitted or not, and the class it gives. -/
def State.window (s : State) (n : Nat) (t : Txn) : Bool × Option Nat :=
  let a := t.addr / 2 ^ 16
  match (List.range 8).find? fun k =>
      s.bit (Reg.HP_WIN_CTL_VALID n k) && decide (s.get (Reg.HP_WIN_BASE_ADDR n k) ≤ a) && decide (a ≤ s.get (Reg.HP_WIN_LIM_ADDR n k)) with
  | some k => (if t.op = .read then s.bit (Reg.HP_WIN_CTL_RD n k) else s.bit (Reg.HP_WIN_CTL_WR n k), some (s.get (Reg.HP_WIN_CTL_TC n k)))
  | none => (s.bit (Reg.HP_WINCFG_DEF_ALLOW n), none)

/-- A request that Isax does not carry (R241, R242): a READ of no blocks or too many, or too much WRITE data, less towards a node under the Brynn limits. -/
def State.badReq (s : State) (t : Txn) : Bool :=
  match t.op with
  | .read => t.blocks == 0 || decide (31 < t.blocks) || (s.brynnPath t.node && decide (7 < t.blocks))
  | .write => decide (1984 < t.data.length) || (s.brynnPath t.node && decide (448 < t.data.length))
  | .atomic => false

/-- A request handed to this chiplet's own personality (R241). -/
def reqOut (src tag op opx addr blocks : Nat) (data : List Byte) : Out := .request src tag op opx addr blocks data

/-- REMOTE_TRANSACTION (R157, R158, R241, R242, R243): the window is checked, a tag is issued, and the request is sent or completes locally; at a bound the requester stalls. (DESIGN CHOICE: assumption 19) -/
def execRemoteTransaction (n : HpId) (t : Txn) (s : State) : Result :=
  if !s.hostOn n then .next (s.cond (s.fabricLoop n) (·.deliver n (.returned (.transaction t))))
  else if 1048576 ≤ s.strm.tags.length then .next (s.emit (.stalled n))
  else
    let tag := lowestFree 0 (s.strm.tags.map (·.1))
    let (ok, given) := s.window n t
    let local' := fun (u : State) (status : Nat) => (u.deliver n (.cpl tag status [])).consume n
    if !ok then .next ((local' (s.bump (Reg.HP_WINCFG_DENY_CNT n)) 2).raiseEvt (16 + n) 10)
    else if s.badReq t then .next (local' s 4)
    else if s.fenced t.node then .next (local' s 3)
    else if s.strm.resetOwed.contains t.node then .next (s.emit (.stalled n))
    else
      let (ing, u) := s.claim n
      let keep := fun (v : State) => (v.onStrm fun m =>
        { m with tags := tset none m.tags tag (some ⟨n, t.node, txnCode t.op, t.opx, t.addr⟩) }).tagGauge
      if t.node = s.get Reg.ROUTE_NODE_NODE then
        .next ((keep (u.charge n given ((txnBytes t tag).length / 64) ing)).emit (reqOut t.node tag (txnCode t.op) t.opx t.addr t.blocks t.data))
      else
        match u.sendTxn t.node 1 n given ing (txnBytes t tag) with
        | (true, v) => .next (keep v)
        | (false, _) => .next ((s.sendTxn t.node 1 n given 0 (txnBytes t tag)).2.emit (.stalled n))

/-- A frame arrives in a channel (R234, R239, R240): whether it is taken, with the channel's expectation moved on; a duplicate is counted and acknowledged again. -/
def State.chanTake (s : State) (f : Frame) : Bool × State :=
  let m := seqMod (s.brynnPath f.src)
  let c := s.chanAt (2 * f.src + 1)
  if f.seq = c.seq then (true, (s.chanNote f.src).onChan (2 * f.src + 1) fun c => { c with seq := (c.seq + 1) % m, due := true })
  else if behind m f.seq c.seq then (false, (s.bump Reg.STRM_CNT_DUP_COUNT).onChan (2 * f.src + 1) fun c => { c with due := true })
  else (false, s)

/-- The channel acknowledgement a TXN frame carries (R231, R239, R240): frames behind it are released. (DESIGN CHOICE: assumption 21) -/
def State.chanAck (s : State) (f : Frame) : State :=
  let w := wordAt f.payload 4
  let m := seqMod (s.brynnPath f.src)
  let c := s.chanAt (2 * f.src)
  let o := match c.unack with | u :: _ => u.seq | [] => c.seq
  let ca := w % m
  if w < 2 ^ 31 ∨ (c.seq + m - o) % m < (ca + m - o) % m then s
  else
    let rel := fun (u : Unacked) => behind m u.seq ca
    (s.freeSlots (c.unack.filter rel)).onChan (2 * f.src) fun c => { c with unack := c.unack.filter fun u => !rel u, acked := ca }

/-- The frame is a channel reset (R336): a TXN_REQ with OP NOP and OPX 0xFF. -/
def isReset (f : Frame) : Bool := f.ftype == 1 && wordAt f.payload 0 / 2 ^ 20 == 0xFF

/-- TXN_REQ (R239, R240, R241): a request taken in channel sequence goes to the personality. -/
def execTxnReq (n : OpId) (f : Frame) (s : State) : Result :=
  if f.dst ≠ s.get Reg.ROUTE_NODE_NODE ∨ f.ftype ≠ 1 ∨ isReset f then .next s
  else
    match s.arrive n f with
    | (false, t) => .next t
    | (true, t) =>
      if f.cut then .next (t.rxDone n f)
      else
        match ((t.local n f).chanAck f).chanTake f with
        | (false, u) => .next u
        | (true, u) =>
          let w := wordAt f.payload 0
          let op := w / 2 ^ 28
          .next (u.emit (reqOut f.src (w % 2 ^ 20) op (bits w 20 8) (wordAt f.payload 1 % 2 ^ 16 * 2 ^ 32 + wordAt f.payload 2) (wordAt f.payload 3 % 32)
            (if op = 3 then (f.payload.drop 20).take 44 else f.payload.drop 64)))

/-- CHANNEL_RESET (R336): a count not yet seen completes what is outstanding to the node FAILOVER and resets both channels; it is always answered. -/
def execChannelReset (n : OpId) (f : Frame) (s : State) : Result :=
  if f.dst ≠ s.get Reg.ROUTE_NODE_NODE ∨ !isReset f then .next s
  else
    match s.arrive n f with
    | (false, t) => .next t
    | (true, t) =>
      if f.cut then .next (t.rxDone n f)
      else
        let u := (t.local n f).chanAck f
        let count := wordAt f.payload 1 % 256
        let v := if tget 0 u.strm.resetSeen f.src = count + 1 then u
          else ((u.tagsTo f.src 5).resetChans f.src).onStrm fun m => { m with resetSeen := tset 0 m.resetSeen f.src (count + 1) }
        .next (v.sendLoose f.src 2 (nopPayload 0xFF))

/-- TXN_CPL (R39, R240, R241, R336): a completion taken in channel sequence returns its tag; a NOP completion only acknowledges; STATUS 0xFF answers a channel reset. -/
def execTxnCpl (n : OpId) (f : Frame) (s : State) : Result :=
  if f.dst ≠ s.get Reg.ROUTE_NODE_NODE ∨ f.ftype ≠ 2 then .next s
  else
    match s.arrive n f with
    | (false, t) => .next t
    | (true, t) =>
      if f.cut then .next (t.rxDone n f)
      else
        let u := (t.local n f).chanAck f
        let w := wordAt f.payload 0
        let op := w / 2 ^ 28
        let status := bits w 20 8
        if op = 0 then
          .next (u.cond (status == 0xFF) fun v => v.onStrm fun m => { m with resetOwed := m.resetOwed.filter (· != f.src) })
        else
          match u.chanTake f with
          | (false, v) => .next v
          | (true, v) =>
            let tag := w % 2 ^ 20
            match tget none v.strm.tags tag with
            | some r =>
              let data := if r.op = 3 then (f.payload.drop 20).take 44 else if r.op = 1 then f.payload.drop 64 else []
              .next (v.cond (r.node == f.src) (·.tagEnd tag status data))
            | none => .next v

/-- TARGET_COMPLETION (R241): the personality's completion goes back on the outgoing channel to the requester; where a bound holds it, module n is stalled. -/
def execTargetCompletion (n : HpId) (c : TargetCpl) (s : State) : Result :=
  if !s.hostOn n then .next (s.cond (s.fabricLoop n) (·.deliver n (.returned (.completion c))))
  else if s.fenced c.node then .next (s.consume n)
  else
    let (ing, t) := s.claim n
    if c.node = s.get Reg.ROUTE_NODE_NODE then .next ((t.charge n none ((cplBytes c).length / 64) ing).tagEnd c.tag (c.status % 256) c.data)
    else
      match t.sendTxn c.node 2 n none ing (cplBytes c) with
      | (true, u) => .next u
      | (false, _) => .next ((s.sendTxn c.node 2 n none 0 (cplBytes c)).2.emit (.stalled n))

end Sys2Proof.Machine
end

