-- ==== Sys2Proof/Machine/Twin.lean ====
section
/-! DEFINITION. Twins: pairing, the sealed copy, confirmation, silence, promotion, hand-over and disable (R318 to R341). TWIN_STAT.STATE codes: 0 OFF, 1 PAIRING, 2 COLD, 3 WARM, 4 SOLO, 5 ARBITRATE, 6 CONFLICT, 7 LOST. -/

namespace Sys2Proof.Machine

/-! Pairing. -/

def State.twinState (s : State) : Nat := s.get Reg.TWIN_STAT_STATE
def State.twinRole (s : State) : Nat := s.get Reg.TWIN_STAT_ROLE
def State.paired (s : State) : Bool := s.bit Reg.TWIN_STAT_PAIRED

/-- Something valid has arrived on the twin link (R331). -/
def State.twinHeard (s : State) : State := s.onTwin fun w => { w with quiet := false }

/-- Sets TWIN_STAT.STATE; PROTECTED reads 1 only while WARM (R327). -/
def State.twinGo (s : State) (st : Nat) : State := (s.put Reg.TWIN_STAT_STATE st).putB Reg.TWIN_STAT_PROTECTED (st == 3)

/-- The chiplet carries traffic (R319): a host module has left CR_WAIT, or a stream is open. -/
def State.carries (s : State) : Bool :=
  ((List.range 24).any fun n => s.hpState n == 5 || s.hpState n == 6) || s.strm.larder.any fun e => e.2.state != 0

/-- This end's HELLO (Table TWIN-1). -/
def State.ownHello (s : State) : Hello :=
  { node := s.get Reg.ROUTE_NODE_NODE, domain := s.get Reg.ROUTE_NODE_DOMAIN, nodeValid := s.bit Reg.ROUTE_NODE_VALID,
    strap := s.bit Reg.KEEP_STRAP_TWIN_ROLE, traffic := s.carries, enabled := s.twin.enabled }

/-- HELLO goes out once on a trained link of an enabled end. -/
def State.sendHello (s : State) : State :=
  if s.bit Reg.TWIN_STAT_LINK_UP && s.twin.enabled && !s.twin.sent then (s.onTwin fun w => { w with sent := true }).emit (.twinHello s.ownHello) else s

/-- Pairing fails: TWIN_CTL ends with NO_TWIN (R318, R319). An end that ran alone as active goes on alone. (DESIGN CHOICE: assumption 46) -/
def State.pairFail (s : State) : State :=
  ((s.onTwin fun w => { w with enabled := false, sent := false, hello := none }).twinGo (if s.twinRole = 1 then 4 else 0)).mboxEnd 0x50 0x0C []

/-- Roles are settled: the pair is COLD (R319, R326). A standby carries no traffic (R15, R320). (DESIGN CHOICE: assumption 46) -/
def State.pairAs (s : State) (role : Nat) : State :=
  let t := ((((s.put Reg.TWIN_STAT_ROLE role).put Reg.TWIN_STAT_PAIRED 1).put Reg.TWIN_EPOCH_S_EPOCH 0).put Reg.TWIN_EPOCH_C_EPOCH 0).twinGo 2
  let t := t.onTwin fun w => { w with hello := none, recs := [], batches := [], sweep := 0, sweepEnd := none, rx := [], naked := false, chans := [], claim := none, hand := none, quiet := false }
  let t := if role = 2 then ({ t with gates := false }).forAll (List.range 24) fun n u => u.onHp n fun h => { h with crSent := false } else t
  (t.t5Again.raiseEvt 7 0).mboxEnd 0x50 0 [0]

/-- The partner's HELLO is checked against this end's own state, and roles are settled (R318, R319). -/
def State.settleRoles (s : State) (h : Hello) : State :=
  let me := s.ownHello
  if !h.enabled then s
  else if h.node != me.node || h.domain != me.domain || !h.nodeValid || !me.nodeValid then s.pairFail
  else if me.traffic && !h.traffic then s.pairAs 1
  else if !me.traffic && h.traffic then s.pairAs 2
  else if !me.traffic && me.strap != h.strap then s.pairAs (if me.strap then 2 else 1)
  else ((s.put Reg.TWIN_STAT_CLASH 1).raiseEvt 7 5).pairFail

/-- TWIN_CTL enable begins: the link trains and HELLO is exchanged (R318, R321). -/
def State.twinEnable (s : State) : State :=
  (((s.onTwin fun w => { w with enabled := true, sent := false, hello := none }).put Reg.TWIN_STAT_PAIRED 0).twinGo 1).t5Again.sendHello

/-- TWIN_LINK_TRAINED (R321): in DARK and above, while twin mode is enabled; HELLO is sent. -/
def execTwinLinkTrained (s : State) : Result :=
  .next (s.cond (decide (2 ≤ s.power) && s.twin.enabled) fun t =>
    let t := ((t.put Reg.TWIN_STAT_LINK_UP 1).onTwin fun w => { w with laneTx := false, laneRx := false }).sendHello
    match t.twin.hello with
    | some h => t.cond (t.twinState == 1) (·.settleRoles h)
    | none => t)

/-- HELLO (R318, R319). -/
def execHello (h : Hello) (s : State) : Result :=
  .next (s.cond (s.twin.enabled && s.twinState == 1) fun t =>
    if t.bit Reg.TWIN_STAT_LINK_UP then t.settleRoles h else t.onTwin fun w => { w with hello := some h })

/-- PAIRING_TIMEOUT (R318). -/
def execPairingTimeout (s : State) : Result := .next (s.cond (s.twinState == 1) State.pairFail)

/-! Silence, SOLO and promotion. -/

/-- The active runs alone (R338, R341): what waited for a confirmation goes ahead at once, and a hand-over that waited ends. (DESIGN CHOICE: assumption 46) -/
def State.goSolo (s : State) : State :=
  let was := s.warm
  let t := ((s.put Reg.TWIN_STAT_PAIRED 0).twinGo 4).t5Again
  let t := t.onTwin fun w => { w with recs := [], batches := [], hand := none, sweepEnd := none }
  let t := t.forAll (t.strm.larder.map (·.1)) fun sid u =>
    (u.releaseAll sid).cond (was && (u.ctxAt sid).recv && !(u.ctxAt sid).brynn && (u.ctxAt sid).seq != (u.ctxAt sid).acked) (·.dueAck sid)
  if s.twin.hand.isSome then (t.cond (t.power == 4) (·.openGates)).mboxEnd 0x50 0x0C [] else t

/-- The trained ports that carry the messages of Table TWIN-3: none in Brynn mode. -/
def State.rolePorts (s : State) : List Nat := (List.range 16).filter fun n => s.trained n && !s.brynn n

/-- ROLE is sent on every such port: phase 0 claim, 1 commit. -/
def State.sendRole (s : State) (phase : Nat) : State :=
  s.forAll s.rolePorts fun n t => t.lctlSend n 0x60 [t.get Reg.ROUTE_NODE_NODE, phase, t.get Reg.TWIN_PROM_COUNT]

/-- Records that no SEAL closes are discarded; a torn batch is counted (R332). -/
def State.dropTorn (s : State) : State :=
  (s.cond (!s.twin.rx.isEmpty) (·.bump Reg.TWIN_CNT_TORN)).onTwin fun w => { w with rx := [], naked := false }

/-- A promotion begins: the promotion count is raised and its cause recorded (R332, R337). (DESIGN CHOICE: assumption 47) -/
def State.startPromotion (s : State) (cause : Nat) : State :=
  ((s.dropTorn).incr Reg.TWIN_PROM_COUNT).put Reg.TWIN_PROM_CAUSE cause

/-- The commit (R333 to R336): the standby becomes active; its gates open; sends are resumed from ACKED; every node with channels gets a channel reset. (DESIGN CHOICE: assumptions 46, 47) -/
def State.commit (s : State) (start : Nat) (pair : Bool) : State :=
  let t := (s.sendRole 1).put Reg.TWIN_STAT_ROLE 1
  let t := (if pair then t.twinGo 3 else (t.put Reg.TWIN_STAT_PAIRED 0).twinGo 4).onTwin fun w =>
    { w with claim := none, recs := [], batches := [], sweep := 0, sweepEnd := none }
  let t := t.put Reg.TWIN_PROM_US (min ((s.now - start) / 1000) (2 ^ 22 - 1))
  let t := t.cond (t.power == 4 && !t.frozen) (·.openGates)
  let t := t.forAll (t.strm.larder.map (·.1)) fun sid u =>
    let c := u.ctxAt sid
    if c.state = 0 ∨ c.state = 4 then u
    else if c.recv then u.onCtx sid fun c => { c with resume := 1 }
    else (u.onCtx sid fun c => { c with state := 1, seq := c.acked }).deliver c.module (.resumeSend sid c.gen c.acked)
  let t := (t.onStrm fun m => { m with resetOwed := s.twin.chans }).forAll s.twin.chans fun node u => u.sendLoose node 1 (resetPayload (u.get Reg.TWIN_PROM_COUNT))
  t.t5Again.raiseEvt 7 3

/-- Silence on the twin link, or a received TWIN_DOWN (R331): a WARM standby claims the node, a COLD one is LOST, the active runs alone. -/
def State.twinSilent (s : State) (cause : Nat) : State :=
  let s := s.onTwin fun w => { w with quiet := true }
  if !s.paired then s
  else if s.twinRole = 1 then s.goSolo.raiseEvt 7 2
  else if s.twinState = 3 then
    (((s.startPromotion cause).twinGo 5).onTwin fun w => { w with claim := some (s.now, cause, false, false) }).sendRole 0
  else if s.twinState = 2 then (s.twinGo 7).raiseEvt 7 2
  else s

/-- TWIN_LINK_LOST (R321, R331): one failed lane in a direction is repaired onto the spare; a second one, or a loss of the whole link, ends training: LINK_FAIL while paired, and silence. (DESIGN CHOICE: assumption 48) -/
def execTwinLinkLost (lane : Option Bool) (s : State) : Result :=
  let spare := match lane with
    | some rx => if rx then !s.twin.laneRx else !s.twin.laneTx
    | none => false
  .next (if s.bit Reg.TWIN_STAT_LINK_UP && spare then s.onTwin fun w => if lane = some true then { w with laneRx := true } else { w with laneTx := true }
    else s.cond (s.bit Reg.TWIN_STAT_LINK_UP) fun t =>
    let t := (t.put Reg.TWIN_STAT_LINK_UP 0).onTwin fun w => { w with sent := false }
    t.cond t.paired fun u => (u.raiseErrFree 7 8).twinSilent 1)

/-- TWIN_SILENCE (R331). (DESIGN CHOICE: assumption 48) -/
def execTwinSilence (s : State) : Result := .next (s.twinSilent 1)

/-- TWIN_DOWN (R331). -/
def execTwinDown (_reason : Nat) (s : State) : Result := .next (s.twinSilent 2)

/-- ROLE_CLAIM_REPEAT (R333). (DESIGN CHOICE: assumption 48) -/
def execRoleClaimRepeat (s : State) : Result := .next (s.cond (s.twinState == 5 && s.twin.claim.isSome) (·.sendRole 0))

/-- ROLE_ACK (R333): recorded by the claiming standby. -/
def execRoleAck (_n : OpId) (node count : Nat) (s : State) : Result :=
  .next (match s.twin.claim with
    | some (b, c, _, nak) => s.cond (node == s.get Reg.ROUTE_NODE_NODE && count == s.get Reg.TWIN_PROM_COUNT) fun t => t.onTwin fun w => { w with claim := some (b, c, true, nak) }
    | none => s)

/-- ROLE_NAK (R333). -/
def execRoleNak (_n : OpId) (node count : Nat) (s : State) : Result :=
  .next (match s.twin.claim with
    | some (b, c, ack, _) => s.cond (node == s.get Reg.ROUTE_NODE_NODE && count == s.get Reg.TWIN_PROM_COUNT) fun t => t.onTwin fun w => { w with claim := some (b, c, ack, true) }
    | none => s)

/-- ROLE_CLAIM_WINDOW (R333): a NAK is a conflict, an ACK alone commits, no answer repeats the claim while the silence lasts. (DESIGN CHOICE: assumption 48) -/
def execRoleClaimWindow (s : State) : Result :=
  .next (match s.twin.claim with
    | some (_, _, _, true) => ((s.onTwin fun w => { w with claim := none }).twinGo 6).raiseEvt 7 4
    | some (b, _, true, false) => s.commit b false
    | some (_, _, false, false) => if s.twin.quiet then s.sendRole 0 else (s.onTwin fun w => { w with claim := none }).twinGo 3
    | none => s)

/-! A peer's part in a promotion. -/

/-- The ports whose peer is a node in role 1 (R333). -/
def State.activePorts (s : State) (node : Nat) : List Nat :=
  (List.range 16).filter fun p => s.trained p && s.get (Reg.OP_PEER_NODE p) == node && s.get (Reg.OP_PEER_ROLE p) == 1

/-- ROLE (R333): a claim wakes the sleeping ports of the node; a commit sets the port's role to 1. -/
def execRole (n : OpId) (node phase count : Nat) (s : State) : Result :=
  .next (s.cond (s.trained n && !s.brynn n) fun t =>
    if phase = 1 then t.put (Reg.OP_PEER_ROLE n) 1
    else ((t.activePorts node).foldl (fun u p => u.wakePort p) t).onOp n fun o => { o with claim := some (node, count) })

/-- A port holds CDR lock on at least 31 lanes (R333). (DESIGN CHOICE: assumption 48) -/
def State.cdrLocked (s : State) (p : Nat) : Bool :=
  s.trained p && !(s.opAt p).rxLow &&
    decide (31 ≤ ((List.range 32).filter fun l => !(s.ringAt p true (laneLine (s.opAt p).remapRx l)).low).length)

/-- ROLE_ANSWER (R333). -/
def execRoleAnswer (n : OpId) (s : State) : Result :=
  .next (match (s.opAt n).claim with
    | some (node, count) =>
      (s.onOp n fun o => { o with claim := none }).lctlSend n (if (s.activePorts node).any s.cdrLocked then 0x62 else 0x61) [node, count]
    | none => s)

/-! Batches of the active. -/

/-- Entry `i` of the sweep: a SID below 2^21, then both route banks (R326). A BRYNN context is sent as FREE (R322). (DESIGN CHOICE: assumption 47) -/
def State.sweepRec (s : State) (i : Nat) : TwinRec :=
  if i < 2097152 then .ctx ((if (s.ctxAt i).brynn then ({} : Ctx) else s.ctxAt i).record i)
  else .route (.entry (1024 ≤ i - 2097152) ((i - 2097152) % 1024) (BitVec.ofNat 32 (tget 0 s.routes (i - 2097152))))

/-- The end of the sweep. -/
def sweepLen : Nat := 2097152 + 2048

/-- Records of the sweep fill the spare room of the open batch; the first pass notes the epoch that will seal its last record (R326). (DESIGN CHOICE: assumption 47) -/
def State.fillSweep (s : State) : State :=
  let n := min (255 - s.twin.recs.length) (sweepLen - s.twin.sweep)
  let next := s.twin.sweep + n
  let last := decide (sweepLen ≤ next)
  s.onTwin fun w => { w with
    recs := w.recs ++ (List.range n).map fun i => s.sweepRec (w.sweep + i),
    sweep := if last then 0 else next,
    sweepEnd := if last && w.sweepEnd.isNone then some ((s.get Reg.TWIN_EPOCH_S_EPOCH + 1) % 2 ^ 32) else w.sweepEnd }

/-- TWIN_BATCH_CLOSE (R324, R326): the open batch takes records of the sweep, is sealed with the next epoch and sent, unless 16 batches wait; at a hand-over nothing follows the final epoch. -/
def execTwinBatchClose (s : State) : Result :=
  .next (s.cond (s.copying && s.bit Reg.TWIN_STAT_LINK_UP && decide (s.twin.batches.length < 16)) fun t =>
    match t.twin.hand with
    | some e => t.cond (e != t.get Reg.TWIN_EPOCH_S_EPOCH) (·.sealBatch)
    | none => t.fillSweep.sealBatch)

/-- Batches go out again (R324). -/
def State.resend (s : State) (bs : List Batch) : State :=
  (s.forAll bs fun b t => (t.forAll b.recs fun r u => u.emit (.twinRec r)).emit (.twinSeal b.epoch b.recs.length (crc32c (b.recs.map recBytes).flatten))).bump
    Reg.TWIN_CNT_RESEND bs.length

/-- NAK (R324): the failed batch and every later one are sent again. -/
def execNak (epoch : Nat) (s : State) : Result :=
  .next (s.cond s.copying fun t =>
    let t := (t.charge 26 none 1).twinHeard
    let bs := t.twin.batches.dropWhile fun b => b.epoch != epoch
    t.resend (if bs.isEmpty then t.twin.batches else bs))

/-- BATCH_RESEND (R324). -/
def execBatchResend (s : State) : Result := .next (s.cond (s.copying && !s.twin.batches.isEmpty) fun t => t.resend t.twin.batches)

/-- HEARTBEAT_SEND (R324). -/
def execHeartbeatSend (s : State) : Result := .next (s.cond (s.twin.enabled && s.bit Reg.TWIN_STAT_LINK_UP) (·.emit .twinBeat))

/-- The kinds of Table TWIN-1. -/
def twinKinds : List Nat := [0x01, 0x02, 0x03, 0x0F, 0x10, 0x11, 0x12, 0x13, 0x14, 0x15]

/-- HEARTBEAT (R321, R331): it ends silence; a record of a KIND that Table TWIN-1 does not have is discarded and counted. (DESIGN CHOICE: assumption 48) -/
def execHeartbeat (kind : Byte) (s : State) : Result :=
  .next (s.cond (s.bit Reg.TWIN_STAT_LINK_UP) fun t =>
    if kind = 0x12 then t.twinHeard else t.cond (!decide (kind.toNat ∈ twinKinds)) (·.bump Reg.TWIN_CNT_BAD))

/-- A confirmed record (R327): a RECV context's confirmed point, and its acknowledgement falls due; a SEND context's frames are released. -/
def State.confirmRec (s : State) (r : TwinRec) : State :=
  match r with
  | .ctx r =>
    let c := s.ctxAt r.sid
    if c.state = 0 ∨ c.brynn ∨ c.recv ≠ r.recv ∨ c.gen ≠ r.gen then s
    else if c.recv then (s.onCtx r.sid fun c => { c with conf := r.seq }).cond (s.warm && r.seq != c.acked && r.state == 1) (·.dueAck r.sid)
    else s.confirmSend r.sid r.seq
  | _ => s

/-- The former active of a hand-over becomes a WARM standby: its Pantry is dropped and counted, its contexts are the copy, its transactions fail over, and its host modules wait in CR_WAIT (R320, R336, R340). (DESIGN CHOICE: assumption 47) -/
def State.becomeStandby (s : State) (e : Nat) : State :=
  let us := (s.strm.larder.map fun x => x.2.unack).flatten ++ (s.strm.chans.map fun x => x.2.unack).flatten
  let t := ((s.emit (.twinHand e)).put Reg.TWIN_STAT_ROLE 2).freeCounted us
  let t := t.forAll (t.strm.tags.map (·.1)) fun tag u => u.tagEnd tag 5 []
  let t := t.onStrm fun m => { m with
    chans := [], due := [], resetOwed := [],
    larder := tmap {} (fun _ c => if c.brynn then {} else
      { c with unack := [], held := [], resume := 0, seq := if c.recv then c.accepted else c.acked, conf := c.accepted }) m.larder }
  let t := (t.onTwin fun w => { w with recs := [], batches := [], hand := none, rx := [], naked := false, sweepEnd := none }).put Reg.TWIN_EPOCH_C_EPOCH e
  let t := t.forAll ((List.range 24).filter fun n => t.hpState n == 5 || t.hpState n == 6) fun n u => u.crWait n
  (t.t5Again.raiseEvt 7 6).mboxEnd 0x50 0 [e]

/-- CONFIRM (R327, R340): the batches up to an epoch are confirmed; what waited for them goes ahead; the final epoch of a hand-over sends HANDOVER. -/
def execConfirm (epoch : Nat) (s : State) : Result :=
  .next (s.cond (s.copying && s.twin.batches.any (·.epoch == epoch)) fun t =>
    let t := (t.charge 26 none 1).twinHeard
    let done := t.twin.batches.takeWhile (fun b => b.epoch != epoch) ++ (t.twin.batches.dropWhile fun b => b.epoch != epoch).take 1
    let u := (t.onTwin fun w => { w with batches := (w.batches.dropWhile fun b => b.epoch != epoch).drop 1 }).put Reg.TWIN_EPOCH_C_EPOCH epoch
    let u := u.forAll (done.map (·.recs)).flatten fun r v => v.confirmRec r
    u.cond (t.twin.hand == some epoch) (·.becomeStandby epoch))

/-- SWEEP_PASS (R326): with the first pass confirmed, the pair is WARM. (DESIGN CHOICE: assumption 48) -/
def execSweepPass (s : State) : Result :=
  .next (s.cond (s.paired && s.twinState == 2) fun t =>
    if t.twinRole = 2 then (t.twinGo 3).raiseEvt 7 1
    else match t.twin.sweepEnd with
      | some e => t.cond (!(t.twin.batches.any (·.epoch == e)) && e != (t.get Reg.TWIN_EPOCH_S_EPOCH + 1) % 2 ^ 32) fun u => (u.twinGo 3).raiseEvt 7 1
      | none => t)

/-! Records at the standby. -/

/-- The standby takes records (R325). -/
def State.copies (s : State) : Bool := s.paired && s.twinRole == 2 && (s.twinState == 2 || s.twinState == 3)

/-- A record that enters CORE is charged to M26, and buffered until its SEAL (R321, R325). -/
def State.takeRec (s : State) (r : TwinRec) : State := s.cond s.copies fun t => (t.onTwin fun w => { w with rx := w.rx ++ [r], quiet := false }).charge 26 none 1

/-- CTX (R325). -/
def execCtx (r : CtxRec) (s : State) : Result := .next (s.takeRec (.ctx r))

/-- ROUTE (R325). -/
def execRoute (r : RouteRec) (s : State) : Result := .next (s.takeRec (.route r))

/-- CHAN (R325). -/
def execChan (node : Nat) (s : State) : Result := .next (s.takeRec (.chan node))

/-- A copied context (R322, R323): the confirmed point is its next sequence. The record does not name the module a stream was opened through: it is a free value. (DESIGN CHOICE: assumption 47) -/
def ctxOf (free : Nat) (old : Ctx) (r : CtxRec) : Ctx :=
  if r.state = 0 then {}
  else { state := r.state, recv := r.recv, sel := r.sel, tc := r.tc, cause := r.cause, gen := r.gen, peerNode := r.peerNode, peerSid := r.peerSid,
         seq := r.seq, acked := r.seq, accepted := r.seq, conf := r.seq,
         module := if old.state = 0 then (Config.freeWord (8 * free)).toNat % 24 else old.module }

/-- A record of a sealed batch is applied (R325). (DESIGN CHOICE: assumption 47) -/
def State.applyRec (s : State) (r : TwinRec) : State :=
  match r with
  | .ctx r => { s.onCtx r.sid fun c => ctxOf s.fresh c r with fresh := s.fresh + 1 }
  | .route (.entry b i d) => { s with routes := tset 0 s.routes (1024 * b2n b + i % 1024) d.toNat }
  | .route (.swap a) => s.putB Reg.ROUTE_BANK_ACTIVE a
  | .chan n => s.onTwin fun w => { w with chans := if w.chans.contains n then w.chans else w.chans ++ [n] }

/-- SEAL (R325): a batch with the next epoch, its count and its CRC is applied in order and confirmed; any other is discarded whole, and refused once. (DESIGN CHOICE: assumption 48) -/
def execSeal (epoch count : Nat) (crc : Word) (s : State) : Result :=
  .next (s.cond s.copies fun t =>
    let t := (t.charge 26 none 1).twinHeard
    let rs := t.twin.rx
    let next := epoch == (t.get Reg.TWIN_EPOCH_S_EPOCH + 1) % 2 ^ 32
    let u := t.onTwin fun w => { w with rx := [] }
    if next && count == rs.length && crc.toNat == crc32c (rs.map recBytes).flatten then
      ((((u.forAll rs fun r v => v.applyRec r).put Reg.TWIN_EPOCH_S_EPOCH epoch).onTwin fun w => { w with naked := false }).emit (.twinConfirm epoch)).put
        Reg.TWIN_EPOCH_C_EPOCH epoch
    else
      ((u.bump Reg.TWIN_CNT_TORN).cond (!t.twin.naked || next) (·.emit (.twinNak epoch))).onTwin fun w => { w with naked := true })

/-- HANDOVER (R340): the standby promotes with the claim window skipped, and the pair stays WARM. -/
def execHandover (_epoch : Nat) (s : State) : Result :=
  .next (s.cond (s.copies && s.twinState == 3) fun t => (t.startPromotion 3).commit s.now true)

/-- RESUME_RECV_ANSWER (R335): CUM is the later of the copied point and the host's answer. -/
def execResumeRecvAnswer (sid gen seq : Nat) (s : State) : Result :=
  let c := s.ctxAt sid
  .next (s.cond (c.recv && c.resume == 2) fun t =>
    let m := seqMod c.brynn
    let later := gen == (c.gen + 1) % 256 || (gen == c.gen && behind m c.seq seq)
    t.onCtx sid fun c =>
      let p := if later then seq else c.seq
      { c with resume := 0, gen := if later then gen else c.gen, seq := p, accepted := p, conf := p })

/-! Disable and hand-over. -/

/-- TWIN_CTL disable (R341). (DESIGN CHOICE: assumption 46) -/
def State.twinDisable (s : State) : State :=
  let t := if s.twinRole = 1 && s.paired then s.goSolo else s
  let t := ((t.put Reg.TWIN_STAT_PAIRED 0).twinGo (if t.twinRole = 1 then 4 else 0)).t5Again
  (t.put Reg.TWIN_STAT_LINK_UP 0).onTwin fun w => { w with enabled := false, sent := false, hello := none, claim := none, rx := [], naked := false }

/-- TWIN_CTL hand over on a WARM active (R340): the gates close; the last records are sealed up to a final epoch, whose confirmation is awaited. (DESIGN CHOICE: assumption 47) -/
def State.twinHandOver (s : State) : State :=
  let k := max 1 ((s.twin.recs.length + 254) / 255)
  let e := (s.get Reg.TWIN_EPOCH_S_EPOCH + k) % 2 ^ 32
  ({ s with gates := false }.onTwin fun w => { w with hand := some e }).forAll (List.range k) fun _ t => t.sealBatch

end Sys2Proof.Machine
end

