-- ==== Sys2Proof/Machine/MboxOps.lean ====
section
/-! DEFINITION. What the commands of the mailbox do (R105 to R109, R401, R402): the checks on every command, one operation for each command of Table MBOX-1, and the ends of a command. A command's effects are made when it starts; its code and results are shown when it ends. -/

namespace Sys2Proof.Machine

/-- What a mailbox command meets that the state does not hold: the Cellar's part, and how a comb module's bring-up ends. -/
structure MboxEnv where
  cell : CellEnv := {}
  up   : ModuleUp := {}
  deriving DecidableEq, Repr

/-- A row of Table MBOX-1: the lowest power state it runs in, whether the boot ROM runs it, and whether it needs the Cellar (Table MBOX-3). -/
structure MboxRow where
  low    : Nat
  rom    : Bool := false
  cellar : Bool := false
  deriving DecidableEq, Repr

/-- Table MBOX-1. -/
def mboxRow : Nat → Option MboxRow
  | 0x01 => some { low := 1, rom := true }
  | 0x02 => some { low := 1, rom := true }
  | 0x03 => some { low := 1, rom := true, cellar := true }
  | 0x10 => some { low := 1, rom := true, cellar := true }
  | 0x11 => some { low := 1, rom := true, cellar := true }
  | 0x20 => some { low := 2 }
  | 0x30 => some { low := 3 }
  | 0x31 => some { low := 3, cellar := true }
  | 0x32 => some { low := 3 }
  | 0x33 => some { low := 3 }
  | 0x40 => some { low := 3 }
  | 0x50 => some { low := 2 }
  | 0x60 => some { low := 2, cellar := true }
  | 0x61 => some { low := 1, rom := true, cellar := true }
  | 0x62 => some { low := 2, cellar := true }
  | 0x70 => some { low := 2 }
  | 0x71 => some { low := 4, cellar := true }
  | 0x72 => some { low := 4, cellar := true }
  | _ => none

/-- A sequence of Table MBOX-3 holds what the command needs (R402). (DEDUCED: assumption 10) -/
def State.mboxHeld (s : State) (op : Nat) (row : MboxRow) : Bool :=
  let seq := s.bit Reg.PWR_STAT_BUSY
  let down := (seq && s.bit Reg.PWR_STAT_DIR) || s.keep.undo.isSome
  let at' := fun k => seq && !s.bit Reg.PWR_STAT_DIR && s.get Reg.PWR_STAT_STEP == k
  (down && op != 0x01 && op != 0x02) || (at' 7 && row.cellar) || (at' 8 && op == 0x03) || (s.mgmt.load.isSome && op == 0x20) ||
    (s.twinState == 5 && (op == 0x50 || op == 0x71 || op == 0x72)) || (s.keep.dump == .running && op == 0x60)

/-- The checks before a command acts: 0, or the code it ends with (R105, R108, R370, R402). (DEDUCED: assumption 10) -/
def State.mboxCheck (s : State) (op : Nat) : Nat :=
  match mboxRow op with
  | none => 0x01
  | some row =>
    if s.keep.inTrap && !mboxInTrap op then 0x04
    else if s.bit Reg.MBOX_ST_ROM && !row.rom then 0x03
    else if s.power < row.low then 0x04
    else if s.mboxHeld op row then 0x0E
    else 0

/-- What a command's start gives: the code and results it will end with, whether an event of its own ends it, and the state. -/
structure MboxAns where
  code : Nat := 0
  res  : List Nat := []
  wait : Bool := false
  st   : State

/-- MBOX_ARG. -/
def State.arg (s : State) (k : Nat) : Nat := s.get (Reg.MBOX_ARG_ARG k)

/-- Bytes of MBOX_BUF from its first: byte 0 is bits [7:0] of the first word. -/
def State.bufBytes (s : State) (n : Nat) : List Byte :=
  (List.range n).map fun i => BitVec.ofNat 8 (s.get (Reg.MBOX_BUF_DATA (i / 4)) / 256 ^ (i % 4))

/-- Bytes put into MBOX_BUF from its first. -/
def State.setBuf (s : State) (bs : List Byte) : State :=
  s.forAll (List.range (bs.length / 4)) fun i t =>
    t.put (Reg.MBOX_BUF_DATA i) ((List.range 4).map fun j => (bs.getD (4 * i + j) 0).toNat * 256 ^ j).sum

/-! Information, firmware and the Loft. -/

/-- PING. -/
def State.mboxPing (s : State) : MboxAns :=
  { res := [2 ^ 32 - 1 - s.arg 0, b2n (!s.bit Reg.MBOX_ST_ROM)], st := s }

/-- FW_INFO: the boot count is the one that will be committed where its record waits (R299); the boot ROM runs from no slot, so RES2 is then a free value. -/
def State.mboxFwInfo (s : State) : MboxAns :=
  let f := if s.bit Reg.MBOX_ST_ROM then none else s.mgmt.fwSlot
  { res := [(Config.firmwareVersion f).toNat, (s.get Reg.CELL_BOOT_COUNT + s.get Reg.CELL_STAT_BOOT_DEFER) % 2 ^ 32] ++ (f.map (·.1)).toList, st := s }

/-- A Loft object's directory entry. -/
def State.loftAt (s : State) (obj : Nat) : LoftEntry := tget {} s.nv.loft obj
def State.onLoft (s : State) (obj : Nat) (f : LoftEntry → LoftEntry) : State :=
  s.onNv fun v => { v with loft := tset {} v.loft obj (f (tget {} v.loft obj)) }

/-- FW_RELOAD (R401). -/
def State.mboxFwReload (s : State) (env : CellEnv) : MboxAns :=
  let k := s.arg 0
  if 1 < k then { code := 0x02, st := s }
  else match s.needCellar env with
    | none => { code := 0x08, st := s }
    | some t =>
      let t := t.cellCorr env.corrected
      let e := t.loftAt k
      if !e.committed then { code := 0x09, st := t }
      else match CellEnv.firstUe env (pagesOf (loftAddr k) e.len) with
        | some p => { code := 0x08, st := t.cellUe p }
        | none => if t.fwGood k then { st := t.runFw k } else { code := 0x09, st := t }

/-- A page program that the closed window refuses (R311). -/
def State.tempRefused (s : State) : State := s.bump Reg.CELL_CNT_TEMP_REF

/-- LOFT_WRITE (R295): the entry is invalidated before any data is written; the rest of the page is kept. (DESIGN CHOICE: assumption 12) -/
def State.mboxLoftWrite (s : State) (env : CellEnv) : MboxAns :=
  let obj := s.arg 0
  let off := s.arg 1
  let len := s.arg 2
  if 17 < obj ∨ off % 1024 ≠ 0 ∨ 1024 < len ∨ loftSize obj < off + len then { code := 0x02, st := s }
  else match s.needCellar env with
    | none => { code := 0x08, st := s }
    | some t =>
      let pages := pagesOf (loftAddr obj + off) len
      if !t.bit Reg.CELL_STAT_WIN then { code := 0x07, st := t.tempRefused }
      else
        let t := ((t.onLoft obj fun e => { e with committed := false }).charge 25 none (blocksOf len)).cellCorr env.corrected
        match CellEnv.firstUe env pages with
        | some p => { code := 0x08, st := t.cellUe p }
        | none =>
          let r := (t.onNv fun v => v.intend pages).programPages env pages
          if r.code ≠ 0 then { code := r.code, st := r.st }
          else { st := r.st.onNv fun v => v.write (loftAddr obj + off) (s.bufBytes len) }

/-- LOFT_COMMIT (R295): the object's SHA-256 is compared and the entry written with a new generation. -/
def State.mboxLoftCommit (s : State) (env : CellEnv) : MboxAns :=
  let obj := s.arg 0
  let len := s.arg 1
  if 17 < obj ∨ loftSize obj < len then { code := 0x02, st := s }
  else match s.needCellar env with
    | none => { code := 0x08, st := s }
    | some t =>
      let t := t.cellCorr env.corrected
      match CellEnv.firstUe env (pagesOf (loftAddr obj) len) with
      | some p => { code := 0x08, st := t.cellUe p }
      | none =>
        if toBytes (sha256 (toVals (t.nv.read (loftAddr obj) len))) ≠ s.bufBytes 32 then { code := 0x09, st := t }
        else
          let t := if env.winCloses = some 0 then t.winClose else t
          if !t.bit Reg.CELL_STAT_WIN then { code := 0x07, st := t.tempRefused }
          else if env.bootFails then { code := 0x08, st := t }
          else { st := t.onLoft obj fun e => { committed := true, len := len, digest := s.bufBytes 32, gen := e.gen + 1 } }

/-! Personality, rings, combs, tiles. -/

/-- PERS_LOAD (R121, R122). (DESIGN CHOICE: assumption 12) -/
def State.mboxPersLoad (s : State) : MboxAns :=
  let src := s.arg 0
  let go := fun (l : LoadSrc) (slot : Nat) => { wait := true, st := s.loadOpen l slot (s.arg 2 % 2 ^ 24) false false : MboxAns }
  match src with
  | 0 => if 15 < s.arg 1 then { code := 0x02, st := s } else go .loft (s.arg 1)
  | 1 => if s.bit Reg.KEEP_STRAP_CHAIN_FIRST then { code := 0x02, st := s } else go .chain 0
  | 2 => go .hatch 0
  | _ => { code := 0x02, st := s }

/-- RING_SEARCH (R179, R180): the ports leave service and their rings are swept once. (DESIGN CHOICE: assumption 12) -/
def State.mboxRingSearch (s : State) : MboxAns :=
  if 65535 < s.arg 0 then { code := 0x02, st := s }
  else
    let ports := (List.range 16).filter fun n => bitOf (s.arg 0) n
    let t := (s.onMgmt fun m => { m with searchPorts := s.arg 0 }).forAll ports fun n u => u.portDark n
    { st := t.forAll [0, 1, 2, 3] fun q u =>
        let ps := ports.filter fun n => n / 4 == q
        u.cond (!ps.isEmpty) fun v => v.startSearch q ps 1 }

/-- The lanes of a bank on a line whose ring does not serve, against the spare lines that could (R180): no spare serves a Brynn port (R166). -/
def State.unserved (s : State) (n : Nat) (rx : Bool) : Bool :=
  let o := s.opAt n
  let m := if rx then o.remapRx else o.remapTx
  let bad := ((List.range (s.laneCount n)).filter fun l => !(s.ringAt n rx (laneLine m l)).good).length
  let spares := if s.brynn n then 0 else ([32, 33, 34, 35].filter fun k => (s.ringAt n rx k).good && (lineLane m k).isNone).length
  decide (spares < bad)

/-- The searched ports return to service (R180); one whose transmitter was stopped for want of a spare may train again (R190). -/
def State.searchEnd (s : State) (mask : Nat) : State :=
  (s.onMgmt fun m => { m with searchPorts := 0 }).forAll ((List.range 16).filter fun n => bitOf mask n) fun n t =>
    let u := t.onOp n fun o => { o with exhausted := false }
    u.cond (u.mayTrain n) (·.portRetrain n)

/-- MAP_SAVE (R296). -/
def State.mboxMapSave (s : State) (env : CellEnv) : MboxAns :=
  let r := s.mapSave env s.mapNow
  { code := r.1, st := r.2 }

/-- LINE_SWAP (R189): a port in Brynn mode has no spare to give. -/
def State.mboxLineSwap (s : State) : MboxAns :=
  let port := s.arg 0
  let lane := s.arg 1
  let line := s.arg 2
  if 15 < port ∨ s.laneCount port ≤ lane ∨ ¬ (line = 0xFF ∨ (32 ≤ line ∧ line < 36)) then { code := 0x02, st := s }
  else if s.brynn port then { code := 0x0B, st := s }
  else
    let w : SwapWant := { lane := lane, fixed := if line = 0xFF then none else some line, cmd := true }
    { wait := true, st := (s.onMgmt fun m => { m with mbox := m.mbox.map fun r => { r with wait := true } }).wantSwap port w }

/-- COMB_SWITCH onto COMBS (R173); a stopped transmitter of the quad may train again (R190). -/
def State.mboxCombOn (s : State) (q : Nat) (up : ModuleUp) : MboxAns :=
  if s.onCombs q then { st := s }
  else if s.bit Reg.COMB_STAT_SW_ACTIVE || s.combBit Reg.COMB_STAT_FAILED 4 then { code := 0x0B, st := s }
  else
    let t := if s.combBit Reg.COMB_STAT_LIT 4 then s else s.combUp 4 up
    if t.combsFree then { st := (t.combSwitch q).forAll (quadPorts q) fun n u => u.unexhaust n } else { code := 0x0B, st := t }

/-- COMB_SWITCH back to the quad's own input (R174). -/
def State.mboxCombBack (s : State) (q : Nat) (up : ModuleUp) : MboxAns :=
  if !s.onCombs q then { st := s }
  else if s.combBit Reg.COMB_STAT_FAILED q then { code := 0x0B, st := s }
  else
    let t := if s.combBit Reg.COMB_STAT_LIT q then s else s.combUp q up
    if !t.combBit Reg.COMB_STAT_LIT q || t.combBit Reg.COMB_STAT_LOL q then { code := 0x0B, st := t }
    else
      let t := ((t.put Reg.COMB_STAT_SW_ACTIVE 0).raiseEvt 12 2).cond (!t.bit Reg.COMB_CTL_SPARE_HOT) (·.combPark 4)
      { st := t.combsFreed.forAll (quadPorts q) fun n u => u.unexhaust n }

/-- COMB_SWITCH. (DESIGN CHOICE: assumption 12) -/
def State.mboxComb (s : State) (up : ModuleUp) : MboxAns :=
  if 3 < s.arg 0 ∨ 1 < s.arg 1 then { code := 0x02, st := s }
  else if s.arg 1 = 0 then s.mboxCombOn (s.arg 0) up
  else s.mboxCombBack (s.arg 0) up

/-- CAL_NOW (R288): the tile goes out at the next boundary; one that is already out ends the command with its slot. -/
def State.mboxCalNow (s : State) : MboxAns :=
  let t := s.arg 0
  if 31 < t ∨ s.tileFailed t then { code := 0x02, st := s }
  else if s.te.outg = some t ∨ s.te.spare = some t then { wait := true, st := s.onTe fun e => { e with calCmd := some t } }
  else { wait := true, st := s.onTe fun e => { e with calNow := some t, calCmd := some t } }

/-- TWIN_CTL (R318, R340, R341). (DESIGN CHOICE: assumption 12) -/
def State.mboxTwin (s : State) : MboxAns :=
  match s.arg 0 with
  | 0 => let t := s.twinDisable
         { res := [t.get Reg.TWIN_EPOCH_S_EPOCH], st := t }
  | 1 => if s.paired then { res := [s.get Reg.TWIN_EPOCH_S_EPOCH], st := s } else { wait := true, st := s.twinEnable }
  | 2 => if !s.paired then { code := 0x0C, st := s }
         else if s.twinRole = 1 ∧ s.twinState = 3 then { wait := true, st := s.twinHandOver }
         else { code := 0x02, st := s }
  | _ => { code := 0x02, st := s }

/-! The Attic and FTIME. -/

/-- DUMP_NOW (R371): no free slot, a closed window, or a slot whose dump is written when the command ends. -/
def State.mboxDump (s : State) (env : CellEnv) : MboxAns :=
  if env.bootFails ∧ s.freeSlotOf.isSome ∧ s.bit Reg.CELL_STAT_WIN then { code := 0x08, st := s }
  else
    let r := s.dumpNow (s.arg 0) env
    { code := r.1, res := r.2.1, st := r.2.2 }

/-- The size of an Attic slot. -/
def atticSize : Nat := 0x10000000

/-- ATTIC_READ (R297). -/
def State.mboxAtticRead (s : State) (env : CellEnv) : MboxAns :=
  let k := s.arg 0
  let off := s.arg 1
  if 7 < k ∨ off % 1024 ≠ 0 ∨ atticSize ≤ off then { code := 0x02, st := s }
  else match s.needCellar env with
    | none => { code := 0x08, st := s }
    | some t =>
      let a := tget AtticState.free t.nv.attic k
      if a = .free ∨ a = .writing then { code := 0x02, st := t }
      else
        let addr := atticBase + k * atticSize + off
        let t := t.cellCorr env.corrected
        if pageOf addr ∈ env.ue then { code := 0x08, st := t.cellUe (pageOf addr) }
        else
          let r := t.cellBytes addr 1024
          { st := r.2.setBuf r.1 }

/-- ATTIC_FREE (R297). -/
def State.mboxAtticFree (s : State) : MboxAns :=
  let k := s.arg 0
  if 7 < k ∨ tget AtticState.free s.nv.attic k = .writing then { code := 0x02, st := s }
  else if !s.bit Reg.CELL_STAT_WIN then { code := 0x07, st := s.tempRefused }
  else { st := s.setAttic k .free }

/-- FTIME_SET (R219, R220): the source holds distance 0; a node that gives the role up is unsynchronised until its next exchange. (DESIGN CHOICE: assumption 12) -/
def State.mboxFtime (s : State) : MboxAns :=
  let src := bitOf (s.arg 2) 0
  let t := { s with ftime := s.arg 0 + 2 ^ 32 * s.arg 1, slew := 0 }
  let t := if src then (t.put Reg.TIME_STAT_DIST 0).put Reg.TIME_STAT_SYNC 1
    else t.cond (s.bit Reg.TIME_CTL_SRC) fun u => (u.put Reg.TIME_STAT_DIST 63).put Reg.TIME_STAT_SYNC 0
  { st := t.putB Reg.TIME_CTL_SRC src }

/-! Checkpoints (R315 to R317). -/

/-- The address of a SID's copy: A, or B. -/
def ckptAddr (sid : Nat) (b : Bool) : Nat := ckptBase + sid * 8192 + (if b then 4096 else 0)

/-- A checkpoint record (Table CELL-6). -/
structure Ckpt where
  kind : Nat
  sel  : Bool
  brynn : Bool
  tc   : Nat
  no   : Nat
  sid  : Nat
  node : Nat
  peer : Nat
  gen  : Nat
  seq  : Nat
  time : Nat
  deriving DecidableEq, Repr

/-- A record's bytes before its CRC. -/
def Ckpt.head (c : Ckpt) : List Nat :=
  [0xC4, 0xE7, c.kind, b2n c.sel + 2 * b2n c.brynn + 4 * c.tc] ++ natBe 4 c.no ++ natBe 4 c.sid ++ natBe 2 c.node ++ natBe 4 c.peer ++
    [c.gen, 0] ++ natBe 4 c.seq ++ natBe 8 c.time ++ List.replicate 28 0

/-- A copy's page. -/
def Ckpt.page (c : Ckpt) : List Byte := toBytes (c.head ++ natBe 4 (crc32c c.head) ++ List.replicate 4032 0)

/-- The record a copy holds, where its magic and CRC match (R315). -/
def ckptOf (bs : List Byte) : Option Ckpt :=
  let v := toVals bs
  let f := fun i n => beNat ((v.drop i).take n)
  if f 0 2 = 0xC4E7 ∧ f 60 4 = crc32c (v.take 60) then
    some { kind := f 2 1, sel := bitOf (f 3 1) 0, brynn := bitOf (f 3 1) 1, tc := f 3 1 / 4 % 8, no := f 4 4, sid := f 8 4, node := f 12 2,
           peer := f 14 4, gen := f 18 1, seq := f 20 4, time := f 24 8 }
  else none

/-- Reads a copy: one that reads uncorrectable, or holds no record, is not valid. -/
def State.ckptRead (s : State) (env : CellEnv) (sid : Nat) (b : Bool) : Option Ckpt × State :=
  let a := ckptAddr sid b
  if pageOf a ∈ env.ue then (none, s.cellUe (pageOf a))
  else if s.nv.lost.contains (pageOf a) then (none, s)
  else (ckptOf (s.nv.read a 64), s)

/-- `a` is older than `b`, modulo 2^32. (DESIGN CHOICE: assumption 13) -/
def olderNo (a b : Nat) : Bool := decide (0 < (b + 2 ^ 32 - a) % 2 ^ 32) && decide ((b + 2 ^ 32 - a) % 2 ^ 32 < 2 ^ 31)

/-- The record of a context that CKPT_SAVE saves; none for one it skips (R316). (DESIGN CHOICE: assumption 13) -/
def State.ckptFor (s : State) (sid no : Nat) : Option Ckpt :=
  let c := s.ctxAt sid
  let r := fun kind => { kind := kind, sel := c.sel, brynn := c.brynn, tc := c.tc, no := no, sid := sid, node := c.peerNode, peer := c.peerSid,
                         gen := c.gen, seq := c.seq, time := s.ftime : Ckpt }
  if c.state = 0 then some { kind := 0, sel := false, brynn := false, tc := 0, no := no, sid := sid, node := 0, peer := 0, gen := 0, seq := 0, time := s.ftime }
  else if c.state = 1 ∧ c.recv = false ∧ c.unack = [] then some (r 1)
  else if c.state = 1 ∧ c.recv = true ∧ c.held = [] then some (r 2)
  else none

/-- Saves the contexts of a range one after another: the code, how many records were written, and the state. (DESIGN CHOICE: assumption 13) -/
def State.ckptSaves (env : CellEnv) : List Nat → Nat → State → Nat × Nat × State
  | [], n, s => (0, n, s)
  | sid :: rest, n, s =>
    match s.ckptFor sid 0 with
    | none => State.ckptSaves env rest n (s.bump Reg.CELL_CKPT_SKIP)
    | some r =>
      let (a, t) := s.ckptRead env sid false
      let (b, t) := t.ckptRead env sid true
      let (useB, no, t) := match a, b with
        | some x, some y => if olderNo x.no y.no then (false, y.no + 1, t) else (true, x.no + 1, t)
        | some x, none => (true, x.no + 1, t)
        | none, some y => (false, y.no + 1, t)
        | none, none => (false, t.takeFree.1.toNat, t.takeFree.2)
      let p := State.programs env n (t.onNv fun v => v.intend [pageOf (ckptAddr sid useB)]) [pageOf (ckptAddr sid useB)]
      if p.code ≠ 0 then (p.code, n, p.st)
      else State.ckptSaves env rest (n + 1) (p.st.onNv fun v => v.write (ckptAddr sid useB) { r with no := no % 2 ^ 32 }.page)

/-- A range of SIDs that CKPT_SAVE and CKPT_RESTORE take. (DESIGN CHOICE: assumption 12) -/
def ckptRange (first count : Nat) : Bool := decide (count ≤ 65536) && decide (first + count ≤ 2097152)

/-- CKPT_SAVE (R316). -/
def State.mboxCkptSave (s : State) (env : CellEnv) : MboxAns :=
  if !ckptRange (s.arg 0) (s.arg 1) then { code := 0x02, st := s }
  else
    let r := State.ckptSaves env ((List.range (s.arg 1)).map (s.arg 0 + ·)) 0 ((s.put Reg.CELL_CKPT_SKIP 0).cellCorr env.corrected)
    { code := r.1, res := [r.2.1], st := r.2.2.cellGauges }

/-- The newer of two valid copies (R317). (DESIGN CHOICE: assumption 13) -/
def newerCkpt (a b : Option Ckpt) : Option Ckpt :=
  match a, b with
  | some x, some y => some (if olderNo x.no y.no then y else x)
  | some x, none => some x
  | none, y => y

/-- Restores the contexts of a range: how many, whether any was skipped, and the state. The module a restored stream is delivered to is not in the record: a free value. (DESIGN CHOICE: assumption 13) -/
def State.ckptRestores (env : CellEnv) (s : State) (sids : List Nat) : Nat × Bool × State :=
  sids.foldl (fun (a : Nat × Bool × State) sid =>
    let (n, bad, s) := a
    let (x, t) := s.ckptRead env sid false
    let (y, t) := t.ckptRead env sid true
    match newerCkpt x y with
    | none => (n, bad, t)
    | some r =>
      if r.kind = 0 then (n, bad, t)
      else if (t.ctxAt sid).state ≠ 0 then (n, true, t.bump Reg.CELL_CKPT_SKIP)
      else
        let (w, t) := t.takeFree
        let c : Ctx := { state := 1, recv := r.kind == 2, sel := r.sel, brynn := r.brynn, tc := r.tc, gen := r.gen, peerNode := r.node, peerSid := r.peer,
                         seq := r.seq, acked := r.seq, accepted := r.seq, conf := r.seq, module := w.toNat % 24 }
        (n + 1, bad, (t.onCtx sid fun _ => c).charge 27 none 1)) (0, false, s)

/-- CKPT_RESTORE (R317). -/
def State.mboxCkptRestore (s : State) (env : CellEnv) : MboxAns :=
  if !ckptRange (s.arg 0) (s.arg 1) then { code := 0x02, st := s }
  else
    let r := State.ckptRestores env ((s.put Reg.CELL_CKPT_SKIP 0).cellCorr env.corrected) ((List.range (s.arg 1)).map (s.arg 0 + ·))
    { code := if r.2.1 then 0x0D else 0, res := [r.1], st := r.2.2 }

/-! The start of a command. -/

/-- What an accepted command does. (DESIGN CHOICE: assumption 11) -/
def State.mboxAct (s : State) (op : Nat) (env : MboxEnv) : MboxAns :=
  match op with
  | 0x01 => s.mboxPing
  | 0x02 => s.mboxFwInfo
  | 0x03 => s.mboxFwReload env.cell
  | 0x10 => s.mboxLoftWrite env.cell
  | 0x11 => s.mboxLoftCommit env.cell
  | 0x20 => s.mboxPersLoad
  | 0x30 => s.mboxRingSearch
  | 0x31 => s.mboxMapSave env.cell
  | 0x32 => s.mboxLineSwap
  | 0x33 => s.mboxComb env.up
  | 0x40 => s.mboxCalNow
  | 0x50 => s.mboxTwin
  | 0x60 => s.mboxDump env.cell
  | 0x61 => s.mboxAtticRead env.cell
  | 0x62 => s.mboxAtticFree
  | 0x70 => s.mboxFtime
  | 0x71 => s.mboxCkptSave env.cell
  | 0x72 => s.mboxCkptRestore env.cell
  | _ => { code := 0x01, st := s }

/-- The mailbox becomes busy with a command. -/
def State.mboxBusy (s : State) (op : Nat) (wait : Bool) : State :=
  ((s.onMgmt fun m =>
    { m with mbox := some { op := op, args := (List.range 8).map s.arg, code := 0, res := [], start := s.now, wait := wait } }).put Reg.MBOX_ST_BUSY 1).put
      Reg.MBOX_CMD_GO 1

/-- The Cellar is mounted, but its clock is lost (R71): a command that needs it meets no end but its longest time. (DESIGN CHOICE: assumption 11) -/
def State.cellStuck (s : State) (op : Nat) : Bool := ((mboxRow op).any (·.cellar)) && s.bit Reg.CELL_STAT_MOUNTED && !s.cellClocked

/-- GO (R107): refused while a command runs. A command that meets no housekeeper, because none serves yet, or a Cellar without its clock, stays busy until its longest time. PERS_LOAD is marked as ended by its load before it opens its source. (DESIGN CHOICE: assumption 11) -/
def State.mboxGo (s : State) (op : Nat) (env : MboxEnv) : State :=
  if s.bit Reg.MBOX_ST_BUSY then s.put Reg.MBOX_ST_REFUSED 1
  else if !s.mgmt.hkRun then s.mboxBusy (0x100 + op) true
  else
    let c := s.mboxCheck op
    if c ≠ 0 then (s.mboxBusy op false).onMgmt fun m => { m with mbox := m.mbox.map fun r => { r with code := c } }
    else if s.cellStuck op then s.mboxBusy (0x100 + op) true
    else
      let a := (s.mboxBusy op (op == 0x20)).mboxAct op env
      a.st.onMgmt fun m => { m with mbox := m.mbox.map fun r => { r with code := a.code, res := a.res, wait := a.wait } }

/-! The end of a command. -/

/-- A command of its own kind ends: RING_SEARCH returns its ports and reports those left unlocked, DUMP_NOW's dump is in its slot. -/
def State.mboxDone (s : State) : State :=
  match s.mgmt.mbox with
  | none => s
  | some r =>
    if r.op = 0x30 ∧ r.code = 0 then
      let ports := (List.range 16).filter fun n => bitOf s.mgmt.searchPorts n && (s.unserved n false || s.unserved n true)
      (s.searchEnd s.mgmt.searchPorts).mboxFinish 0 [(ports.map (2 ^ ·)).sum]
    else if r.op = 0x60 ∧ r.code = 0 then (s.dumpNowEnd (r.args.getD 0 0) (r.res.getD 0 0)).mboxFinish 0 r.res
    else s.mboxFinish r.code r.res

/-- A running command ends early with a code (R107): what it had finished stays done; a load it started ends with `load`, and searched ports return. -/
def State.mboxStop (s : State) (code load : Nat) : State :=
  match s.mgmt.mbox with
  | none => s
  | some r =>
    if r.op = 0x20 ∧ r.wait then (s.mboxFinish code [load]).loadStop load none
    else
      let mask := s.mgmt.searchPorts
      let hand := s.twin.hand.isSome
      let t := s.mboxDrop.mboxFinish code []
      if r.op = 0x30 then t.searchEnd mask
      else t.cond (r.op == 0x50 && hand && t.power == 4 && !t.frozen) (·.openGates)

end Sys2Proof.Machine
end

