-- ==== Sys2Proof/Machine/Route.lean ====
section
/-! DEFINITION. The route table and the uncorrectable errors of the stream engine's memories (R23, R25, R33, R38, R242, R247, R381). -/

namespace Sys2Proof.Machine

/-- The write of ROUTE_NODE (R23): its fields are RWL. -/
def State.routeNodeWrite (s : State) (v : Nat) : State :=
  if s.bit (Reg.LOCK 10) then s
  else ((s.put Reg.ROUTE_NODE_NODE (bits v 0 10)).put Reg.ROUTE_NODE_DOMAIN (bits v 10 16)).put Reg.ROUTE_NODE_VALID (bits v 26 1)

/-- The nodes that either bank lists. -/
def State.routedNodes (s : State) : List Nat := (s.routes.map fun e => e.1 % 1024).eraseDups

/-- The bank swap (R33, R38, R242): a fence that becomes active takes effect, and a changed BRYNN_PATH resets the node's channels. -/
def State.bankSwap (s : State) : State :=
  let t := s.put Reg.ROUTE_BANK_ACTIVE (1 - s.get Reg.ROUTE_BANK_ACTIVE)
  let t := (t.twinNote (.route (.swap (t.bit Reg.ROUTE_BANK_ACTIVE)))).raiseEvt 10 2
  t.forAll s.routedNodes fun node u =>
    (u.cond (s.brynnPath node != t.brynnPath node) (·.resetChans node)).cond (t.fenced node && !s.fenced node) (·.fenceNode node)

/-- The write of the selected route entry (R25, R38, R381): in the active bank FENCE alone changes, and takes effect at once. -/
def State.routeDataWrite (s : State) (v : Nat) : State :=
  let e := s.get Reg.ROUTE_SEL_ENTRY
  let active := s.bit Reg.ROUTE_SEL_BANK
  let bank := if active then s.get Reg.ROUTE_BANK_ACTIVE else 1 - s.get Reg.ROUTE_BANK_ACTIVE
  let old := tget 0 s.routes (1024 * bank + e)
  let new := if active then (if bitOf v 25 then setBitOf old 25 else clrBitOf old 25) else v % 2 ^ 27
  let t := { s with routes := tset 0 s.routes (1024 * bank + e) new }
  let t := t.cond (old != new) (·.twinNote (.route (.entry (bank == 1) e (BitVec.ofNat 32 new))))
  t.cond (active && bitOf new 25 && !bitOf old 25) (·.fenceNode e)

/-- PANTRY_UE (R247): the occupied slots are recounted and reported. -/
def execPantryUe (n : OpId) (slot : Nat) (s : State) : Result :=
  let t := (s.put (Reg.OP_CRA_PAN_RECON n) (s.opAt n).pantry.length).put (Reg.OP_CRA_PAN_RECON_V n) 1
  .next (((t.pantryGauge n).raiseEvt (48 + n) 11).raiseErr (48 + n) 9 { acc := 3, addr := slot })

/-- LINK_CREDIT_UE (R212, R247): the link is reset. -/
def execLinkCreditUe (n : OpId) (s : State) : Result :=
  let (w, t) := (s.cond (s.trained n) (·.portRetrain n)).takeFree
  .next (t.raiseErr (48 + n) 9 { acc := 3, addr := w.toNat })

/-- TAG_TABLE_UE (R247): the tag lost completes FENCED and the tags are recounted. (DESIGN CHOICE: assumption 23) -/
def execTagTableUe (tag : Nat) (s : State) : Result :=
  let m := match tget none s.strm.tags tag with | some r => r.master | none => 31
  .next ((((s.tagEnd tag 3 []).tagGauge).raiseEvt 9 6).raiseErr 9 8 { master := m, acc := 3, addr := 0x800000000000 + tag })

/-- LARDER_UE (R223, R247): the context is orphaned with CAUSE 1, and its frames are released and counted. -/
def execLarderUe (sid : Nat) (s : State) : Result :=
  let t := s.cond ((s.ctxAt sid).state != 0) fun u => (u.freeCounted (u.ctxAt sid).unack).orphan sid true
  .next (t.raiseErr 9 8 { acc := 3, addr := sid })

end Sys2Proof.Machine
end

