-- ==== Sys2Proof/Machine/AccessOps.lean ====
section
/-! DEFINITION. Register accesses (R90 to R101, R404): the status of an access, what a write of each register does, what a read gives and clears. Every path comes through `accessWrite` and `accessRead`. -/

namespace Sys2Proof.Machine

/-! Values a write may carry. -/

def clamp (lo hi v : Nat) : Nat := min hi (max lo v)

/-- The value a field takes of one written: the limits that its card or rule names as clamps, and the fields that a master without a URG wire has not (QOS_MSTk). -/
def limit (f : Fld) (v : Nat) : Nat :=
  match f.page, f.off, f.lsb with
  | 1, 0x50, 0 => clamp 4 40 v
  | 3, 0x54, 0 => clamp 1 1000 v
  | 6, 0x4C, 0 => clamp 1 24 v
  | 6, 0x4C, 5 => clamp 1 24 v
  | 7, 0x40, 0 => clamp 10 10000 v
  | 7, 0x40, 14 => clamp 100 60000 v
  | 8, off, 15 => if 0x160 ≤ off then 0 else v
  | 8, off, 19 => if 0x160 ≤ off then 0 else v
  | 9, 0x40, 0 => clamp 16 4096 v
  | 11, 0x48, 0 => clamp 1 1000 v
  | 12, 0x48, 0 => max 2 v
  | 13, 0x44, 0 => clamp 5 600 v
  | p, off, l =>
    if 48 ≤ p ∧ p < 64 then
      match off, l with
      | 0x54, 0 => min 10000 v
      | 0x54, 14 => min 100000 v
      | 0x58, 0 => clamp 1 10000 v
      | 0x5C, _ => clamp 5 40000 v
      | 0x60, 0 => max 1 v
      | _, _ => v
    else if 64 ≤ p ∧ p < 80 then
      match off, l with
      | 0x64, 16 => max 1 v
      | 0x68, 0 => clamp 10 60000 v
      | _, _ => v
    else v

/-- The sum of SHARE over the masters but `k` (R253). -/
def State.shareSum (s : State) (k : Nat) : Nat := ((List.range 28).map fun j => if j = k then 0 else s.get (Reg.QOS_MST_SHARE j)).sum

/-- The standby of a pair (R320). -/
def State.isStandby (s : State) : Bool := s.paired && s.twinRole == 2

/-- The fields of an address window after a write of one of its registers (R157): base, limit and valid. -/
def State.winAfter (s : State) (n off v : Nat) : Nat × Nat × Nat :=
  let k := (off - 0xC0) / 12
  let r := (off - 0xC0) % 12
  (if r = 0 then v else s.get (Reg.HP_WIN_BASE_ADDR n k), if r = 4 then v else s.get (Reg.HP_WIN_LIM_ADDR n k),
    if r = 8 then v % 2 else s.get (Reg.HP_WIN_CTL_VALID n k))

/-- A written value that the register's card or a rule names as refused (R404). Of STRM_CMD the card says both that a write with CHAN 1 is refused and that OP 0, 2 and 3 have no effect: with CHAN 1 the model refuses OP 1 alone. (DESIGN CHOICE: assumption 16) -/
def State.refuses (s : State) (p off v : Nat) : Bool :=
  let thr := decide (bits v 16 16 < bits v 0 16)
  match p, off with
  | 4, 0x48 => decide (96 ≤ bits v 0 7)
  | 4, 0x4C => !heatThrOk v
  | 4, 0x54 => bits v 0 4 == 0 || decide (bits v 4 4 < bits v 0 4)
  | 5, 0xA0 => (bitOf v 0 && bitOf v 1) || ((bitOf v 0 || bitOf v 1) && !s.bit Reg.CFG_POL_KEY_WR_EN)
  | 5, 0xB0 => bits v 8 8 == 0
  | 6, 0x44 => bits v 1 4 == 0
  | 6, 0x60 => thr
  | 6, 0x6C => thr
  | 8, 0x40 => decide (1024 < s.shareSum 28 + bits v 8 11 + bits v 0 7)
  | 8, 0x94 => decide (17 ≤ bits v 0 5)
  | 8, off => decide (0x100 ≤ off) && decide (off < 0x170) &&
      decide (1024 < s.shareSum ((off - 0x100) / 4) + bits v 0 11 + s.get Reg.QOS_CFG_RELAY_SHARE + s.get Reg.QOS_CFG_TC0_RSV)
  | 9, 0x5C => bits v 0 2 == 1 && s.bit Reg.STRM_SEL_CHAN
  | 9, 0xA0 => thr
  | 10, 0x40 => decide (3 ≤ s.power)
  | 10, off => decide (0x40 ≤ off) && s.isStandby
  | 12, 0x70 => decide (5 ≤ bits v 0 3)
  | 13, 0x84 => !s.bit (Reg.TEG_Q_CFG_EN (s.get Reg.TEG_Q_SEL_Q)) && decide (24 ≤ bits v 9 5)
  | 13, 0xA0 => thr
  | 13, off => (off == 0x8C || off == 0x90 || off == 0x94) &&
      (s.bit (Reg.TEG_Q_CFG_EN (s.get Reg.TEG_Q_SEL_Q)) || (bitOf v 31 && !s.bindable (bits v 0 21) (off != 0x8C)))
  | p, off =>
    if 16 ≤ p ∧ p < 40 then
      match off with
      | 0x40 => bits v 1 3 == 0 || decide (5 < bits v 1 3)
      | 0x68 => decide (4 ≤ bits v 1 3)
      | 0x80 => thr
      | off => decide (0xC0 ≤ off) && decide (off < 0x120) &&
          (let w := s.winAfter (p - 16) off v
           w.2.2 == 1 && decide (w.2.1 < w.1))
    else if 48 ≤ p ∧ p < 64 then off == 0x108 && thr
    else if 64 ≤ p ∧ p < 80 then
      match off with
      | 0x54 => decide (35 < bits v 0 6)
      | 0x5C => decide (bits v 16 16 < bits v 0 16 + 0xB000)
      | 0x60 => bits v 16 4 == 0
      | _ => false
    else false

/-- A write of TEG_Q_CFG while the queue's EN is 1 changes only EN; another field that it would change is refused. (DEDUCED: assumption 16) -/
def State.partRefused (s : State) (p off v : Nat) : Bool :=
  p == 13 && off == 0x84 && s.bit (Reg.TEG_Q_CFG_EN (s.get Reg.TEG_Q_SEL_Q)) &&
    (s.fieldsOf 13 0x84).any fun c => c.fld.lsb != 0 && bits v c.fld.lsb c.fld.width != s.get c.fld

/-! The effect of a write. -/

/-- A field of a written register, by its access type (R92, R94). -/
def State.writeField (s : State) (locked : Bool) (v : Nat) (c : CardField) : State :=
  let x := bits v c.fld.lsb c.fld.width
  match c.acc with
  | .rw => s.put c.fld (limit c.fld x)
  | .rwl => if locked then s else s.put c.fld (limit c.fld x)
  | .w1c => s.put c.fld ((List.range c.fld.width).foldl (fun o i => if bitOf x i then clrBitOf o i else o) (s.get c.fld))
  | .w1s => s.put c.fld ((List.range c.fld.width).foldl (fun o i => if bitOf x i then setBitOf o i else o) (s.get c.fld))
  | _ => s

/-- The page's lock (R94). -/
def State.locked (s : State) (p : Nat) : Bool := s.bit (Reg.LOCK p)

/-- A register whose fields act by their types alone. -/
def State.plainWrite (s : State) (p off v : Nat) : State :=
  (s.fieldsOf p off).foldl (fun t c => t.writeField (s.locked p) v c) s

/-- New thresholds of a mark, judged at once against the level (R98). -/
def State.thrWrite (s : State) (w : Wm) (level v : Nat) : State := ((s.put w.lo (bits v 0 16)).put w.hi (bits v 16 16)).judge w level

/-- The header of a page (R90 to R96): an interrupt line that rises sends its message; on page FAULT bit 2 of ERR_MSK stays 0. -/
def State.headWrite (s : State) (p off v : Nat) : State :=
  (s.plainWrite p off (if p = 3 ∧ off = 0x14 then clrBitOf v 2 else v)).irqRise p (s.irqLine p)

/-- KEEP_REC (R79): clearing the last record that blocks on requests ends the episode as a power-down. -/
def State.keepRecWrite (s : State) (v : Nat) : State :=
  let t := s.plainWrite 0 0x44 v
  t.cond (s.onBlocked && !t.onBlocked && !t.bit Reg.PWR_STAT_BUSY && t.power == 0) (·.sampleEn)

/-- PWR_CMD (R76, R84, R85, R87). -/
def State.pwrCmd (s : State) (op : Nat) : State :=
  match op with
  | 1 => s.onRequest 3
  | 2 => s.offRequest false
  | 3 => s.offRequest true
  | 4 => s.softReset
  | _ => s

/-- CLK_FAB (R73): a written N, once clamped, relocks the FAB PLL. (DEDUCED: assumption 16) -/
def State.clkFab (s : State) (v : Nat) : State := if s.locked 1 then s else (s.plainWrite 1 0x50 v).fabRelock

/-- The source of an ERR_SUM bit is no longer in error (R365). -/
def State.causeGone (s : State) (bit : Nat) : Bool :=
  if bit = 15 then s.keep.faultInN || s.bit Reg.KEEP_STORM_FAULT_IN_MASK
  else (List.range 192).all fun p => !(pageAssigned p && errBitOfPage p == bit && s.errLine p)

/-- ERR_SUM (R365): bits whose causes are gone clear; at zero the fault state ends. -/
def State.errSumWrite (s : State) (hi : Bool) (v : Nat) : State :=
  let f := if hi then Reg.ERR_SUM_HI_SUM else Reg.ERR_SUM_LO_SUM
  let t := s.forAll (List.range 32) fun i u =>
    u.cond (bitOf v i && bitOf (u.get f) i && s.causeGone (if hi then 32 + i else i)) fun w => w.put f (clrBitOf (w.get f) i)
  (t.cond (s.errSum != 0 && t.errSum == 0) fun u => (u.shelve 4 0 0 0).raiseEvt 3 3).evalTrap

/-- FAULT_STAT (R366, R369): PARITY clears only after ERR [2] of the page. -/
def State.faultStatWrite (s : State) (v : Nat) : State :=
  if bitOf v 2 && !bitOf (s.get (Reg.ERR 3)) 2 then (s.put Reg.FAULT_STAT_PARITY 0).evalTrap else s

/-- CFG_BKEY_CTL (R119). -/
def State.bkeyCtl (s : State) (v : Nat) : State := (s.cond (bitOf v 0) (·.keyProg)).cond (bitOf v 1) (·.keyZero)

/-- ROUTE_NODE (R23, R210, R341): an unpaired standby that takes another node ID in DARK is no standby any more; ports that hold in T5 are judged again. -/
def State.nodeWrite (s : State) (v : Nat) : State :=
  let t := s.routeNodeWrite v
  (t.cond (s.power == 2 && s.twinRole == 2 && !s.paired && t.get Reg.ROUTE_NODE_NODE != s.get Reg.ROUTE_NODE_NODE) (·.put Reg.TWIN_STAT_ROLE 0)).t5Again

/-- COMB_CTL (R173): a quad that meets a switch condition goes onto COMBS once the switch is enabled. (DEDUCED: assumption 16) -/
def State.combCtl (s : State) (v : Nat) : State :=
  let t := s.plainWrite 12 0x40 v
  t.cond (decide (3 ≤ t.power) && t.bit Reg.COMB_CTL_AUTO_SW) fun u =>
    u.forAll [0, 1, 2, 3] fun q w => w.cond (w.quadNeeds q && (!s.bit Reg.COMB_CTL_AUTO_SW || !s.quadNeeds q)) (·.autoSwitch q)

/-- TEG_Q_CFG (R277): while EN is 1 only EN changes. (DEDUCED: assumption 16) -/
def State.queueCfg (s : State) (v : Nat) : State :=
  let q := s.get Reg.TEG_Q_SEL_Q
  if s.bit (Reg.TEG_Q_CFG_EN q) then s.put (Reg.TEG_Q_CFG_EN q) (bits v 0 1) else s.plainWrite 13 0x84 v

/-- TEG_Q_CMD (R282). -/
def State.queueCmd (s : State) (op : Nat) : State :=
  match op with
  | 1 => s.teResume (s.get Reg.TEG_Q_SEL_Q)
  | 2 => s.teFlush (s.get Reg.TEG_Q_SEL_Q)
  | _ => s

/-- A path's code in MBOX_OWN and MBOX_ACC. -/
def pathCode : Path → Nat
  | .sideband => 1 | .msp => 2 | .hatch => 3

/-- MBOX_OWN (R106). -/
def State.mboxOwn (s : State) (p : Path) (v : Nat) : State :=
  let t := if bitOf v 8 && s.get Reg.MBOX_OWN_OWNER == 0 then (s.put Reg.MBOX_OWN_OWNER (pathCode p)).put Reg.MBOX_OWN_CLAIM 1 else s
  if bitOf v 9 && (p == .hatch || (t.get Reg.MBOX_OWN_OWNER == pathCode p && !t.bit Reg.MBOX_ST_BUSY)) then
    (t.put Reg.MBOX_OWN_OWNER 0).put Reg.MBOX_OWN_CLAIM 0
  else t

/-- MBOX_CMD (R107). (DESIGN CHOICE: assumption 14) -/
def State.mboxCmd (s : State) (v : Nat) (env : MboxEnv) : State :=
  (s.put Reg.MBOX_CMD_OPCODE (bits v 0 8)).cond (bitOf v 31) (·.mboxGo (bits v 0 8) env)

/-- MBOX_CTL (R107): an abort is taken at once; RES0 of an aborted PERS_LOAD is 0x16. -/
def State.mboxAbortNow (s : State) (v : Nat) : State := s.cond (bitOf v 0) (·.mboxStop 0x06 0x16)

/-- The write of a register of pages HPn. (DEDUCED: assumption 16) -/
def State.hpPageWrite (s : State) (n off v : Nat) : State :=
  match off with
  | 0x40 => s.hpCfgWrite n v
  | 0x50 => s.hpWideWrite n v
  | 0x60 => s.hpUrgWrite n v
  | 0x80 => s.thrWrite (creditWm n) (s.get (Reg.HP_CR_ING_OCC n)) v
  | 0x88 => s.hpLbWrite n v
  | off => s.plainWrite (16 + n) off v

/-- The write of a register of pages OPn. -/
def State.opPageWrite (s : State) (n off v : Nat) : State :=
  match off with
  | 0x40 => s.linkCtl n v
  | 0x70 => s.opLb n v
  | 0x108 => s.thrWrite (pantryWm n) (s.opAt n).pantry.length v
  | off => s.plainWrite (48 + n) off v

/-- The write of a register of pages LAMn. -/
def State.lamPageWrite (s : State) (n off v : Nat) : State :=
  if off = 0x58 then s.cond (bitOf v 23) (·.badClear n) else s.plainWrite (64 + n) off v

/-- What a write of a register does: by its types, or as its rule says. A fabric-owned page's registers beyond its header, and the bits of its header that the personality defines, are the personality's. (DESIGN CHOICE: assumption 8) -/
def State.writeReg (s : State) (path : Path) (p off v : Nat) (env : MboxEnv) : State :=
  if off < 0x40 then s.headWrite p off v
  else match p, off with
    | 0, 0x44 => s.keepRecWrite v
    | 0, 0x4C => s.stormWrite v
    | 1, 0x50 => s.clkFab v
    | 2, 0x40 => s.pwrCmd (bits v 0 3)
    | 2, 0x44 => s.targetWrite (bits v 0 3)
    | 3, 0x40 => s.errSumWrite false v
    | 3, 0x44 => s.errSumWrite true v
    | 3, 0x48 => (s.plainWrite 3 0x48 v).evalTrap
    | 3, 0x4C => (s.plainWrite 3 0x4C v).evalTrap
    | 3, 0x58 => s.faultStatWrite v
    | 4, 0x4C => if s.locked 4 then s else s.heatThr v
    | 5, 0xA0 => s.bkeyCtl v
    | 6, 0x60 => s.thrWrite spareWm s.spareUsed v
    | 6, 0x6C => s.thrWrite wearWm (s.nv.wearMax / 1000) v
    | 9, 0x5C => s.cond (bits v 0 2 == 1) fun t => t.forceClose (t.get Reg.STRM_SEL_SID)
    | 9, 0xA0 => s.thrWrite tagWm (s.strm.tags.length / 16) v
    | 10, 0x40 => s.nodeWrite v
    | 10, 0x48 => s.cond (bitOf v 1) (·.bankSwap)
    | 10, 0x50 => s.routeDataWrite v
    | 12, 0x40 => s.combCtl v
    | 12, 0x44 => s.combStatWrite v
    | 12, 0x70 => s.ecsRequest v
    | 13, 0x4C => s.tileReturn v
    | 13, 0x84 => s.queueCfg v
    | 13, 0x9C => s.queueCmd (bits v 0 2)
    | 13, 0xA0 => s.thrWrite (queueWm (s.get Reg.TEG_Q_SEL_Q)) (s.teqAt (s.get Reg.TEG_Q_SEL_Q)).slots.length v
    | 14, 0x40 => s.mboxOwn path v
    | 14, 0x44 => s.mboxCmd v env
    | 14, 0x4C => s.mboxAbortNow v
    | p, off =>
      if p = 5 ∧ 0x80 ≤ off ∧ off < 0xA0 then s.onMgmt fun m => { m with bkey := m.bkey.set ((off - 0x80) / 4) v }
      else if 16 ≤ p ∧ p < 40 then s.hpPageWrite (p - 16) off v
      else if 48 ≤ p ∧ p < 64 then s.opPageWrite (p - 48) off v
      else if 64 ≤ p ∧ p < 80 then s.lamPageWrite (p - 64) off v
      else s.plainWrite p off v

/-! The status of an access. -/

/-- A path serves (R101 to R103): the MSP from KEEP upward, the sideband and the Hatch's register access from MGMT. (DEDUCED: assumption 15) -/
def State.serves (s : State) : Path → Bool
  | .sideband => s.keep.mgmtOn && (s.hpAt 0).sbUp
  | .msp => s.keep.vauxGood
  | .hatch => s.keep.mgmtOn

/-- Why an access is not served: UNSUPPORTED or NOT_READY (Table PAGE-2); none where it is. An access that meets both, to an unassigned page while MGMT is off, is UNSUPPORTED: the spec does not order the two. (DESIGN CHOICE: assumption 15) -/
def State.accFault (s : State) (addr : Nat) : Option Nat :=
  let p := addr / 4096
  if 1048576 ≤ addr ∨ addr % 4 ≠ 0 ∨ pageAssigned p = false then some 2
  else if s.pageLive p = false then some 1
  else if pageFabric p && s.held (fabPart p) then some 1
  else none

/-- An access has completed: its status, and the record of one that is not OK (R99). -/
def State.accDone (s : State) (path : Path) (addr status data : Nat) : State :=
  (s.cond (status != 0 && s.keep.mgmtOn) fun t =>
    ((((t.put Reg.MBOX_ACC_PAGE (addr / 4096)).put Reg.MBOX_ACC_OFFSET (addr % 4096)).put Reg.MBOX_ACC_STATUS status).put Reg.MBOX_ACC_PATH
      (pathCode path)).put Reg.MBOX_ACC_VALID 1).emit (.access path status data)

/-- The master a path's accesses are captured with (Table FAULT-2). -/
def pathMaster : Path → Nat
  | .sideband => 29 | .msp => 30 | .hatch => 30

/-- The mailbox registers that only the owner writes (R106). -/
def ownerOnly (p off : Nat) : Bool :=
  p == 14 && (off == 0x44 || off == 0x4C || (decide (0x60 ≤ off) && decide (off < 0x80)) || (decide (0x400 ≤ off) && decide (off < 0x800)))

/-- A register with RWL fields. -/
def State.hasLocked (s : State) (p off : Nat) : Bool := (s.fieldsOf p off).any fun c => c.acc == .rwl

/-- A write by a path (R90 to R100, R404): its status, and the state. -/
def State.accessWrite (s : State) (path : Path) (addr v : Nat) (env : MboxEnv) : Nat × State :=
  let p := addr / 4096
  let off := addr % 4096
  let err := fun (t : State) (b : Nat) => t.raiseErr p b { master := pathMaster path, acc := 2, addr := addr }
  match s.accFault addr with
  | some st => (st, s.accDone path addr st 0)
  | none =>
    if ownerOnly p off && s.get Reg.MBOX_OWN_OWNER != pathCode path then (4, s.accDone path addr 4 0)
    else if s.refuses p off v then (0, (err s 1).accDone path addr 0 0)
    else
      let met := s.locked p && s.hasLocked p off
      let t := (s.onMgmt fun m => { m with parityBad := m.parityBad.filter (· != addr) }).writeReg path p off v env
      let t := t.cond (s.partRefused p off v) (err · 1)
      if met then (3, (err t 0).accDone path addr 3 0) else (0, t.accDone path addr 0 0)

/-! Parity (R99, R366). -/

/-- The collector's parity error (R366): PARITY, ERR [2] of page FAULT and ERR_SUM bit 3 together, whatever ERR_MSK holds; it enters the Trapdoor whatever FAULT_TRAP holds. (DEDUCED: assumption 17) -/
def State.collectorParity (s : State) (c : Capture) : State :=
  let t := s.put Reg.FAULT_STAT_PARITY 1
  (t.cond (!bitOf (t.get (Reg.ERR 3)) 2) fun u => (u.put (Reg.ERR 3) (setBitOf (u.get (Reg.ERR 3)) 2)).latchError (errBitOfPage 3) 2 3 c).evalTrap

/-- A parity error is found in a register: by a path's read, or by the background check. (DEDUCED: assumption 17) -/
def State.parityFound (s : State) (path : Option Path) (addr : Nat) : State :=
  let c : Capture := { master := match path with | some q => pathMaster q | none => 31, acc := if path.isSome then 1 else 0, addr := addr }
  if addr / 4096 = 3 then s.collectorParity c else s.raiseErr (addr / 4096) 2 c

/-- What a read does beside giving its value: RC fields clear (R92), TIME_NOW_LO latches (R219), QOS_TOK takes its snapshot (R261). -/
def State.readEffects (s : State) (p off : Nat) : State :=
  let t := (s.fieldsOf p off).foldl (fun t c => if c.acc = .rc then t.put c.fld 0 else t) s
  if p = 11 ∧ off = 0x40 then t.timeNow.2
  else if p = 8 ∧ off = 0x98 then t.put Reg.QOS_TOK2_INFLIGHT (t.tokFlight (t.get Reg.QOS_TOK_SEL_POINT))
  else if 16 ≤ p ∧ p < 40 ∧ off = 0x8C then { t with fresh := t.fresh + b2n (t.get (Reg.HP_LB_MODE (p - 16)) == 3) }.onHp (p - 16) fun h => { h with lbErr := tset 0 h.lbErr (t.get (Reg.HP_LB_LANE (p - 16))) 0 }
  else if 48 ≤ p ∧ p < 64 ∧ off = 0x74 then { t with fresh := t.fresh + b2n (t.loopPrbs (p - 48)) }.onOp (p - 48) fun o => { o with lbErr := tset 0 o.lbErr (t.get (Reg.OP_LB_LANE (p - 48))) 0 }
  else if pageFabric p ∧ (0x40 ≤ off ∨ persHead p off) then { t with fresh := t.fresh + 1 }
  else t

/-- A read by a path: its status, the data, and the state. -/
def State.accessRead (s : State) (path : Path) (addr : Nat) : Nat × Nat × State :=
  let p := addr / 4096
  let off := addr % 4096
  match s.accFault addr with
  | some st => (st, 0, s.accDone path addr st 0)
  | none =>
    if s.mgmt.parityBad.contains addr then
      (5, 0, (s.parityFound (some path) addr).accDone path addr 5 0)
    else
      let v := s.word p off
      (0, v, (s.readEffects p off).accDone path addr 0 v)

/-- A command that is a write of one register by a path. -/
def State.pathWrite (s : State) (path : Path) (addr v : Nat) (env : MboxEnv := {}) : State :=
  if s.serves path then (s.accessWrite path addr v env).2 else s

/-- A command that is a read of one register by a path. -/
def State.pathRead (s : State) (path : Path) (addr : Nat) : State :=
  if s.serves path then (s.accessRead path addr).2.2 else s

/-- What a mailbox command meets when a plain register write starts it: the Cellar meets nothing, and a comb module's bring-up ends as a free value says. (DESIGN CHOICE: assumption 14) -/
def State.openEnv (s : State) : MboxEnv :=
  { up := match Config.moduleUp s.fresh with | some w => upLit w | none => {} }

end Sys2Proof.Machine
end

