-- ==== Sys2Proof/Machine/Pins.lean ====
section
/-! DEFINITION. The signal pins and bumps: the state of each in every power state, during a partial load and in the Trapdoor (Tables PKG-4, PKG-5, FAULT-3), the levels Isax drives, and the boundary scan over them (R55 to R60, R103). -/

namespace Sys2Proof.Machine

/-- The signal pins of Table PKG-4, and the bump groups of Table PKG-5. -/
inductive Pin where
  | refclk | pwrEn | resetN | wakeN | faultN | alive | faultInN | thermN
  | urg (n : Fin 24)
  | legacyBrn | bootSrc (i : Fin 2) | chainFirst | twinRole
  | cfgDi | cfgDo | cfgClk
  | mspClk | mspDi | mspCsN | mspDo
  | tck | tms | tdi | trstN | tdo
  | ecsClk (i : Fin 5) | ecsDat (i : Fin 5) | ecsEn (i : Fin 5)
  | hp (n : Fin 24)
  | twin
  deriving DecidableEq, Repr

/-- What a pin does (R57): unpowered, high impedance, sampled and acted on, not acted on, operating, driven low; and, of a host port, its sideband alone operating with the main band's transmitters idle. -/
inductive PinMode where
  | unpowered | highZ | input | ignored | active | low | sideband
  deriving DecidableEq, Repr

/-- The internal pull of a pin while its bank is powered (Table PKG-4): up, down, or none. -/
def Pin.pull : Pin → Option Bool
  | .resetN => some true | .wakeN => some true | .faultInN => some true | .mspCsN => some true | .tms => some true | .tdi => some true
  | .ecsDat _ => some true
  | .pwrEn => some false | .urg _ => some false | .legacyBrn => some false | .bootSrc _ => some false | .chainFirst => some false | .twinRole => some false
  | .cfgDi => some false | .cfgClk => some false | .mspClk => some false | .mspDi => some false | .tck => some false | .trstN => some false
  | .refclk => none | .faultN => none | .alive => none | .thermN => none | .cfgDo => none | .mspDo => none | .tdo => none | .ecsClk _ => none
  | .ecsEn _ => none | .hp _ => none | .twin => none

/-- The pins are in the columns of DARK, LIT and RUN (Table PKG-5). -/
def State.pinsDark (s : State) : Bool := s.keep.mgmtOn && decide (2 ≤ s.power)

/-- The straps are sampled in step S2 (R62). -/
def State.strapsIn (s : State) : Bool := s.bit Reg.PWR_STAT_BUSY && !s.bit Reg.PWR_STAT_DIR && s.get Reg.PWR_STAT_STEP == 2

/-- Table PKG-5, with the rows of Table FAULT-3 on pins. The KEEP column holds for the time in which MGMT is not powered and clocked (R58). -/
def State.pinMode (s : State) (p : Pin) : PinMode :=
  if !s.keep.vauxGood then .unpowered
  else
    let byStage := fun (keep mgmt dark : PinMode) => if s.pinsDark then dark else if s.keep.mgmtOn then mgmt else keep
    match p with
    | .refclk => byStage .ignored .input .input
    | .pwrEn => .input | .resetN => .input | .wakeN => .input | .faultInN => .input
    | .faultN => byStage (if s.faultNLow then .low else .highZ) .active .active
    | .alive => byStage .low (if s.keep.hkArmed then .active else .low) .active
    | .thermN => byStage (if s.keep.thermLatch then .low else .highZ) .active .active
    | .urg n => if s.urgIn n then .input else .ignored
    | .legacyBrn => byStage (if s.strapsIn then .input else .ignored) .ignored .ignored
    | .bootSrc _ => byStage (if s.strapsIn then .input else .ignored) .ignored .ignored
    | .chainFirst => byStage (if s.strapsIn then .input else .ignored) .ignored .ignored
    | .twinRole => byStage (if s.strapsIn then .input else .ignored) .ignored .ignored
    | .cfgDi => byStage .highZ .active .active | .cfgDo => byStage .highZ .active .active | .cfgClk => byStage .highZ .active .active
    | .mspClk => .input | .mspDi => .input | .mspCsN => .input | .mspDo => .active
    | .tck => .active | .tms => .active | .tdi => .active | .trstN => .active | .tdo => .active
    | .ecsClk _ => byStage .highZ .low .active
    | .ecsDat _ => byStage .highZ .highZ .active
    | .ecsEn _ => byStage .highZ .low .active
    | .hp n => byStage .highZ (if n = 0 then .sideband else .highZ) (if s.held n || s.keep.inTrap then .sideband else .active)
    | .twin => byStage .highZ .highZ (if s.twin.enabled then .active else .highZ)

/-- The signal pins of banks A and B except the Hatch pins, in the order of Table PKG-4: the cells of the boundary (R103). (DESIGN CHOICE: assumption 18) -/
def boundaryPins : List Pin :=
  [.pwrEn, .resetN, .wakeN, .faultN, .alive, .faultInN, .thermN] ++ (List.finRange 24).map .urg ++ [.legacyBrn, .bootSrc 0, .bootSrc 1, .chainFirst, .twinRole] ++
    [.cfgDi, .cfgDo, .cfgClk] ++ [.mspClk, .mspDi, .mspCsN, .mspDo] ++ (List.finRange 5).map .ecsClk ++ (List.finRange 5).map .ecsDat ++ (List.finRange 5).map .ecsEn

/-- The level at an output pin in the function of its block: what Isax drives, and what the resistors that the board must fit hold (R56); none where the state does not say. -/
def State.pinFunc (s : State) (p : Pin) : Option Bool :=
  match p with
  | .faultN => some (!(s.keep.vauxGood && s.faultNLow))
  | .thermN => some (!(s.keep.vauxGood && s.thermNLow))
  | .alive => if s.keep.vauxGood then some s.keep.alive else none
  | .ecsEn i => some (s.pinMode p == .active && (tget ({} : Ecs) s.mgmt.ecs i).en)
  | p => if s.pinMode p = .low then some false else none

/-- The level at an output pin: under EXTEST the boundary's cell, else its function's (R103). -/
def State.pinLevel (s : State) (p : Pin) : Option Bool :=
  if s.mgmt.extest then
    match boundaryPins.findIdx? (· == p) with
    | some i => s.mgmt.bscan[i]?
    | none => s.pinFunc p
  else s.pinFunc p

/-- The boundary captures its pins (R103): the levels the state holds, and free values for those that it does not. (DESIGN CHOICE: assumption 18) -/
def State.bscanTake (s : State) : State :=
  { s with fresh := s.fresh + 58 }.emit (.bscanOut ((List.range 58).map fun i =>
    (boundaryPins[i]?.bind s.pinLevel).getD ((Config.freeWord (8 * (s.fresh + i))).toNat % 2 == 1)))

end Sys2Proof.Machine
end

