-- ==== Sys2Proof/Machine/Access.lean ====
section
/-! DEFINITION. The access paths (R101 to R104), and the rows that are an access to one register, in the order of the opcode table. -/

namespace Sys2Proof.Machine

/-! The paths. -/

/-- SIDEBAND_REGISTER_ACCESS (R101, R146): served on HP0; one on another module, a fifth outstanding request, another width and a configuration request complete with UR. (DEDUCED: assumption 15) -/
def execSidebandRegisterAccess (n : HpId) (outstanding : Nat) (req : SbRequest) (s : State) : Result :=
  if n.val ≠ 0 then .next (s.cond (s.hpAt n).sbUp (·.emit (.sbCpl n false 0)))
  else if s.serves .sideband = false then .next s
  else if 4 ≤ outstanding ∨ req.width ≠ 32 ∨ req.config then
    .next ((s.accDone .sideband (req.addr % 1048576) 2 0).emit (.sbCpl n false 0))
  else if req.write then
    let r := s.accessWrite .sideband req.addr req.data.toNat s.openEnv
    .next (r.2.emit (.sbCpl n (r.1 == 0) 0))
  else
    let r := s.accessRead .sideband req.addr
    .next (r.2.2.emit (.sbCpl n (r.1 == 0) r.2.1))

/-- What MSP_DO carries of a result: nothing where MSP_CS_N rose during the result phase (R102). -/
def State.mspResult (s : State) (cut : Option Nat) (data : Option Nat) (status : Nat) : State :=
  s.cond cut.isNone (·.emit (.mspOut data status))

/-- MSP_TRANSACTION (R102): command 0x02 writes, 0x03 reads, any other makes no access; a write cut off before its 32nd data bit never happens, and a rise of MSP_CS_N during the result phase loses only the result. (DEDUCED: assumption 15) -/
def execMspTransaction (t : MspFrame) (s : State) : Result :=
  if s.serves .msp = false then .next s
  else if t.cmd = 0x02 then
    if (match t.cut with | some k => decide (k < 32) | none => false) then .next s
    else
      let r := s.accessWrite .msp t.addr.toNat t.data.toNat s.openEnv
      .next (r.2.mspResult t.cut none r.1)
  else if t.cmd = 0x03 then
    let r := s.accessRead .msp t.addr.toNat
    .next (r.2.2.mspResult t.cut (some r.2.1) r.1)
  else .next ((s.accDone .msp (t.addr.toNat % 1048576) 2 0).mspResult t.cut none 2)

/-- The access of the last Update-DR has not completed by this Capture-DR (R104): the time that R100 gives it still runs, no Capture-DR has found it so before, and a free value says so. (DESIGN CHOICE: assumption 15) -/
def State.regaccLate (s : State) : Bool :=
  match s.mgmt.regacc with
  | some r => !r.late && decide (s.now < r.due) && Config.accessPending s.fresh
  | none => false

/-- What Capture-DR loads under REGACC (R104): DONE, STATUS and RDATA of the access before; with DONE 0 the other two are free values. (DESIGN CHOICE: assumption 15) -/
def State.regaccOut (s : State) : Nat :=
  let idle := 2 * ((Config.freeWord (8 * s.fresh)).toNat + 2 ^ 32 * ((Config.freeWord (8 * s.fresh + 1)).toNat % 256))
  match s.mgmt.regacc with
  | some r => if s.regaccLate then idle else 1 + r.status * 2 + r.rdata * 2 ^ 9
  | none => idle

/-- Capture-DR under REGACC. -/
def State.regaccCapture (s : State) : State := { (s.hatchSelect .regacc).emit (.tdo 61 s.regaccOut) with fresh := s.fresh + 1 }

/-- The access that an Update-DR has made, with the time by which it completes: 2 us on a KEEP-domain page, 1 us on any other (R100). -/
def State.regaccMade (s : State) (addr status data : Nat) : State :=
  s.onMgmt fun m => { m with regacc := some { status := status, rdata := data, due := s.now + (if addr / 4096 = 0 ∨ addr / 4096 = 2 then 2000 else 1000) } }

/-- REGACC (R104): Capture-DR reports the access before, Update-DR makes this one, unless the one before is still pending. (DEDUCED: assumption 15) -/
def execRegacc (write : Bool) (addr : RegAddr) (wdata : Word) (s : State) : Result :=
  if s.keep.mgmtOn = false then .next s.hatchBypass
  else
    let t := s.regaccCapture
    let a := addr % 1048576
    if s.regaccLate then .next (t.onMgmt fun m => { m with regacc := m.regacc.map fun r => { r with late := true } })
    else if write then
      let r := t.accessWrite .hatch a wdata.toNat t.openEnv
      .next (r.2.regaccMade a r.1 0)
    else
      let r := t.accessRead .hatch a
      .next (r.2.2.regaccMade a r.1 r.2.1)

/-- IDCODE (R103). (PRESUMED: assumption 6) -/
def execIdcode (s : State) : Result := .next (s.cond s.keep.vauxGood fun t => (t.hatchSelect .idcode).emit (.tdo 32 0x10512F6B))

/-- The opcodes of Table PAGE-3. (PRESUMED: assumption 6) -/
def hatchKnown (op : Nat) : Bool := op ∈ [0x00, 0x01, 0x02, 0x20, 0x21]

/-- BYPASS (R103): its own opcode, one outside Table PAGE-3, and below MGMT every one but IDCODE. (PRESUMED: assumption 6) -/
def execBypass (opcode : Byte) (s : State) : Result :=
  .next (s.cond (s.keep.vauxGood && (!hatchKnown opcode.toNat || (!s.keep.mgmtOn && opcode != 0x01))) (·.hatchBypass))

/-- EXTEST (R103): the boundary captures its pins and then drives them. (DESIGN CHOICE: assumption 18) -/
def execExtest (drive : List Bool) (s : State) : Result :=
  .next (if s.keep.mgmtOn then ((s.hatchSelect .extest).bscanTake).onMgmt fun m => { m with bscan := drive } else s.hatchBypass)

/-- SAMPLE/PRELOAD (R103): the pins are sampled, and the boundary may be preloaded. (DESIGN CHOICE: assumption 18) -/
def execSamplePreload (preload : Option (List Bool)) (s : State) : Result :=
  .next (if s.keep.mgmtOn then ((s.hatchSelect .samplePreload).bscanTake).onMgmt fun m => { m with bscan := preload.getD m.bscan } else s.hatchBypass)

/-! Rows that are a write or a read of one register. -/

/-- CLK_FAB_WRITE (R73). -/
def execClkFabWrite (p : Path) (v : Word) (s : State) : Result := .next (s.pathWrite p 0x1050 v.toNat)

/-- STORM_UNMASK (R67). -/
def execStormUnmask (p : Path) (v : Word) (s : State) : Result := .next (s.pathWrite p 0x004C v.toNat)

/-- PWR_CMD_ON (R76). -/
def execPwrCmdOn (p : Path) (s : State) : Result := .next (s.pathWrite p 0x2040 1)

/-- PWR_CMD_OFF (R85). -/
def execPwrCmdOff (p : Path) (s : State) : Result := .next (s.pathWrite p 0x2040 2)

/-- PWR_CMD_OFF_STAY (R84). -/
def execPwrCmdOffStay (p : Path) (s : State) : Result := .next (s.pathWrite p 0x2040 3)

/-- PWR_CMD_RESET (R87). -/
def execPwrCmdReset (p : Path) (s : State) : Result := .next (s.pathWrite p 0x2040 4)

/-- TARGET_CHANGE (R77). -/
def execTargetChange (p : Path) (v : Word) (s : State) : Result := .next (s.pathWrite p 0x2044 v.toNat)

/-- KEEP_REC_CLEAR (R79). -/
def execKeepRecClear (p : Path) (v : Word) (s : State) : Result := .next (s.pathWrite p 0x0044 v.toNat)

/-- FAULT_ALIVE_KICK (R364): the housekeeper's kick; one from an access path is ignored. -/
def execFaultAliveKick (src : Option Path) (s : State) : Result :=
  match src with
  | none => .next s.kick
  | some p => .next (s.pathWrite p 0x305C 1)

/-- REGISTER_WRITE (R92). -/
def execRegisterWrite (p : Path) (a : RegAddr) (v : Word) (s : State) : Result := .next (s.pathWrite p a v.toNat s.openEnv)

/-- CTL_LOCK (R94): LOCK is written 1 and IRQ_EN as it is. (DEDUCED: assumption 16) -/
def execCtlLock (p : Path) (page : Page) (s : State) : Result :=
  .next (s.pathWrite p (page.val * 4096 + 8) (1 + 2 * s.get (Reg.IRQ_EN page)))

/-- The address of a watermark's thresholds. -/
def wmAddr : Watermark → Nat
  | .cellSpare => 0x6060
  | .cellWear => 0x606C
  | .strmTag => 0x90A0
  | .tegQ => 0xD0A0
  | .hostCredit n => (16 + n.val) * 4096 + 0x80
  | .pantry n => (48 + n.val) * 4096 + 0x108

/-- WATERMARK_THRESHOLD_WRITE (R97, R98). -/
def execWatermarkThresholdWrite (p : Path) (w : Watermark) (v : Word) (s : State) : Result := .next (s.pathWrite p (wmAddr w) v.toNat)

/-- REG_PARITY (R99): a register is found to hold a parity error, by a path's read or by the background check. (DEDUCED: assumption 17) -/
def execRegParity (a : RegAddr) (rd : Option Path) (s : State) : Result :=
  if (s.accFault a).isSome || (match rd with | some p => !s.serves p | none => false) then .next s
  else
    let t := s.onMgmt fun m => { m with parityBad := if m.parityBad.contains a then m.parityBad else m.parityBad ++ [a] }
    .next (match rd with
      | some p => t.pathRead p a
      | none => t.parityFound none a)

/-- PROG (R119). -/
def execProg (p : Path) (s : State) : Result := .next (s.pathWrite p 0x50A0 1)

/-- ZERO (R119). -/
def execZero (p : Path) (s : State) : Result := .next (s.pathWrite p 0x50A0 2)

/-- HP_CFG_EN (R143). -/
def execHpCfgEn (p : Path) (n : HpId) (v : Word) (s : State) : Result := .next (s.pathWrite p ((16 + n.val) * 4096 + 0x40) v.toNat)

/-- HP_LB_MODE (R162). -/
def execHpLbMode (p : Path) (n : HpId) (v : Word) (s : State) : Result := .next (s.pathWrite p ((16 + n.val) * 4096 + 0x88) v.toNat)

/-- HP_WIDE_RATE (R150). -/
def execHpWideRate (p : Path) (n : HpId) (v : Word) (s : State) : Result := .next (s.pathWrite p ((16 + n.val) * 4096 + 0x50) v.toNat)

/-- URG_UNMASK (R161). -/
def execUrgUnmask (p : Path) (n : HpId) (v : Word) (s : State) : Result := .next (s.pathWrite p ((16 + n.val) * 4096 + 0x60) v.toNat)

/-- ECS_REQUEST (R171). -/
def execEcsRequest (p : Path) (v : Word) (s : State) : Result := .next (s.pathWrite p 0xC070 v.toNat)

/-- COMB_FAILED_CLEAR (R169). -/
def execCombFailedClear (p : Path) (v : Word) (s : State) : Result := .next (s.pathWrite p 0xC044 v.toNat)

/-- LOL_UNMASK (R193). -/
def execLolUnmask (p : Path) (v : Word) (s : State) : Result := .next (s.pathWrite p 0xC044 v.toNat)

/-- BAD_CLEAR (R192). -/
def execBadClear (p : Path) (n : OpId) (s : State) : Result := .next (s.pathWrite p ((64 + n.val) * 4096 + 0x58) (2 ^ 23))

/-- LINK_CTL_WRITE (R212). -/
def execLinkCtlWrite (p : Path) (n : OpId) (v : Word) (s : State) : Result := .next (s.pathWrite p ((48 + n.val) * 4096 + 0x40) v.toNat)

/-- OP_LB_MODE (R216). -/
def execOpLbMode (p : Path) (n : OpId) (v : Word) (s : State) : Result := .next (s.pathWrite p ((48 + n.val) * 4096 + 0x70) v.toNat)

/-- TIME_NOW_READ (R219). -/
def execTimeNowRead (p : Path) (s : State) : Result := .next (s.pathRead p 0xB040)

/-- FORCED_CLOSE (R224). -/
def execForcedClose (p : Path) (s : State) : Result := .next (s.pathWrite p 0x905C 1)

/-- ROUTE_NODE_WRITE (R23). -/
def execRouteNodeWrite (p : Path) (v : Word) (s : State) : Result := .next (s.pathWrite p 0xA040 v.toNat)

/-- ROUTE_BANK_SWAP (R33). -/
def execRouteBankSwap (p : Path) (s : State) : Result := .next (s.pathWrite p 0xA048 2)

/-- ROUTE_DATA_WRITE (R25, R38). -/
def execRouteDataWrite (p : Path) (v : Word) (s : State) : Result := .next (s.pathWrite p 0xA050 v.toNat)

/-- QOS_TOK_READ (R261). -/
def execQosTokRead (p : Path) (s : State) : Result := .next (s.pathRead p 0x8098)

/-- The address of a queue's binding register. -/
def bindAddr : Binding → Nat
  | .dsid => 0xD08C | .feed0 => 0xD090 | .feed1 => 0xD094

/-- QUEUE_BIND (R267). -/
def execQueueBind (p : Path) (b : Binding) (v : Word) (s : State) : Result := .next (s.pathWrite p (bindAddr b) v.toNat)

/-- RESUME (R282). -/
def execResume (p : Path) (s : State) : Result := .next (s.pathWrite p 0xD09C 1)

/-- FLUSH (R282). -/
def execFlush (p : Path) (s : State) : Result := .next (s.pathWrite p 0xD09C 2)

/-- TEG_FAIL_RETURN (R289). -/
def execTegFailReturn (p : Path) (v : Word) (s : State) : Result := .next (s.pathWrite p 0xD04C v.toNat)

/-- CAL_EN_WRITE (R287): the rotation follows CAL_EN at the next boundary. -/
def execCalEnWrite (p : Path) (v : Word) (s : State) : Result := .next (s.pathWrite p 0xD040 v.toNat)

/-- HEAT_THR_WRITE (R346). -/
def execHeatThrWrite (p : Path) (v : Word) (s : State) : Result := .next (s.pathWrite p 0x404C v.toNat)

/-- ERR_SUM_WRITE (R365). -/
def execErrSumWrite (p : Path) (hi : Bool) (v : Word) (s : State) : Result := .next (s.pathWrite p (if hi then 0x3044 else 0x3040) v.toNat)

/-- FAULT_TRAP_WRITE (R366, R369). -/
def execFaultTrapWrite (p : Path) (hi : Bool) (v : Word) (s : State) : Result := .next (s.pathWrite p (if hi then 0x304C else 0x3048) v.toNat)

/-- PARITY_CLEAR (R369). -/
def execParityClear (p : Path) (s : State) : Result := .next (s.pathWrite p 0x3058 4)

/-! Faults of no unit above. -/

/-- COLLECTOR_PARITY (R366): which register of the collector it is in is not told: the captured address is a free value. (DEDUCED: assumption 17) -/
def execCollectorParity (s : State) : Result :=
  .next (s.cond s.keep.vauxGood fun t => (t.takeFree.2).collectorParity { addr := 0x3000 + t.takeFree.1.toNat % 4096 })

/-- FW_FATAL (R358). -/
def execFwFatal (s : State) : Result := .next (s.cond s.mgmt.hkRun (·.raiseErrFree 14 9))

/-- REORDER_STORE_UE (R360, Table FAULT-2). -/
def execReorderStoreUe (block : Nat) (s : State) : Result :=
  .next (s.cond s.keep.domainsOn (·.raiseErr 9 8 { acc := 3, addr := 0x400000000000 + block }))

end Sys2Proof.Machine
end

