-- ==== Sys2Proof/Machine/Grant.lean ====
section
/-! DEFINITION. The grants of the arbitration points (R248 to R262): what holds a request, the pick, what passes with a grant, and the time a head is held. -/

namespace Sys2Proof.Machine

/-! What holds a request. -/

/-- A frame of a stream with this node itself cannot be taken now: its module is held, or it goes to the transit engine and finds no room there (R128, R225, R277). (DESIGN CHOICE: assumption 20) -/
def State.ownHeld (s : State) (f : Frame) : Bool :=
  let c := s.ctxAt f.dsid
  c.recv && c.state == 1 && c.peerNode == f.src &&
    (s.held c.module || ((s.feedOf f.dsid).isSome && decide (0x400000 < s.teBuffered + f.payload.length)))

/-- What a send that waits for a Pantry slot still waits for (R226, R227, R237, R259): none where it can be sent, or its context is no longer open for sending. (DESIGN CHOICE: assumption 20) -/
def State.sendBlocked (s : State) (sid : Nat) : Option Nat :=
  let c := s.ctxAt sid
  if c.recv || (c.state != 1 && c.state != 2) then none
  else if c.state = 2 ∨ s.get Reg.STRM_CFG_WIN ≤ c.live.length then some 1
  else
    match (s.pickRoute c.peerNode c.peerSid false).1 with
    | none => some 1
    | some (port, _) => if 4096 ≤ (s.opAt port).pantry.length then some 2 else none

/-- Why a head request cannot be granted now (R259): none where it can, else CREDIT, PANTRY or THERMAL. -/
def State.blocked (s : State) (pt : Nat) (q : QReq) : Option Nat :=
  if pt ≠ 0 then s.portBlocked (pt - 1) q
  else
    match (match q.item with
      | .hold sid _ => s.sendBlocked sid
      | .own _ f => if s.ownHeld f then some 1 else none
      | _ => none) with
    | some c => some c
    | none => if q.tc ≠ 0 ∧ s.pointPaused 0 then some 3 else none

/-- A change made to the first request of each master and class, and to no other. -/
def mapHeads (f : QReq → QReq) : List (Nat × Nat) → List QReq → List QReq
  | _, [] => []
  | seen, q :: l => if seen.contains (q.master, q.tc) then q :: mapHeads f seen l else f q :: mapHeads f ((q.master, q.tc) :: seen) l

/-- A nanosecond passes for the heads of a point: each is held by its own cause, or by other grants (R259). -/
def State.holdHeads (s : State) (pt : Nat) : State :=
  s.onPoint pt fun p =>
    { p with waiting := mapHeads (fun q => { q with holds := setAt q.holds ((s.blocked pt q).getD 0) (q.holds.getD ((s.blocked pt q).getD 0) 0 + 1) }) [] p.waiting }

/-- A nanosecond passes for every point. -/
def State.holdAll (s : State) : State := s.forAll (s.qos.map (·.1)) fun pt t => t.holdHeads pt

/-! The pick. -/

/-- The pick among requests that are not TC0 (R257): owed, then shared, by effective priority. -/
def State.pickRest (s : State) (p : QosPoint) (ready : List QReq) : Option (QReq × Draw) :=
  let rest := ready.filter fun q => q.tc != 0
  let key := fun q => ((15 - s.prio q) * 32 + rrRank p.last q.master) * 8 + q.tc
  match leastBy key (rest.filter fun q => decide (0 < p.buckets.getD q.master 0)) with
  | some q => some (q, .owed)
  | none =>
    if p.pool + p.lendable = 0 then none
    else (leastBy key (rest.filter fun q => p.buckets.getD q.master 0 == 0)).map (·, .shared)

/-- The pick of a grant (R257): the oldest TC0 request that finds a token, then owed, then shared by effective priority. -/
def State.pick (s : State) (pt : Nat) : Option (QReq × Draw) :=
  let p := s.point pt
  let ready := p.heads.filter fun q => (s.blocked pt q).isNone
  match leastBy (fun q => q.born * 64 + q.master) (ready.filter fun q => q.tc == 0) with
  | some q => if 0 < p.rsv + p.pool then some (q, .tc0) else s.pickRest p ready
  | none => s.pickRest p ready

/-! What passes. -/

/-- A frame in a Pantry slot passes on to its port's transmitter, at the class and with the master it was charged to. -/
def State.toPort (s : State) (m tc port slot : Nat) : State :=
  match tget none (s.opAt port).pantry slot with
  | some f => s.presentSlot port m tc (frameBlocks f) port slot false
  | none => s

/-- A frame of a stream with this node itself is taken, and acknowledged as it is (R225). (DESIGN CHOICE: assumption 20) -/
def State.takeOwn (s : State) (sid : Nat) (f : Frame) : State :=
  let (ok, t) := s.takeData f false
  if ok then
    (t.onCtx sid fun c => { c with acked := (f.seq + 1) % seqMod c.brynn, unack := c.unack.filter fun u => !(u.port == 16 && u.seq == f.seq) }).ctxSettle sid
  else t

/-- A send that waited for a Pantry slot finds one, and its frame goes on to its port; where its context is no longer open for sending, the module hears NOT_OPEN (R224, R237). -/
def State.sendLate (s : State) (sid : Nat) (payload : List Byte) (m tc : Nat) : State :=
  let c := s.ctxAt sid
  if c.recv || (c.state != 1 && c.state != 2) then s.emit (.notOpen m sid)
  else
    match s.pickRoute c.peerNode c.peerSid false with
    | (none, t) => t
    | (some (port, dl), t) =>
      let (slot, u) := t.slotFrame sid port dl payload m tc
      u.toPort m tc port slot

/-- A request that holds every token it needs goes through its point (R154, R248, R261). (DEDUCED: assumption 25) -/
def State.through (s : State) (pt : Nat) (q : QReq) : State :=
  let t := s.cond (q.ing != 0) (·.freeIngress q.master q.ing)
  match q.item with
  | .core => t
  | .enter port slot => t.toPort q.master q.tc port slot
  | .own sid f => t.takeOwn sid f
  | .hold sid payload => t.sendLate sid payload q.master q.tc
  | .slot home slot rpl => t.departSlot (pt - 1) home slot rpl
  | .relay f p pool => t.departRelay (pt - 1) f p pool

/-- The tokens of a pick are drawn; a request that holds all it needs goes through, and its tokens are spent until the next round (R254, R257, R261). -/
def State.grantReq (s : State) (pt : Nat) (q : QReq) (d : Draw) : State :=
  let (n, p) := (s.point pt).draw q d
  let full := decide (q.got + n = q.cost)
  let upd := fun (r : QReq) => if full then none else some { r with got := r.got + n }
  let t := s.onPoint pt fun _ =>
    QosPoint.keepWhole { p with
      waiting := changeFirst q upd p.waiting, spent := p.spent + (if full then q.cost else 0), last := q.master,
      recvd := setAt p.recvd q.master (p.recvd.getD q.master 0 + n) }
  t.cond full fun u => (u.cond (pt != 0) (·.onOp (pt - 1) fun o => { o with owed := false })).through pt q

/-! Frames that take no token. -/

/-- The frame without a slot that port n may send now (R208, R250): its turn has come, no link-control frame goes before it, and the port has the credit. -/
def State.freeFrame (s : State) (n : Nat) : Option Frame :=
  match (s.opAt n).ackQ with
  | [] => none
  | f :: _ =>
    if s.get (Reg.OP_STAT_PSTATE n) ≠ 2 ∨ s.freeTurn n = false ∨ (s.opAt n).lctlQ ≠ [] ∨ (s.opAt n).txCr.getD (poolOf f.tc f.rl) 0 < frameBlocks f then none
    else some f

/-- The link-control message that port n may send now (R250). -/
def State.freeLctl (s : State) (n : Nat) : Option (Nat × List Nat) :=
  if s.get (Reg.OP_STAT_PSTATE n) = 2 ∧ s.freeTurn n = true then (s.opAt n).lctlQ.head? else none

/-- What takes no token leaves port n, where its turn has come: a link-control frame before a frame without a slot (R208, R250). -/
def State.sendUntokened (s : State) (n : Nat) : Option State :=
  match s.freeLctl n, s.freeFrame n with
  | some (code, fields), _ => some ((s.onOp n fun o => { o with lctlQ := o.lctlQ.tail }).lctlGo n code fields)
  | none, some f => some ((s.onOp n fun o => { o with ackQ := o.ackQ.tail, owed := true }).leave n f)
  | none, none => none

/-- GRANT (R250, R252, R254, R257, R261, R264): a transmitter sends a frame that takes no token where its turn has come, or the point picks one request and grants it tokens. While the gates are closed or traffic is frozen only a link-control frame that waits may leave. -/
def execGrant (pt : PointId) (s : State) : Result :=
  if !s.gates || s.frozen then
    .next (if pt.val = 0 then s
      else match s.freeLctl (pt - 1) with
        | some (code, fields) => (s.onOp (pt - 1) fun o => { o with lctlQ := o.lctlQ.tail }).lctlGo (pt - 1) code fields
        | none => s)
  else
    let t := (s.tc0Over pt).roundEnd pt
    match (if pt.val = 0 then none else t.sendUntokened (pt - 1)) with
    | some u => .next u
    | none =>
      match t.pick pt with
      | some (q, d) => .next (((t.grantReq pt q d).tc0Over pt).roundEnd pt)
      | none => .next t

end Sys2Proof.Machine
end

