-- ==== Sys2Proof/Machine/Mailbox.lean ====
section
/-! DEFINITION. The rows of the mailbox: each is the write of MBOX_OWN, MBOX_CMD or MBOX_CTL by a path that the row stands for, and the ends of a command (R105 to R109). -/

namespace Sys2Proof.Machine

/-- The write of MBOX_CMD with GO and an opcode by a path. -/
def State.mboxIssue (s : State) (p : Path) (op : Nat) (env : MboxEnv := {}) : State := s.pathWrite p 0xE044 (2 ^ 31 + op) env

/-- MBOX_CLAIM (R106). -/
def execMboxClaim (p : Path) (s : State) : Result := .next (s.pathWrite p 0xE040 0x100)

/-- MBOX_RELEASE (R106). -/
def execMboxRelease (p : Path) (s : State) : Result := .next (s.pathWrite p 0xE040 0x200)

/-- PING (R108). -/
def execPing (p : Path) (s : State) : Result := .next (s.mboxIssue p 0x01)

/-- FW_INFO (R108). -/
def execFwInfo (p : Path) (s : State) : Result := .next (s.mboxIssue p 0x02)

/-- FW_RELOAD (R401). -/
def execFwReload (p : Path) (env : CellEnv) (s : State) : Result := .next (s.mboxIssue p 0x03 { cell := env })

/-- LOFT_WRITE (R295). -/
def execLoftWrite (p : Path) (env : CellEnv) (s : State) : Result := .next (s.mboxIssue p 0x10 { cell := env })

/-- LOFT_COMMIT (R295). -/
def execLoftCommit (p : Path) (env : CellEnv) (s : State) : Result := .next (s.mboxIssue p 0x11 { cell := env })

/-- PERS_LOAD (R121). -/
def execPersLoad (p : Path) (s : State) : Result := .next (s.mboxIssue p 0x20)

/-- RING_SEARCH (R180). -/
def execRingSearch (p : Path) (s : State) : Result := .next (s.mboxIssue p 0x30)

/-- MAP_SAVE (R296). -/
def execMapSave (p : Path) (env : CellEnv) (s : State) : Result := .next (s.mboxIssue p 0x31 { cell := env })

/-- LINE_SWAP (R189). -/
def execLineSwap (p : Path) (s : State) : Result := .next (s.mboxIssue p 0x32)

/-- COMB_SWITCH with ARG1 = 0 (R173). (DESIGN CHOICE: assumption 12) -/
def execCombSwitchOntoCombs (p : Path) (up : ModuleUp) (s : State) : Result :=
  .next (s.cond (s.arg 1 == 0) (·.mboxIssue p 0x33 { up := up }))

/-- COMB_SWITCH with ARG1 = 1 (R174). -/
def execCombSwitchBack (p : Path) (up : ModuleUp) (s : State) : Result :=
  .next (s.cond (s.arg 1 == 1) (·.mboxIssue p 0x33 { up := up }))

/-- CAL_NOW (R288). -/
def execCalNow (p : Path) (s : State) : Result := .next (s.mboxIssue p 0x40)

/-- TWIN_CTL with ARG0 = 1 (R318). (DESIGN CHOICE: assumption 12) -/
def execTwinCtlEnable (p : Path) (s : State) : Result := .next (s.cond (s.arg 0 == 1) (·.mboxIssue p 0x50))

/-- TWIN_CTL with ARG0 = 0 (R341). -/
def execTwinCtlDisable (p : Path) (s : State) : Result := .next (s.cond (s.arg 0 == 0) (·.mboxIssue p 0x50))

/-- TWIN_CTL with ARG0 = 2 (R340). -/
def execTwinCtlHandOver (p : Path) (s : State) : Result := .next (s.cond (s.arg 0 == 2) (·.mboxIssue p 0x50))

/-- DUMP_NOW (R371). -/
def execDumpNow (p : Path) (env : CellEnv) (s : State) : Result := .next (s.mboxIssue p 0x60 { cell := env })

/-- ATTIC_READ (R297). -/
def execAtticRead (p : Path) (env : CellEnv) (s : State) : Result := .next (s.mboxIssue p 0x61 { cell := env })

/-- ATTIC_FREE (R297). -/
def execAtticFree (p : Path) (s : State) : Result := .next (s.mboxIssue p 0x62)

/-- FTIME_SET (R219). -/
def execFtimeSet (p : Path) (s : State) : Result := .next (s.mboxIssue p 0x70)

/-- CKPT_SAVE (R316). -/
def execCkptSave (p : Path) (env : CellEnv) (s : State) : Result := .next (s.mboxIssue p 0x71 { cell := env })

/-- CKPT_RESTORE (R317). -/
def execCkptRestore (p : Path) (env : CellEnv) (s : State) : Result := .next (s.mboxIssue p 0x72 { cell := env })

/-- BAD_OPCODE (R105): an opcode absent from Table MBOX-1. -/
def execBadOpcode (p : Path) (op : Byte) (s : State) : Result := .next (s.cond (mboxRow op.toNat).isNone (·.mboxIssue p op.toNat))

/-- The running command may end of itself: the housekeeper serves, no event of its own is awaited, and a search has swept every ring. -/
def State.mboxReady (s : State) : Bool :=
  match s.mgmt.mbox with
  | some r => s.mgmt.hkRun && !r.wait && (r.op != 0x30 || r.code != 0 || s.mgmt.searchPorts == 0 || s.mgmt.sweep.isEmpty)
  | none => false

/-- MBOX_COMMAND_END (R107). (DESIGN CHOICE: assumption 11) -/
def execMboxCommandEnd (s : State) : Result := .next (s.cond s.mboxReady (·.mboxDone))

/-- MBOX_TIMEOUT (R107): the mailbox hardware ends the command; RES0 of a PERS_LOAD is its load's TIMEOUT. (DESIGN CHOICE: assumption 11) -/
def execMboxTimeout (s : State) : Result := .next (s.mboxStop 0x05 0x17)

/-- MBOX_ABORT (R107). (DESIGN CHOICE: assumption 11) -/
def execMboxAbort (p : Path) (s : State) : Result := .next (s.pathWrite p 0xE04C 1)

end Sys2Proof.Machine
end

