-- ==== Sys2Proof/Machine/Swap.lean ====
section
/-! DEFINITION. The spare swap's messages and rolling calibration (R187 to R191, Table LAM-3). The codes 0x10 to 0x17 are those of Table LINK-6. -/

namespace Sys2Proof.Machine

/-- The answer the receiving end gives a SWAP_REQ it has acted on (R187). -/
def State.swapAnswer (s : State) (n : Nat) (r : SwapR) : State :=
  if r.nak ≠ 0 then s.lctlSend n 0x12 [r.id, r.nak]
  else if r.ready then s.lctlSend n 0x11 [r.id]
  else s

/-- SWAP_REQ (R188, R189): the receiving end begins to align the spare line, or answers SWAP_NAK: cause 3 for a BAD line, 1 for a ring not locked. A repeat is answered again. -/
def execSwapReq (n : OpId) (id lane line : Nat) (s : State) : Result :=
  if !s.canSwap n ∨ 32 ≤ lane ∨ 36 ≤ line then .next s
  else
    let again := match (s.opAt n).swapR with | some r => r.id == id | none => false
    let g := s.ringAt n true line
    let nak := if g.bad then 3 else if g.lock then 0 else 1
    let r : SwapR := { id := id, lane := lane, old := laneLine (s.opAt n).remapRx lane, new := line, nak := nak }
    .next (if again then (match (s.opAt n).swapR with | some r => s.swapAnswer n r | none => s)
      else (s.onOp n fun o => { o with swapR := some r, asks := o.asks.filter fun a => a.1 != lane }).swapAnswer n r)

/-- SPARE_ALIGNED (R188): the spare line is aligned to the lane: the remap entry switches and SWAP_READY is sent, or alignment fails with cause 2. -/
def execSpareAligned (n : OpId) (ok : Bool) (s : State) : Result :=
  match (s.opAt n).swapR with
  | none => .next s
  | some r =>
    if r.ready ∨ r.nak ≠ 0 then .next s
    else if ok then
      let r' := { r with ready := true }
      .next ((s.onOp n fun o => { o with swapR := some r', remapRx := setAt o.remapRx r.lane r.new,
                                         dark := clrBitOf o.dark r.lane }).swapAnswer n r' |>.t6Check n)
    else
      let r' := { r with nak := 2 }
      .next ((s.onOp n fun o => { o with swapR := some r' }).swapAnswer n r')

/-- The line under calibration is driven with its pattern (R191). -/
def State.calStart (s : State) (n line : Nat) (lane : Option Nat) : State :=
  (s.onOp n fun o => { o with cal := some (line, lane) }).lctlSend n 0x17 [line, 1]

/-- SWAP_READY (R188, R189): the old line is no longer driven and SWAP_DONE is sent; a repeat is answered again. After SWAP_CANCEL both lines stay driven until SWAP_CANCELLED, whatever arrives. -/
def execSwapReady (n : OpId) (id : Nat) (s : State) : Result :=
  match (s.opAt n).swapT with
  | some w =>
    if w.id ≠ id then .next (s.cond ((s.opAt n).swapDone == some id) (·.lctlSend n 0x13 [id]))
    else if w.cancel then .next s
    else
      let t := ((s.onOp n fun o => { o with swapT := none, swapDone := some id, remapTx := setAt o.remapTx w.lane w.new }).lctlSend n 0x13 [id]).bump
        (Reg.LAM_SWAP_DONE n) |>.raiseEvt (64 + n) 2
      let t := t.cond w.cmd (·.mboxEnd 0x32 0 [w.new])
      .next (((t.cond (w.cal && (t.opAt n).cal.isNone) (·.calStart n w.old (some w.lane))).nextSwap n).spareFreed n |>.t6Check n)
  | none => .next (s.cond ((s.opAt n).swapDone == some id) (·.lctlSend n 0x13 [id]))

/-- SWAP_NAK (R189): the spare is no longer driven and the lane stays; the next free spare is tried once. -/
def execSwapNak (n : OpId) (id _cause : Nat) (s : State) : Result :=
  match (s.opAt n).swapT with
  | some w =>
    if w.id ≠ id ∨ w.cancel then .next s
    else
      let t := ((s.onOp n fun o => { o with swapT := none }).bump (Reg.LAM_SWAP_FAILED n)).raiseEvt (64 + n) 3
      if w.again then .next ((t.cond w.cmd (·.mboxEnd 0x32 0x0B [])).nextSwap n)
      else .next ((t.startSwap n { lane := w.lane, lost := w.lost, cal := w.cal, cmd := w.cmd } true (some w.new)).nextSwap n)
  | none => .next s

/-- SWAP_DONE (R188): the receiving end's swap is over. -/
def execSwapDone (n : OpId) (id : Nat) (s : State) : Result :=
  .next (match (s.opAt n).swapR with
    | some r => s.cond (r.id == id) fun t => t.onOp n fun o => { o with swapR := none }
    | none => s)

/-- SWAP_CANCEL (R189): the receiving end returns its remap entry to the old line and answers. -/
def execSwapCancel (n : OpId) (id : Nat) (s : State) : Result :=
  let t := match (s.opAt n).swapR with
    | some r => s.cond (r.id == id) fun t =>
        t.onOp n fun o => { o with swapR := none, remapRx := if r.ready then setAt o.remapRx r.lane r.old else o.remapRx }
    | none => s
  .next (t.cond (s.canSwap n) (·.lctlSend n 0x15 [id]))

/-- SWAP_CANCELLED (R189): the spare is no longer driven; the swap has failed. (DESIGN CHOICE: assumption 30) -/
def execSwapCancelled (n : OpId) (id : Nat) (s : State) : Result :=
  .next (match (s.opAt n).swapT with
    | some w => s.cond (w.id == id && w.cancel) fun t =>
        ((((t.onOp n fun o => { o with swapT := none }).bump (Reg.LAM_SWAP_FAILED n)).cond w.cmd (·.mboxEnd 0x32 0x0B [])).nextSwap n).spareFreed n
    | none => s)

/-- SWAP_ASK (R187): the peer asks for a swap of a lane; a repeat while the swap runs or waits is not acted on again. -/
def execSwapAsk (n : OpId) (lane cause : Nat) (s : State) : Result :=
  let o := s.opAt n
  let known := (match o.swapT with | some w => w.lane == lane | none => false) || o.swapQ.any (·.lane == lane)
  .next (s.cond (s.canSwap n && s.bit (Reg.LAM_CTL_AUTO_SPARE n) && !known && decide (lane < s.laneCount n))
    (·.wantSwap n { lane := lane, lost := cause == 1 }))

/-- CAL_LINE (R191): the receiving end sets its thresholds for the line while its calibration runs. -/
def execCalLine (n : OpId) (line : Nat) (on : Bool) (s : State) : Result :=
  .next (s.cond (!s.brynn n) fun t => t.onOp n fun o => { o with calRx := if on then some line else none })

/-- SWAP_MESSAGE_REPEAT (R187): every message that is not answered yet is sent again: SWAP_REQ or SWAP_CANCEL, the receiving end's SWAP_READY until SWAP_DONE, and SWAP_ASK. -/
def execSwapMessageRepeat (n : OpId) (s : State) : Result :=
  let o := s.opAt n
  let t := match o.swapT with
    | some w => if w.cancel then s.lctlSend n 0x14 [w.id] else s.lctlSend n 0x10 [w.id, w.lane, w.new]
    | none => s
  let t := match o.swapR with
    | some r => t.cond r.ready (·.lctlSend n 0x11 [r.id])
    | none => t
  .next (t.forAll o.asks fun a u => u.lctlSend n 0x16 [a.1, a.2])

/-- SWAP_ANSWER_TIMEOUT (R189): no answer within 2 ms: SWAP_CANCEL is sent and both lines stay driven. -/
def execSwapAnswerTimeout (n : OpId) (s : State) : Result :=
  .next (match (s.opAt n).swapT with
    | some w => (s.onOp n fun o => { o with swapT := some { w with cancel := true } }).lctlSend n 0x14 [w.id]
    | none => s)

/-- The next line rolling calibration takes from `k` on, in the order 0 to 35, skipping BAD and ABSENT lines (R191). -/
def State.calNext (s : State) (n k : Nat) : Option Nat :=
  ((List.range 36).map fun i => (k + i) % 36).find? fun l => !(s.ringAt n false l).bad && !(s.ringAt n false l).absent

/-- LINE_CAL (R191): the interval passes; the next line is calibrated in place where it is a free spare, or its lane moves to a free spare first; with no spare free the rotation waits. -/
def execLineCal (n : OpId) (s : State) : Result :=
  if !s.bit (Reg.LAM_CTL_CAL_EN n) ∨ !s.trained n ∨ s.brynn n ∨ (s.opAt n).cal.isSome ∨ (s.opAt n).swapT.isSome ∨ !(s.opAt n).swapQ.isEmpty ∨ !s.tuneRuns then .next s
  else
    match s.calNext n (s.get (Reg.LAM_CAL_NEXT n)) with
    | none => .next s
    | some k =>
      match lineLane (s.opAt n).remapTx k with
      | none => .next ((s.put (Reg.LAM_CAL_NEXT n) k).calStart n k none)
      | some lane => .next ((s.put (Reg.LAM_CAL_NEXT n) k).wantSwap n { lane := lane, cal := true })

/-- LINE_CAL_END (R191): CAL_LINE OFF is sent and the lane, where one was moved, is swapped back; the next line follows. -/
def execLineCalEnd (n : OpId) (s : State) : Result :=
  match (s.opAt n).cal with
  | none => .next s
  | some (k, lane) =>
    let t := ((s.onOp n fun o => { o with cal := none }).lctlSend n 0x17 [k, 0]).put (Reg.LAM_CAL_NEXT n) ((k + 1) % 36)
    .next (match lane with | some l => t.wantSwap n { lane := l, fixed := some k } | none => t.spareFreed n)

end Sys2Proof.Machine
end

