-- ==== Sys2Proof/Machine/Dispatch.lean ====
section
/-! DEFINITION. The dispatch of commands to their meanings, one arm for each constructor. -/

namespace Sys2Proof.Machine

def exec (i : Instr) (s : State) : Host.Outcome State Fault Refusal :=
  match i with
  | .vauxPowerGood => Sys2Proof.Machine.execVauxPowerGood s
  | .vauxLost vbatHolds => Sys2Proof.Machine.execVauxLost vbatHolds s
  | .vbatZeroise => Sys2Proof.Machine.execVbatZeroise s
  | .railLost r => Sys2Proof.Machine.execRailLost r s
  | .refclkAbsent => Sys2Proof.Machine.execRefclkAbsent s
  | .mgmtPllLost => Sys2Proof.Machine.execMgmtPllLost s
  | .domainPllLoss d => Sys2Proof.Machine.execDomainPllLoss d s
  | .fabPllLoss => Sys2Proof.Machine.execFabPllLoss s
  | .fabPllLock => Sys2Proof.Machine.execFabPllLock s
  | .clkFabWrite p v => Sys2Proof.Machine.execClkFabWrite p v s
  | .pwrEnRise => Sys2Proof.Machine.execPwrEnRise s
  | .pwrEnFall => Sys2Proof.Machine.execPwrEnFall s
  | .wakeNFall => Sys2Proof.Machine.execWakeNFall s
  | .faultInNFall => Sys2Proof.Machine.execFaultInNFall s
  | .resetNFall => Sys2Proof.Machine.execResetNFall s
  | .resetNRise => Sys2Proof.Machine.execResetNRise s
  | .resetCellarHold => Sys2Proof.Machine.execResetCellarHold s
  | .hatchReset => Sys2Proof.Machine.execHatchReset s
  | .pinStorm pin => Sys2Proof.Machine.execPinStorm pin s
  | .stormWindow => Sys2Proof.Machine.execStormWindow s
  | .stormUnmask p v => Sys2Proof.Machine.execStormUnmask p v s
  | .pwrCmdOn p => Sys2Proof.Machine.execPwrCmdOn p s
  | .pwrCmdOff p => Sys2Proof.Machine.execPwrCmdOff p s
  | .pwrCmdOffStay p => Sys2Proof.Machine.execPwrCmdOffStay p s
  | .pwrCmdReset p => Sys2Proof.Machine.execPwrCmdReset p s
  | .targetChange p v => Sys2Proof.Machine.execTargetChange p v s
  | .keepRecClear p v => Sys2Proof.Machine.execKeepRecClear p v s
  | .s1Rails straps => Sys2Proof.Machine.execS1Rails straps s
  | .railMissing good => Sys2Proof.Machine.execRailMissing good s
  | .s3MgmtOn => Sys2Proof.Machine.execS3MgmtOn s
  | .s4Fuse => Sys2Proof.Machine.execS4Fuse s
  | .s5HkBoot => Sys2Proof.Machine.execS5HkBoot s
  | .s6DomainsOn => Sys2Proof.Machine.execS6DomainsOn s
  | .s7Cellar env => Sys2Proof.Machine.execS7Cellar env s
  | .s8Firmware env => Sys2Proof.Machine.execS8Firmware env s
  | .s9Key => Sys2Proof.Machine.execS9Key s
  | .nodeIdWaitEnd => Sys2Proof.Machine.execNodeIdWaitEnd s
  | .s11Comb mods mapUe => Sys2Proof.Machine.execS11Comb mods mapUe s
  | .s12Rings unlocked => Sys2Proof.Machine.execS12Rings unlocked s
  | .s13Train => Sys2Proof.Machine.execS13Train s
  | .s14Gates => Sys2Proof.Machine.execS14Gates s
  | .powerUpStepTimeout refclkMissing => Sys2Proof.Machine.execPowerUpStepTimeout refclkMissing s
  | .abortPoint => Sys2Proof.Machine.execAbortPoint s
  | .undoDone => Sys2Proof.Machine.execUndoDone s
  | .p2LightOff => Sys2Proof.Machine.execP2LightOff s
  | .p3MapSave env => Sys2Proof.Machine.execP3MapSave env s
  | .p4Cellar => Sys2Proof.Machine.execP4Cellar s
  | .p5DomainsOff => Sys2Proof.Machine.execP5DomainsOff s
  | .p6MgmtOff => Sys2Proof.Machine.execP6MgmtOff s
  | .aliveToggle => Sys2Proof.Machine.execAliveToggle s
  | .faultAliveKick src => Sys2Proof.Machine.execFaultAliveKick src s
  | .hkWdog => Sys2Proof.Machine.execHkWdog s
  | .faultNPulseEnd => Sys2Proof.Machine.execFaultNPulseEnd s
  | .registerWrite p a v => Sys2Proof.Machine.execRegisterWrite p a v s
  | .ctlLock p page => Sys2Proof.Machine.execCtlLock p page s
  | .watermarkThresholdWrite p w v => Sys2Proof.Machine.execWatermarkThresholdWrite p w v s
  | .regParity a rd => Sys2Proof.Machine.execRegParity a rd s
  | .sidebandRegisterAccess n outstanding req => Sys2Proof.Machine.execSidebandRegisterAccess n outstanding req s
  | .mspTransaction t => Sys2Proof.Machine.execMspTransaction t s
  | .regacc write addr wdata => Sys2Proof.Machine.execRegacc write addr wdata s
  | .idcode => Sys2Proof.Machine.execIdcode s
  | .bypass opcode => Sys2Proof.Machine.execBypass opcode s
  | .extest drive => Sys2Proof.Machine.execExtest drive s
  | .samplePreload preload => Sys2Proof.Machine.execSamplePreload preload s
  | .cfgloadPush push w => Sys2Proof.Machine.execCfgloadPush push w s
  | .mboxClaim p => Sys2Proof.Machine.execMboxClaim p s
  | .mboxRelease p => Sys2Proof.Machine.execMboxRelease p s
  | .ping p => Sys2Proof.Machine.execPing p s
  | .fwInfo p => Sys2Proof.Machine.execFwInfo p s
  | .fwReload p env => Sys2Proof.Machine.execFwReload p env s
  | .loftWrite p env => Sys2Proof.Machine.execLoftWrite p env s
  | .loftCommit p env => Sys2Proof.Machine.execLoftCommit p env s
  | .persLoad p => Sys2Proof.Machine.execPersLoad p s
  | .ringSearch p => Sys2Proof.Machine.execRingSearch p s
  | .mapSave p env => Sys2Proof.Machine.execMapSave p env s
  | .lineSwap p => Sys2Proof.Machine.execLineSwap p s
  | .combSwitchOntoCombs p up => Sys2Proof.Machine.execCombSwitchOntoCombs p up s
  | .combSwitchBack p up => Sys2Proof.Machine.execCombSwitchBack p up s
  | .calNow p => Sys2Proof.Machine.execCalNow p s
  | .twinCtlEnable p => Sys2Proof.Machine.execTwinCtlEnable p s
  | .twinCtlDisable p => Sys2Proof.Machine.execTwinCtlDisable p s
  | .twinCtlHandOver p => Sys2Proof.Machine.execTwinCtlHandOver p s
  | .dumpNow p env => Sys2Proof.Machine.execDumpNow p env s
  | .atticRead p env => Sys2Proof.Machine.execAtticRead p env s
  | .atticFree p => Sys2Proof.Machine.execAtticFree p s
  | .ftimeSet p => Sys2Proof.Machine.execFtimeSet p s
  | .ckptSave p env => Sys2Proof.Machine.execCkptSave p env s
  | .ckptRestore p env => Sys2Proof.Machine.execCkptRestore p env s
  | .badOpcode p op => Sys2Proof.Machine.execBadOpcode p op s
  | .mboxCommandEnd => Sys2Proof.Machine.execMboxCommandEnd s
  | .mboxTimeout => Sys2Proof.Machine.execMboxTimeout s
  | .mboxAbort p => Sys2Proof.Machine.execMboxAbort p s
  | .streamHdr r => Sys2Proof.Machine.execStreamHdr r s
  | .keyRoll r => Sys2Proof.Machine.execKeyRoll r s
  | .cfgFrame r => Sys2Proof.Machine.execCfgFrame r s
  | .seg r => Sys2Proof.Machine.execSeg r s
  | .release r env => Sys2Proof.Machine.execRelease r env s
  | .endRecord r => Sys2Proof.Machine.execEndRecord r s
  | .startMarker => Sys2Proof.Machine.execStartMarker s
  | .loadTimeout => Sys2Proof.Machine.execLoadTimeout s
  | .chainForwardStart => Sys2Proof.Machine.execChainForwardStart s
  | .clkStall => Sys2Proof.Machine.execClkStall s
  | .prog p => Sys2Proof.Machine.execProg p s
  | .zero p => Sys2Proof.Machine.execZero p s
  | .scrubFrame readback rereadUe goldUe => Sys2Proof.Machine.execScrubFrame readback rereadUe goldUe s
  | .hostPllLoss n => Sys2Proof.Machine.execHostPllLoss n s
  | .hostPllLock n => Sys2Proof.Machine.execHostPllLock n s
  | .trained n partner => Sys2Proof.Machine.execTrained n partner s
  | .trainFail n cause => Sys2Proof.Machine.execTrainFail n cause s
  | .repair n dir lane covered => Sys2Proof.Machine.execRepair n dir lane covered s
  | .crInitAck n payload => Sys2Proof.Machine.execCrInitAck n payload s
  | .x40Cap n => Sys2Proof.Machine.execX40Cap n s
  | .heatHint n payload => Sys2Proof.Machine.execHeatHint n payload s
  | .hintDue n => Sys2Proof.Machine.execHintDue n s
  | .unknownVendorMessage n => Sys2Proof.Machine.execUnknownVendorMessage n s
  | .l1Request n => Sys2Proof.Machine.execL1Request n s
  | .l1Entry n => Sys2Proof.Machine.execL1Entry n s
  | .l1Exit n => Sys2Proof.Machine.execL1Exit n s
  | .l2Request n => Sys2Proof.Machine.execL2Request n s
  | .hpCfgEn p n v => Sys2Proof.Machine.execHpCfgEn p n v s
  | .hpLbMode p n v => Sys2Proof.Machine.execHpLbMode p n v s
  | .hpWideRate p n v => Sys2Proof.Machine.execHpWideRate p n v s
  | .wideDeskew k failing => Sys2Proof.Machine.execWideDeskew k failing s
  | .widePatternEnd k => Sys2Proof.Machine.execWidePatternEnd k s
  | .wideTrainTimeout k => Sys2Proof.Machine.execWideTrainTimeout k s
  | .hostIngressTransfer n xfer beats complete => Sys2Proof.Machine.execHostIngressTransfer n xfer beats complete s
  | .hostCreditReturn n blocks => Sys2Proof.Machine.execHostCreditReturn n blocks s
  | .hostDelivery n => Sys2Proof.Machine.execHostDelivery n s
  | .urgEdge n level => Sys2Proof.Machine.execUrgEdge n level s
  | .urgStuck n => Sys2Proof.Machine.execUrgStuck n s
  | .urgInactive n => Sys2Proof.Machine.execUrgInactive n s
  | .urgStorm n => Sys2Proof.Machine.execUrgStorm n s
  | .urgUnmask p n v => Sys2Proof.Machine.execUrgUnmask p n v s
  | .ecsTransactionEnd m resp => Sys2Proof.Machine.execEcsTransactionEnd m resp s
  | .ecsRetry m => Sys2Proof.Machine.execEcsRetry m s
  | .ecsRequest p v => Sys2Proof.Machine.execEcsRequest p v s
  | .combStatusPoll m => Sys2Proof.Machine.execCombStatusPoll m s
  | .combLossOfLight ix => Sys2Proof.Machine.execCombLossOfLight ix s
  | .combFailedClear p v => Sys2Proof.Machine.execCombFailedClear p v s
  | .lolUnmask p v => Sys2Proof.Machine.execLolUnmask p v s
  | .ringSweepEnd q peaks => Sys2Proof.Machine.execRingSweepEnd q peaks s
  | .ringLocked r code => Sys2Proof.Machine.execRingLocked r code s
  | .ringUnlocked r => Sys2Proof.Machine.execRingUnlocked r s
  | .htrRail r high => Sys2Proof.Machine.execHtrRail r high s
  | .ringLightLow r => Sys2Proof.Machine.execRingLightLow r s
  | .ringLightReturn r => Sys2Proof.Machine.execRingLightReturn r s
  | .ringRelockScan r found => Sys2Proof.Machine.execRingRelockScan r found s
  | .ffGainAdapt n residual => Sys2Proof.Machine.execFfGainAdapt n residual s
  | .swapReq n id lane line => Sys2Proof.Machine.execSwapReq n id lane line s
  | .spareAligned n ok => Sys2Proof.Machine.execSpareAligned n ok s
  | .swapReady n id => Sys2Proof.Machine.execSwapReady n id s
  | .swapNak n id cause => Sys2Proof.Machine.execSwapNak n id cause s
  | .swapDone n id => Sys2Proof.Machine.execSwapDone n id s
  | .swapCancel n id => Sys2Proof.Machine.execSwapCancel n id s
  | .swapCancelled n id => Sys2Proof.Machine.execSwapCancelled n id s
  | .swapAsk n lane cause => Sys2Proof.Machine.execSwapAsk n lane cause s
  | .calLine n line on => Sys2Proof.Machine.execCalLine n line on s
  | .swapMessageRepeat n => Sys2Proof.Machine.execSwapMessageRepeat n s
  | .swapAnswerTimeout n => Sys2Proof.Machine.execSwapAnswerTimeout n s
  | .lineCal n => Sys2Proof.Machine.execLineCal n s
  | .lineCalEnd n => Sys2Proof.Machine.execLineCalEnd n s
  | .rxLossOfSignal n line => Sys2Proof.Machine.execRxLossOfSignal n line s
  | .rxPortLossOfLight n => Sys2Proof.Machine.execRxPortLossOfLight n s
  | .rxLightReturn n => Sys2Proof.Machine.execRxLightReturn n s
  | .lineFlap r => Sys2Proof.Machine.execLineFlap r s
  | .flapWindow => Sys2Proof.Machine.execFlapWindow s
  | .detectorStorm d => Sys2Proof.Machine.execDetectorStorm d s
  | .badClear p n => Sys2Proof.Machine.execBadClear p n s
  | .t1Pll n => Sys2Proof.Machine.execT1Pll n s
  | .t2Signal n lanes => Sys2Proof.Machine.execT2Signal n lanes s
  | .t3Align n markers => Sys2Proof.Machine.execT3Align n markers s
  | .t4Eq n => Sys2Proof.Machine.execT4Eq n s
  | .trainingTimeout n => Sys2Proof.Machine.execTrainingTimeout n s
  | .trainId n id => Sys2Proof.Machine.execTrainId n id s
  | .trainIdRepeat n => Sys2Proof.Machine.execTrainIdRepeat n s
  | .trainAck n epoch credits => Sys2Proof.Machine.execTrainAck n epoch credits s
  | .credit n epoch credits => Sys2Proof.Machine.execCredit n epoch credits s
  | .creditReturn n => Sys2Proof.Machine.execCreditReturn n s
  | .linePllLoss n => Sys2Proof.Machine.execLinePllLoss n s
  | .linkCtlWrite p n v => Sys2Proof.Machine.execLinkCtlWrite p n v s
  | .opLbMode p n v => Sys2Proof.Machine.execOpLbMode p n v s
  | .loopReq n enter => Sys2Proof.Machine.execLoopReq n enter s
  | .loopAck n enter => Sys2Proof.Machine.execLoopAck n enter s
  | .loopReqRepeat n => Sys2Proof.Machine.execLoopReqRepeat n s
  | .idleToNap n => Sys2Proof.Machine.execIdleToNap n s
  | .napToDoze n => Sys2Proof.Machine.execNapToDoze n s
  | .napReq n => Sys2Proof.Machine.execNapReq n s
  | .napAck n => Sys2Proof.Machine.execNapAck n s
  | .napNak n => Sys2Proof.Machine.execNapNak n s
  | .dozeReq n => Sys2Proof.Machine.execDozeReq n s
  | .dozeAck n => Sys2Proof.Machine.execDozeAck n s
  | .dozeNak n => Sys2Proof.Machine.execDozeNak n s
  | .lpsAnswerTimeout n => Sys2Proof.Machine.execLpsAnswerTimeout n s
  | .portWake n => Sys2Proof.Machine.execPortWake n s
  | .portWakeDone n => Sys2Proof.Machine.execPortWakeDone n s
  | .timeExchange => Sys2Proof.Machine.execTimeExchange s
  | .timeReq n dist t1 => Sys2Proof.Machine.execTimeReq n dist t1 s
  | .timeRsp n dist t1 t2 t3 => Sys2Proof.Machine.execTimeRsp n dist t1 t2 t3 s
  | .timeNowRead p => Sys2Proof.Machine.execTimeNowRead p s
  | .down n node reason => Sys2Proof.Machine.execDown n node reason s
  | .linkLossTimer n => Sys2Proof.Machine.execLinkLossTimer n s
  | .codewordUncorrectable n word frames => Sys2Proof.Machine.execCodewordUncorrectable n word frames s
  | .laneErrorLimit n lane symbols => Sys2Proof.Machine.execLaneErrorLimit n lane symbols s
  | .errorWindow n => Sys2Proof.Machine.execErrorWindow n s
  | .relayForward n f => Sys2Proof.Machine.execRelayForward n f s
  | .streamOpen n req => Sys2Proof.Machine.execStreamOpen n req s
  | .streamClose n sid => Sys2Proof.Machine.execStreamClose n sid s
  | .streamSend n sid payload => Sys2Proof.Machine.execStreamSend n sid payload s
  | .forcedClose p => Sys2Proof.Machine.execForcedClose p s
  | .data n f => Sys2Proof.Machine.execData n f s
  | .ackWindow => Sys2Proof.Machine.execAckWindow s
  | .ack n f => Sys2Proof.Machine.execAck n f s
  | .replayTimer k => Sys2Proof.Machine.execReplayTimer k s
  | .replayLim sid => Sys2Proof.Machine.execReplayLim sid s
  | .remoteTransaction n t => Sys2Proof.Machine.execRemoteTransaction n t s
  | .txnReq n f => Sys2Proof.Machine.execTxnReq n f s
  | .channelReset n f => Sys2Proof.Machine.execChannelReset n f s
  | .txnCpl n f => Sys2Proof.Machine.execTxnCpl n f s
  | .routeNodeWrite p v => Sys2Proof.Machine.execRouteNodeWrite p v s
  | .routeBankSwap p => Sys2Proof.Machine.execRouteBankSwap p s
  | .routeDataWrite p v => Sys2Proof.Machine.execRouteDataWrite p v s
  | .pantryUe n slot => Sys2Proof.Machine.execPantryUe n slot s
  | .linkCreditUe n => Sys2Proof.Machine.execLinkCreditUe n s
  | .tagTableUe tag => Sys2Proof.Machine.execTagTableUe tag s
  | .larderUe sid => Sys2Proof.Machine.execLarderUe sid s
  | .grant pt => Sys2Proof.Machine.execGrant pt s
  | .targetMiss pt master tc => Sys2Proof.Machine.execTargetMiss pt master tc s
  | .tokenStateUe pt => Sys2Proof.Machine.execTokenStateUe pt s
  | .qosTokRead p => Sys2Proof.Machine.execQosTokRead p s
  | .pausePeriod part => Sys2Proof.Machine.execPausePeriod part s
  | .dutyRamp ix => Sys2Proof.Machine.execDutyRamp ix s
  | .teSubmission n q desc inline => Sys2Proof.Machine.execTeSubmission n q desc inline s
  | .mvm q => Sys2Proof.Machine.execMvm q s
  | .reduce q => Sys2Proof.Machine.execReduce q s
  | .loadw q => Sys2Proof.Machine.execLoadw q s
  | .freew q => Sys2Proof.Machine.execFreew q s
  | .nop q => Sys2Proof.Machine.execNop q s
  | .descriptorComplete q => Sys2Proof.Machine.execDescriptorComplete q s
  | .queueBind p b v => Sys2Proof.Machine.execQueueBind p b v s
  | .resume p => Sys2Proof.Machine.execResume p s
  | .flush p => Sys2Proof.Machine.execFlush p s
  | .tegFailReturn p v => Sys2Proof.Machine.execTegFailReturn p v s
  | .calEnWrite p v => Sys2Proof.Machine.execCalEnWrite p v s
  | .calBoundary => Sys2Proof.Machine.execCalBoundary s
  | .tileDrainEnd => Sys2Proof.Machine.execTileDrainEnd s
  | .setCopyEnd => Sys2Proof.Machine.execSetCopyEnd s
  | .tileMeasurementEnd ok ue => Sys2Proof.Machine.execTileMeasurementEnd ok ue s
  | .startMeasurementEnd failed ue => Sys2Proof.Machine.execStartMeasurementEnd failed ue s
  | .tileFail t why => Sys2Proof.Machine.execTileFail t why s
  | .queueUe q slot => Sys2Proof.Machine.execQueueUe q slot s
  | .precWait q => Sys2Proof.Machine.execPrecWait q s
  | .cellarRead part off len tag env => Sys2Proof.Machine.execCellarRead part off len tag env s
  | .cellarWrite part off tag bytes env => Sys2Proof.Machine.execCellarWrite part off tag bytes env s
  | .refreshVisit worst env => Sys2Proof.Machine.execRefreshVisit worst env s
  | .refrBehind => Sys2Proof.Machine.execRefrBehind s
  | .wearCheck => Sys2Proof.Machine.execWearCheck s
  | .levellingMoveEnd env => Sys2Proof.Machine.execLevellingMoveEnd env s
  | .sensorConversion ix reading => Sys2Proof.Machine.execSensorConversion ix reading s
  | .heatThrWrite p v => Sys2Proof.Machine.execHeatThrWrite p v s
  | .keeperDiodeTrip => Sys2Proof.Machine.execKeeperDiodeTrip s
  | .thermalLatchClear => Sys2Proof.Machine.execThermalLatchClear s
  | .twinLinkTrained => Sys2Proof.Machine.execTwinLinkTrained s
  | .hello h => Sys2Proof.Machine.execHello h s
  | .pairingTimeout => Sys2Proof.Machine.execPairingTimeout s
  | .twinLinkLost lane => Sys2Proof.Machine.execTwinLinkLost lane s
  | .twinBatchClose => Sys2Proof.Machine.execTwinBatchClose s
  | .ctx r => Sys2Proof.Machine.execCtx r s
  | .route r => Sys2Proof.Machine.execRoute r s
  | .chan node => Sys2Proof.Machine.execChan node s
  | .seal epoch count crc => Sys2Proof.Machine.execSeal epoch count crc s
  | .confirm epoch => Sys2Proof.Machine.execConfirm epoch s
  | .nak epoch => Sys2Proof.Machine.execNak epoch s
  | .heartbeat kind => Sys2Proof.Machine.execHeartbeat kind s
  | .heartbeatSend => Sys2Proof.Machine.execHeartbeatSend s
  | .batchResend => Sys2Proof.Machine.execBatchResend s
  | .sweepPass => Sys2Proof.Machine.execSweepPass s
  | .twinDown reason => Sys2Proof.Machine.execTwinDown reason s
  | .twinSilence => Sys2Proof.Machine.execTwinSilence s
  | .handover epoch => Sys2Proof.Machine.execHandover epoch s
  | .role n node phase count => Sys2Proof.Machine.execRole n node phase count s
  | .roleAnswer n => Sys2Proof.Machine.execRoleAnswer n s
  | .roleAck n node count => Sys2Proof.Machine.execRoleAck n node count s
  | .roleNak n node count => Sys2Proof.Machine.execRoleNak n node count s
  | .roleClaimRepeat => Sys2Proof.Machine.execRoleClaimRepeat s
  | .roleClaimWindow => Sys2Proof.Machine.execRoleClaimWindow s
  | .resumeRecvAnswer sid gen seq => Sys2Proof.Machine.execResumeRecvAnswer sid gen seq s
  | .errSumWrite p hi v => Sys2Proof.Machine.execErrSumWrite p hi v s
  | .faultTrapWrite p hi v => Sys2Proof.Machine.execFaultTrapWrite p hi v s
  | .parityClear p => Sys2Proof.Machine.execParityClear p s
  | .collectorParity => Sys2Proof.Machine.execCollectorParity s
  | .fatalDump env => Sys2Proof.Machine.execFatalDump env s
  | .fatalDumpEnd r => Sys2Proof.Machine.execFatalDumpEnd r s
  | .hkDead => Sys2Proof.Machine.execHkDead s
  | .wakeNRise => Sys2Proof.Machine.execWakeNRise s
  | .faultInNRise => Sys2Proof.Machine.execFaultInNRise s
  | .combLightReturn ix => Sys2Proof.Machine.execCombLightReturn ix s
  | .sidebandTrained n => Sys2Proof.Machine.execSidebandTrained n s
  | .retrain n => Sys2Proof.Machine.execRetrain n s
  | .fwFatal => Sys2Proof.Machine.execFwFatal s
  | .htrFault r => Sys2Proof.Machine.execHtrFault r s
  | .weightSlotUe t slot => Sys2Proof.Machine.execWeightSlotUe t slot s
  | .reorderStoreUe block => Sys2Proof.Machine.execReorderStoreUe block s
  | .targetCompletion n c => Sys2Proof.Machine.execTargetCompletion n c s

end Sys2Proof.Machine
end

