-- ==== Sys2Proof/Machine/Tick.lean ====
section
/-! DEFINITION. The idle tick: one nanosecond of the model's clock, with FTIME and the counters of microseconds spent at a bound. -/

namespace Sys2Proof.Machine

/-- A stream or an outgoing channel at its window (R226, R239, R243). -/
def State.anyAtWindow (s : State) : Bool :=
  (s.strm.larder.any fun e => e.2.state == 1 && !e.2.recv && decide (s.get Reg.STRM_CFG_WIN ≤ e.2.live.length)) ||
    s.strm.chans.any fun e => e.1 % 2 == 0 && decide (s.get Reg.STRM_CFG_WIN ≤ e.2.unack.length)

/-- The counters of time spent at a bound, one microsecond on (R238, R243, R290). (DESIGN CHOICE: assumption 2) -/
def State.microTick (s : State) : State :=
  if !s.coreClocked then s
  else
    let t := s.cond s.anyAtWindow (·.bump Reg.STRM_HOLD_WIN_COUNT)
    let t := t.cond (decide (1048576 ≤ s.strm.tags.length)) (·.bump Reg.STRM_HOLD_TAG_COUNT)
    let t := t.cond (s.strm.larder.any fun e => e.2.state == 2) (·.bump Reg.STRM_HOLD_WRAP_COUNT)
    let t := t.forAll (s.op.map (·.1)) fun n u => u.cond (decide (4096 ≤ (u.opAt n).pantry.length)) (·.bump (Reg.OP_PANTRY_HOLD_US n))
    let t := t.cond (s.te.queues.any fun e => decide (4096 ≤ e.2.slots.length)) (·.bump Reg.TEG_HOLD_Q_COUNT)
    let t := t.cond (s.te.queues.any fun e => s.headWaits e.1 false) (·.bump Reg.TEG_HOLD_WIN_COUNT)
    t.cond (s.te.queues.any fun e => s.headWaits e.1 true) (·.bump Reg.TEG_HOLD_PREC_COUNT)

/-- An idle tick of one nanosecond: FTIME and the time that requests are held where CORE is clocked, the counters each microsecond, and the model's clock. (DESIGN CHOICE: assumption 2) -/
def idleTick (s : State) : State :=
  let t := (s.ftimeTick.cond s.coreClocked State.holdAll).cond (s.now % 1000 == 999) (·.microTick)
  { t with now := t.now + 1 }

end Sys2Proof.Machine
end

