-- ==== Sys2Proof/Safety.lean ====
section
/-! DEFINITION. The terms in which claims are made: which registers and which parts of the state a command leaves alone, what an isolation leaves, an access that goes through, and the canonical form of the tables, which every safe run keeps. -/

namespace Sys2Proof.Machine

/-- Every register field but those listed reads in `t` as it reads in `s`. -/
def SameRegs (s t : State) (fs : List Fld) : Prop := ∀ f : Fld, f.key ∉ fs.map Fld.key → t.get f = s.get f

/-- Nothing but the listed register fields differs. -/
def OnlyRegs (s t : State) (fs : List Fld) : Prop := t = { s with regs := t.regs } ∧ SameRegs s t fs

/-- The record of what is sent holds, beyond what it held, at most the IRQ messages of the listed pages (R96). -/
def OnlyIrqs (s t : State) (ps : List Nat) : Prop := ∃ l, t.sent = l ++ s.sent ∧ ∀ o ∈ l, ∃ p ∈ ps, o = .sbMsg 0 0x20 p

/-- A register key that the fault collector, the entry to the Trapdoor or the exit from it may write: page FAULT, PWR_STAT, the mailbox, TWIN_STAT, what CFG tells of a load that is aborted, and OP_STAT and LAM_STAT of the ports. -/
def trapKey (key : Nat) : Bool :=
  let page := key / 32 / 4096 % 256
  let off := key / 32 % 4096
  page == 3 || page == 14 || (page == 2 && off == 0x4C) || (page == 7 && off == 0x44) ||
    (page == 5 && (off == 0x18 || (decide (0x50 ≤ off) && decide (off ≤ 0x58)))) ||
    (decide (48 ≤ page) && decide (page < 80) && off == 0x44)

/-- Between `s` and `t` there are, beyond the listed register fields and ERR of page `p`, no other changes than the fault collector's and those of an entry to the Trapdoor or an exit from it. -/
def Collected (s t : State) (p : Nat) (fs : List Fld) : Prop :=
  (∀ f : Fld, f.key ∉ fs.map Fld.key → f.key ≠ (Reg.ERR p).key → trapKey f.key = false → t.get f = s.get f) ∧
  t = { s with
    regs := t.regs, keep := t.keep, gates := t.gates, op := t.op, twin := t.twin, fresh := t.fresh, sent := t.sent
    mgmt := { s.mgmt with
      mbox := t.mgmt.mbox, mboxRes := t.mgmt.mboxRes, sweep := t.mgmt.sweep, searchPorts := t.mgmt.searchPorts
      load := t.mgmt.load, cfgHeld := t.mgmt.cfgHeld, hatchFifo := t.mgmt.hatchFifo }
    nv := { s.nv with intents := t.nv.intents }
    te := { s.te with calNow := t.te.calNow, calCmd := t.te.calCmd, queues := t.te.queues, tiles := t.te.tiles } }

/-- Every domain except KEEP is isolated: Isax is in KEEP, and no state of another domain is left (R53, R72, R87, R353). -/
def Isolated (t : State) : Prop :=
  t.power = 0 ∧ t.keep.mgmtOn = false ∧ t.keep.domainsOn = false ∧ t.gates = false ∧ t.mgmt = {} ∧ t.hp = [] ∧ t.op = [] ∧ t.rings = [] ∧
    t.strm = {} ∧ t.routes = [] ∧ t.qos = [] ∧ t.te = {} ∧ t.twin = {}

/-- A write of a register by a path that goes through: the path serves, the address answers, and the write meets no lock, no owner's right and no refusal (R92 to R94, R99 to R106, R404). -/
def State.writable (s : State) (p : Path) (addr v : Nat) : Bool :=
  s.serves p && (s.accFault addr).isNone && !(ownerOnly (addr / 4096) (addr % 4096) && s.get Reg.MBOX_OWN_OWNER != pathCode p) &&
    !s.refuses (addr / 4096) (addr % 4096) v && !s.partRefused (addr / 4096) (addr % 4096) v &&
    !(s.locked (addr / 4096) && s.hasLocked (addr / 4096) (addr % 4096))

/-- A read of a register by a path that goes through (R92, R99). -/
def State.readable (s : State) (p : Path) (addr : Nat) : Bool :=
  s.serves p && (s.accFault addr).isNone && !s.mgmt.parityBad.contains addr

/-- The last thing the block has answered is an access by path `p` that went through, with this data. -/
def Answered (t : State) (p : Path) (data : Nat) : Prop := t.sent.head? = some (.access p 0 data)

/-- The keeper takes an on request from KEEP: no sequence runs, no reset is held, nothing blocks on requests, and there is a target (R76, R77, R79). -/
def State.canRise (s : State) : Bool := s.takesOn && !s.bit Reg.PWR_STAT_BUSY && s.power == 0 && decide (1 ≤ s.get Reg.PWR_TGT_STATE)

/-- The climb from KEEP has begun with S1, started by source `src` (R76, R80). -/
def Climbing (t : State) (src : Nat) : Prop :=
  t.get Reg.PWR_STAT_BUSY = 1 ∧ t.get Reg.PWR_STAT_DIR = 0 ∧ t.get Reg.PWR_STAT_STEP = 1 ∧ t.get Reg.KEEP_WAKE_SRC = src

/-- An orderly power-down has begun: P1 is done and P2 is next (R85). -/
def GoingDown (t : State) : Prop :=
  t.gates = false ∧ t.get Reg.PWR_STAT_BUSY = 1 ∧ t.get Reg.PWR_STAT_DIR = 1 ∧ t.get Reg.PWR_STAT_STEP = 18

/-- An undo of completed steps down to power state `target` runs (R77, R80, R82). -/
def Undoing (t : State) (target : Nat) : Prop :=
  (∃ u, t.keep.undo = some u ∧ u.target = target) ∧ t.get Reg.PWR_STAT_BUSY = 1 ∧ t.get Reg.PWR_STAT_DIR = 1

/-- The climb goes on: neither an off request, nor the Trapdoor, nor the target stops it above power state `p` (R77, R82, R368). (DEDUCED: assumption 37) -/
def State.climbsPast (s : State) (p : Nat) : Bool :=
  !s.bit Reg.PWR_STAT_OFF_PEND && !s.keep.trapStop && decide (p < s.climbTarget)

/-- The first page of a firmware slot's object that S8 would read uncorrectable (R302). -/
def State.fwUe (s : State) (slot : Nat) (env : CellEnv) : Option Nat :=
  let e := tget ({} : LoftEntry) s.nv.loft slot
  CellEnv.firstUe env (pagesOf (loftAddr slot) e.len)

/-- A link reset of a UCIe module has run (R143, R156): every partial ingress transfer is discarded and counted, complete ones and deliveries are kept, and the credits of both directions are void. -/
def HpReset (s t : State) (n : Nat) : Prop :=
  t.get (Reg.HP_CR_ING_GRANTED n) = 0 ∧ (t.hpAt n).parts = [] ∧ (t.hpAt n).whole = (s.hpAt n).whole ∧ (t.hpAt n).crSent = false ∧ (t.hpAt n).egr = 0 ∧
    (t.hpAt n).deliveries = (s.hpAt n).deliveries ∧ t.get (Reg.HP_CR_ING_OCC n) = (s.get (Reg.HP_CR_ING_OCC n) - (s.hpAt n).partBlocks) % 2 ^ 16 ∧
    t.get (Reg.HP_CR_AUDIT_DISC n) = min 15 (s.hpAt n).partCount ∧ t.get (Reg.HP_CR_AUDIT2_RESETS n) = min (s.get (Reg.HP_CR_AUDIT2_RESETS n) + 1) 65535

/-- The mark a watermark's thresholds belong to, and the level it judges (R97). -/
def State.markOf (s : State) : Watermark → Wm × Nat
  | .cellSpare => (spareWm, s.spareUsed)
  | .cellWear => (wearWm, s.nv.wearMax / 1000)
  | .strmTag => (tagWm, s.strm.tags.length / 16)
  | .tegQ => (queueWm (s.get Reg.TEG_Q_SEL_Q), (s.teqAt (s.get Reg.TEG_Q_SEL_Q)).slots.length)
  | .hostCredit n => (creditWm n, s.get (Reg.HP_CR_ING_OCC n))
  | .pantry n => (pantryWm n, (s.opAt n).pantry.length)

/-- A frame that arrives at port n and is kept (R39, R199, R208): the port is trained, its receive buffer has room, its CRC is neither the inverse nor wrong, nor from a fenced node, and the gates are open. -/
def State.intake (s : State) (n : Nat) (f : Frame) : Bool :=
  s.trained n && decide ((s.opAt n).rxOcc.getD (poolOf f.tc f.rl) 0 + (s.opAt n).rxFreed.getD (poolOf f.tc f.rl) 0 + frameBlocks f ≤ 512) &&
    !crcStomped (s.brynn n) f && crcGood (s.brynn n) f && !(f.ftype == 3 || f.ftype == 6 || f.ftype == 7) && !s.fenced f.src && s.gates && !s.frozen

/-- The state in which a kept frame for this node meets its context or channel: its blocks are freed, and the acknowledgement that rides in it is taken (R201, R208). -/
def State.taken (s : State) (n : Nat) (f : Frame) : State := (s.arrive n f).2.local n f

/-- Between `s` and `t` the block has sent `o`. -/
def State.sends (s t : State) (o : Out) : Prop := ∃ l, t.sent = l ++ s.sent ∧ o ∈ l

/-- The register fields that tell of a module's ingress buffer, and EVT of its page, where a mark of the buffer shows (R97, R155). -/
def bufFlds (n : Nat) : List Fld :=
  [Reg.HP_CR_ING_OCC n, Reg.HP_CR_ING_GRANTED n, Reg.HP_CR_WM_LVL n, Reg.HP_CR_WM_UP n, Reg.HP_CR_WM_DN n, Reg.HP_CR_WM_CROSS n, Reg.EVT (16 + n)]

/-- Context `sid` is the only one that differs. -/
def OnlyCtx (s t : State) (sid : Nat) : Prop := ∀ k, k ≠ sid → t.ctxAt k = s.ctxAt k

/-- The frame in slot `slot` of port `home` waits at port `port`'s transmitter. -/
def State.asks (t : State) (port home slot : Nat) (rpl : Bool) : Prop := ∃ q ∈ (t.point (1 + port)).waiting, q.item = .slot home slot rpl

/-- The ring of a line. -/
def State.ringOf (s : State) (r : RingId) : Ring := s.ringAt r.port r.rx r.idx

/-- No other line's ring differs. -/
def OnlyRing (s t : State) (r : RingId) : Prop := ∀ q : RingId, q ≠ r → t.ringOf q = s.ringOf q

/-- A lane of a transmit bank can start to move to the spare line `k` at once (R187, R188): the port answers swaps, no swap of it runs, automatic swaps are on, and `k` is the lowest free spare. -/
def State.canMove (s : State) (n lane k : Nat) : Prop :=
  s.canSwap n = true ∧ s.get (Reg.LAM_CTL_AUTO_SPARE n) = 1 ∧ (s.opAt n).swapT = none ∧ lane < 32 ∧ (s.freeSpares n).head? = some k

/-- A link-control message of port `n` as it leaves in state `s` (R207). -/
def State.lctlFrame (s : State) (n code : Nat) (fields : List Nat) : Out := .lctl n code fields (s.lctlDst n) (s.get Reg.ROUTE_NODE_NODE)

/-- Between `s` and `t` port `n` has sent a link-control message, or it waits there for its turn (R250) or for the port to wake (R215). -/
def Says (s t : State) (n code : Nat) (fields : List Nat) : Prop := s.lctlFrame n code fields ∈ t.sent ∨ (code, fields) ∈ (t.opAt n).lctlQ

/-- A link-control message of port `n` leaves at once: the port does not sleep, and, where it is ACTIVE, none waits before it and frames that take no token have their turn (R215, R250). -/
def State.lctlNow (s : State) (n : Nat) : Bool :=
  !(s.get (Reg.OP_STAT_PSTATE n) == 3 || s.get (Reg.OP_STAT_PSTATE n) == 4) &&
    (s.get (Reg.OP_STAT_PSTATE n) != 2 || ((s.opAt n).lctlQ.isEmpty && s.freeTurn n))

/-- A swap of a lane onto a line has begun (R188): SWAP_REQ is sent under the next ID, or waits for its turn, and the remap table still holds the old line. -/
def SwapBegun (s t : State) (n lane k : Nat) : Prop :=
  (∃ w, (t.opAt n).swapT = some w ∧ w.id = ((s.opAt n).swapId + 1) % 16 ∧ w.lane = lane ∧ w.new = k ∧ w.old = laneLine (s.opAt n).remapTx lane) ∧
    Says s t n 0x10 [((s.opAt n).swapId + 1) % 16, lane, k] ∧ (t.opAt n).remapTx = (s.opAt n).remapTx

/-- A link reset of an optical port has run (R212, R245): the credits of both directions are void and reported, what the receive buffer held is gone and reported, and the Pantry is untouched. -/
def LinkReset (s t : State) (n : Nat) : Prop :=
  (t.opAt n).txCr = List.replicate 16 0 ∧ (t.opAt n).rxOcc = List.replicate 16 0 ∧ (t.opAt n).rxFreed = List.replicate 16 0 ∧ (t.opAt n).pantry = (s.opAt n).pantry ∧
    (∀ p, p < 16 → t.get (Reg.OP_CRA_TX_VOID n p) = (s.opAt n).txCr.getD p 0 % 65536 ∧ t.get (Reg.OP_CRA_RX_DISC_BLK n p) = (s.opAt n).rxOcc.getD p 0 % 65536) ∧
    bitOf (t.get (Reg.EVT (48 + n))) 2 = true ∧ t.get (Reg.OP_PEER_VALID n) = 0

/-- A frame without a slot has left port `port` or waits for credit there (R237, R250). -/
def State.leaves (t : State) (port : Nat) (f : Frame) : Prop := .frame port f ∈ t.sent ∨ f ∈ (t.opAt port).ackQ

/-- The tokens of an arbitration point add up (R261): what its buckets, its pool, its reserve and its waiting requests hold, with what has gone through the point and waits for the next deal, is 1024 in all. -/
def QosPoint.balanced (p : QosPoint) : Prop := p.buckets.sum + p.pool + p.rsv + p.drawn + p.spent = 1024

/-- The points are listed in canonical form, and every one balances. -/
def State.tokensBalance (s : State) : Prop := Table.wf {} s.qos = true ∧ ∀ pt, (s.point pt).balanced

/-- The write of MBOX_CMD with GO and this opcode by a path goes through, and meets the housekeeper and no running command (R105 to R107). -/
def State.issuable (s : State) (p : Path) (op : Nat) : Bool :=
  s.writable p 0xE044 (2 ^ 31 + op) && s.mgmt.hkRun && s.get Reg.MBOX_ST_BUSY == 0

/-- The Cellar does what it is asked: every page reads, every program verifies, and the window stays as it is. -/
def cellQuiet (env : CellEnv) : Bool :=
  env.ue.isEmpty && env.retire.isEmpty && env.verify.isEmpty && env.winCloses.isNone && !env.bootFails && env.corrected == 0

/-- The mailbox takes the command up: it meets none of the checks made before a command acts, and the Cellar it needs is clocked (R71, R105, R108, R402). -/
def State.takesUp (s : State) (p : Path) (op : Nat) : Bool := s.issuable p op && s.mboxCheck op == 0 && !s.cellStuck op

/-- The mailbox runs a command that will end with this code and these results; `wait` where an event of its own ends it. -/
def Runs (t : State) (op code : Nat) (res : List Nat) (wait : Bool) : Prop :=
  t.get Reg.MBOX_ST_BUSY = 1 ∧ ∃ r, t.mgmt.mbox = some r ∧ r.op = op ∧ r.code = code ∧ r.res = res ∧ r.wait = wait

/-- The mailbox has ended its command with a code and results (R107). -/
def Ended (s t : State) (code : Nat) (res : List Nat) : Prop :=
  t.mgmt.mbox = none ∧ t.get Reg.MBOX_ST_BUSY = 0 ∧ t.get Reg.MBOX_ST_DONE = 1 ∧ t.get Reg.MBOX_ST_CODE = code ∧ t.get Reg.MBOX_CMD_GO = 0 ∧
    bitOf (t.get (Reg.EVT 14)) 0 = true ∧ (∀ k, k < res.length → t.mgmt.mboxRes[k]? = some (BitVec.ofNat 32 (res.getD k 0))) ∧
    ∀ r, s.mgmt.mbox = some r → t.get Reg.MBOX_TIME_US = min ((s.now - r.start) / 1000) (2 ^ 32 - 1)

/-- The commands of the mailbox whose rows name no argument, with their opcodes (Table MBOX-1). -/
def mboxCommands (p : Path) (env : CellEnv) : List (Instr × Nat) :=
  [(.ping p, 0x01), (.fwInfo p, 0x02), (.fwReload p env, 0x03), (.loftWrite p env, 0x10), (.loftCommit p env, 0x11), (.persLoad p, 0x20),
    (.ringSearch p, 0x30), (.mapSave p env, 0x31), (.lineSwap p, 0x32), (.calNow p, 0x40), (.dumpNow p env, 0x60), (.atticRead p env, 0x61),
    (.atticFree p, 0x62), (.ftimeSet p, 0x70), (.ckptSave p env, 0x71), (.ckptRestore p env, 0x72)]

/-- Between `s` and `t` the mailbox alone has changed: its run and these fields, the registers' parity, and the record of what is sent. -/
def OnlyMbox (s t : State) (fs : List Fld) : Prop :=
  OnlyRegs { s with mgmt := t.mgmt, sent := t.sent } t ([Reg.MBOX_CMD_OPCODE, Reg.MBOX_CMD_GO, Reg.MBOX_ST_BUSY] ++ fs) ∧
    t.mgmt = { s.mgmt with mbox := t.mgmt.mbox, parityBad := t.mgmt.parityBad }

/-- Every large table of the state is in its canonical form: keys rise, and no entry holds what an absent key reads as. -/
def State.canon (s : State) : Bool :=
  Table.sorted s.regs && Table.wf {} s.hp && Table.wf {} s.op && Table.wf {} s.rings && Table.wf 0 s.routes && Table.wf {} s.qos &&
    Table.wf 0 s.nv.mem && Table.wf {} s.strm.larder && Table.wf none s.strm.tags

end Sys2Proof.Machine
end

