-- ==== Sys2Proof/Certificates/Slice0/Obligations.lean ====
section
/-! DEFINITION. The statements about the model: each one names the rules and tables it formalises; `exec c s` is the effect of command `c` at state `s`. -/

open Sys2Proof Sys2Proof.Machine

/-- R51, R54, R387 and Table KEEP-1: VAUX passing its power-good level enters KEEP with every domain cleared and what survives without power kept; losing it keeps the Cellar, and the battery key only where VBAT holds it; the zeroisation detector acts only while VBAT supplies the key memory. R53, R72: a rail, REFCLK or the MGMT PLL lost while MGMT is powered isolates every domain except KEEP, latches its record, holds or pulses FAULT_N low, writes no dump, and leaves a page being programmed as it is. A rail lost in KEEP with no sequence running records nothing. R71, R73, Table CLK-2: a domain PLL that loses lock drops its lock bit, sets its sticky loss event and its error; the FAB PLL's loss, and a write of CLK_FAB, hold the fabric until the PLL locks again; N is clamped to 4 to 40. Where it rests on the model's own choices these are assumptions 1, 38 and 53. Completion is stated for: vauxPowerGood, vauxLost, vbatZeroise, railLost, refclkAbsent, mgmtPllLost, domainPllLoss, fabPllLoss, fabPllLock, clkFabWrite. -/
def Obligations.SuppliesAndClocksLostAndFound : Prop := ∀ s : State,
  (s.keep.vauxGood = false → ∃ t, exec .vauxPowerGood s = .next t ∧ t.keep.vauxGood = true ∧ Isolated t ∧ t.regs = [] ∧
    t.nv = s.nv ∧ t.keep.shelf = [] ∧ t.pending = s.pending) ∧
  (∀ holds, s.keep.vauxGood = true → ∃ t, exec (.vauxLost holds) s = .next t ∧ t.keep.vauxGood = false ∧ Isolated t ∧ t.regs = [] ∧
    t.nv = { s.nv with batteryKey := if holds then s.nv.batteryKey else none } ∧ t.pending = s.pending) ∧
  (s.keep.vauxGood = false → ∃ t, exec .vbatZeroise s = .next t ∧ t.nv.batteryKey = none ∧
    t = { s with nv := { s.nv with batteryKey := none }, keep := { s.keep with vbatHolds := false } }) ∧
  (s.keep.vauxGood = true → exec .vbatZeroise s = .next s) ∧
  (∀ r, s.keep.vauxGood = true → s.keep.railWatch = true → ∃ t, exec (.railLost r) s = .next t ∧ Isolated t ∧
    t.get Reg.KEEP_REC_RAIL_LOST = 1 ∧ t.get Reg.KEEP_REC_RAIL_ID = railCode r ∧ t.faultNLow = true ∧ t.keep.dump = .idle ∧ t.nv = s.nv) ∧
  (∀ r, s.keep.vauxGood = true → s.keep.railWatch = false →
    ∃ t, exec (.railLost r) s = .next t ∧ t = { s with keep := { s.keep with railsGood := t.keep.railsGood } }) ∧
  (s.keep.mgmtOn = true → ∃ t, exec .refclkAbsent s = .next t ∧ Isolated t ∧ t.get Reg.KEEP_REC_REFCLK_LOST = 1 ∧
    t.keep.pulse = true ∧ t.keep.dump = .idle ∧ t.nv = s.nv) ∧
  (s.keep.mgmtOn = true → ∃ t, exec .mgmtPllLost s = .next t ∧ Isolated t ∧ t.get Reg.KEEP_REC_MGMT_PLL_LOST = 1 ∧
    t.keep.pulse = true ∧ t.keep.dump = .idle ∧ t.nv = s.nv) ∧
  (s.keep.mgmtOn = false → s.atStep 3 = false → exec .refclkAbsent s = .next s ∧ exec .mgmtPllLost s = .next s) ∧
  (s.keep.mgmtOn = false → s.atStep 3 = true → s.get Reg.PWR_STAT_OFF_PEND = 0 → ∀ c cause, (c, cause) ∈ [(Instr.refclkAbsent, 1), (.mgmtPllLost, 2)] →
    ∃ t, exec c s = .next t ∧ t.get Reg.PWR_REC_STEP_FAIL = 1 ∧ t.get Reg.PWR_REC_FAIL_STEP = 3 ∧ t.get Reg.PWR_REC_CAUSE = cause ∧ Undoing t 0 ∧
      t.get Reg.KEEP_REC_REFCLK_LOST = s.get Reg.KEEP_REC_REFCLK_LOST ∧ t.get Reg.KEEP_REC_MGMT_PLL_LOST = s.get Reg.KEEP_REC_MGMT_PLL_LOST) ∧
  (∀ d, bitOf (s.get Reg.CLK_STAT_LOCK) (pllBits d).1 = true → ∃ t, exec (.domainPllLoss d) s = .next t ∧
    bitOf (t.get Reg.CLK_STAT_LOCK) (pllBits d).1 = false ∧ bitOf (t.get Reg.CLK_LOSS_LOSS) (pllBits d).1 = true ∧
    bitOf (t.get (Reg.ERR 1)) (pllBits d).2 = true ∧ Collected s t 1 [Reg.CLK_STAT_LOCK, Reg.CLK_LOSS_LOSS]) ∧
  (s.keep.domainsOn = true → bitOf (s.get Reg.CLK_STAT_LOCK) 4 = true → ∃ t, exec .fabPllLoss s = .next t ∧
    bitOf (t.get Reg.CLK_LOSS_LOSS) 4 = true ∧ bitOf (t.get Reg.CLK_STAT_LOCK) 4 = false ∧ t.mgmt.fabHold = true ∧ ∀ n, n < 25 → t.held n = true) ∧
  (s.mgmt.fabHold = true → ∃ t, exec .fabPllLock s = .next t ∧ t.mgmt.fabHold = false ∧ bitOf (t.get Reg.CLK_STAT_LOCK) 4 = true) ∧
  (∀ p v, s.writable p 0x1050 v.toNat = true → s.keep.domainsOn = true → ∃ t, exec (.clkFabWrite p v) s = .next t ∧
    t.get Reg.CLK_FAB_N = min 40 (max 4 (v.toNat % 64)) ∧ t.mgmt.fabHold = true ∧ bitOf (t.get Reg.CLK_STAT_LOCK) 4 = false ∧ Answered t p 0)

/-- R76, R84: the on requests of Table PWR-3. From KEEP, with nothing blocking them, a filtered PWR_EN rise, a filtered WAKE_N fall while WAKE_EN is 1, and PWR_CMD ON each start the climb with S1 and are recorded in KEEP_WAKE.SRC. R77: PWR_TGT.STATE accepts MGMT, DARK, LIT and RUN, and a target below the state where the sequencer stands starts an undo down to it, never below MGMT. Completion is stated for: pwrEnRise, wakeNFall, pwrCmdOn, targetChange. -/
def Obligations.OnRequestsAndTargetChanges : Prop := (∀ s : State, s.canRise = true →
  (s.keep.pwrEn = false → s.get Reg.KEEP_STORM_PWR_EN_MASK = 0 → s.keep.edgesPwrEn ≠ 1000 →
    ∃ t, exec .pwrEnRise s = .next t ∧ Climbing t 1 ∧ t.keep.pwrEn = true ∧ t.power = 0) ∧
  (s.keep.wakeN = true → s.get Reg.KEEP_STORM_WAKE_N_MASK = 0 → s.keep.edgesWakeN ≠ 1000 → s.get Reg.PWR_CTL_WAKE_EN = 1 →
    ∃ t, exec .wakeNFall s = .next t ∧ Climbing t 2 ∧ t.keep.wakeN = false ∧ t.power = 0) ∧
  (∀ p, s.writable p 0x2040 1 = true → ∃ t, exec (.pwrCmdOn p) s = .next t ∧ Climbing t 3 ∧ t.power = 0 ∧ Answered t p 0)) ∧
  (∀ (s : State) (p : Path) (v : Word), s.writable p 0x2044 v.toNat = true →
  (v.toNat % 8 = 0 ∨ 4 < v.toNat % 8 → ∃ t, exec (.targetChange p v) s = .next t ∧ t.regs = s.regs ∧ t.keep = s.keep ∧ Answered t p 0) ∧
  (1 ≤ v.toNat % 8 → v.toNat % 8 ≤ 4 → ∃ t, exec (.targetChange p v) s = .next t ∧ t.get Reg.PWR_TGT_STATE = v.toNat % 8 ∧ Answered t p 0 ∧
    (s.get Reg.PWR_STAT_BUSY = 0 → s.takesOn = true → s.keep.inTrap = false → s.get Reg.PWR_REC_STRAP_CONFLICT = 0 → v.toNat % 8 < s.power → Undoing t (v.toNat % 8))))

/-- R76, R84, R85: the off requests of Table PWR-3. With no sequence running above KEEP, a filtered PWR_EN fall, PWR_CMD OFF and OFF_STAY each start the power-down; PWR_STAT.STAY is set by OFF_STAY and cleared by the filtered fall. R76: "A request that arrives while a sequence is already running in the same direction has no further effect." A filtered on request during a climb, and an off request during a power-down or an undo, change only the pin's own level and edge count. Completion is stated for: pwrEnRise, pwrEnFall, pwrCmdOn, pwrCmdOff, pwrCmdOffStay. -/
def Obligations.OffRequestsAndRequestsWithNoEffect : Prop := (∀ s : State,
  s.keep.vauxGood = true → s.keep.inReset = false → s.get Reg.PWR_STAT_BUSY = 0 → s.get Reg.PWR_STAT_OFF_PEND = 0 → s.power ≠ 0 →
  (s.keep.pwrEn = true → s.get Reg.KEEP_STORM_PWR_EN_MASK = 0 → s.keep.edgesPwrEn ≠ 1000 →
    ∃ t, exec .pwrEnFall s = .next t ∧ GoingDown t ∧ t.keep.pwrEn = false ∧ t.get Reg.PWR_STAT_STAY = 0 ∧ t.power = s.power) ∧
  (∀ p, s.writable p 0x2040 2 = true → ∃ t, exec (.pwrCmdOff p) s = .next t ∧ GoingDown t ∧ t.power = s.power ∧
    t.get Reg.PWR_STAT_STAY = s.get Reg.PWR_STAT_STAY ∧ Answered t p 0) ∧
  (∀ p, s.writable p 0x2040 3 = true → ∃ t, exec (.pwrCmdOffStay p) s = .next t ∧ GoingDown t ∧ t.power = s.power ∧
    t.get Reg.PWR_STAT_STAY = 1 ∧ Answered t p 0)) ∧
  (∀ s : State,
  s.keep.vauxGood = true → s.get Reg.PWR_STAT_BUSY = 1 →
  (s.get Reg.PWR_STAT_DIR = 0 → s.onRequest 1 = s ∧ s.onRequest 2 = s ∧ s.onRequest 3 = s ∧
    (s.keep.pwrEn = false → s.get Reg.KEEP_STORM_PWR_EN_MASK = 0 → s.keep.edgesPwrEn ≠ 1000 → exec .pwrEnRise s =
      .next { s with keep := { s.keep with pwrEn := true, edgesPwrEn := s.keep.edgesPwrEn + 1, pwrEnTaken := true } }) ∧
    (∀ p, s.writable p 0x2040 1 = true → ∃ t, exec (.pwrCmdOn p) s = .next t ∧ t = { s with sent := t.sent, mgmt := { s.mgmt with parityBad := t.mgmt.parityBad } })) ∧
  (s.get Reg.PWR_STAT_DIR = 1 → s.offRequest false = s ∧ s.offRequest true = s ∧
    (∀ p, s.writable p 0x2040 2 = true → ∃ t, exec (.pwrCmdOff p) s = .next t ∧ t = { s with sent := t.sent, mgmt := { s.mgmt with parityBad := t.mgmt.parityBad } })))

/-- R66, R67, R359, Table PKG-7: a storm is raised by the filtered edge that brings the count to 1001, which is not acted on; a fall of FAULT_IN_N is an error at bit 15 of ERR_SUM; an inactive edge of WAKE_N or FAULT_IN_N only changes the level; counts restart with each window; unmasking a held FAULT_IN_N is an error. Completion is stated for: faultInNFall, pinStorm, stormWindow, stormUnmask, wakeNRise, faultInNRise. -/
def Obligations.SlowPinsStormsAndUnmasking : Prop := ∀ s : State, s.keep.vauxGood = true →
  (∀ pin, s.keep.edges pin = 1000 → s.get (stormMask pin) = 0 → ∃ t, exec (.pinStorm pin) s = .next t ∧
    t.get (stormEvt pin) = 1 ∧ t.get (stormMask pin) = 1 ∧ OnlyRegs { s with keep := (s.keep.setPin (!s.keep.pin pin) pin).setEdges 1001 pin } t [stormEvt pin, stormMask pin]) ∧
  (s.keep.faultInN = true → s.get Reg.KEEP_STORM_FAULT_IN_MASK = 0 → s.keep.edgesFaultInN ≠ 1000 → ∃ t, exec .faultInNFall s = .next t ∧
    t.keep.faultInN = false ∧ bitOf t.errSum 15 = true ∧ (s.errSum = 0 → t.get Reg.FAULT_FIRST_SRC_BIT = 15 ∧ t.get Reg.FAULT_FIRST_SRC_PAGE = 0xFF)) ∧
  (s.keep.faultInN = false → s.get Reg.KEEP_STORM_FAULT_IN_MASK = 0 → s.keep.edgesFaultInN ≠ 1000 → ∃ t, exec .faultInNRise s = .next t ∧
    t = { s with keep := { s.keep with faultInN := true, edgesFaultInN := s.keep.edgesFaultInN + 1 } }) ∧
  (s.keep.wakeN = false → s.get Reg.KEEP_STORM_WAKE_N_MASK = 0 → s.keep.edgesWakeN ≠ 1000 → ∃ t, exec .wakeNRise s = .next t ∧
    t = { s with keep := { s.keep with wakeN := true, edgesWakeN := s.keep.edgesWakeN + 1 } }) ∧
  (∃ t, exec .stormWindow s = .next t ∧ t.keep.edgesPwrEn = 0 ∧ t.keep.edgesWakeN = 0 ∧ t.keep.edgesFaultInN = 0 ∧ t.regs = s.regs ∧ t.nv = s.nv) ∧
  (∀ p, s.writable p 0x4C 0x400 = true → s.get Reg.KEEP_STORM_FAULT_IN_MASK = 1 → s.keep.faultInN = false →
    ∃ t, exec (.stormUnmask p 0x400) s = .next t ∧ t.get Reg.KEEP_STORM_FAULT_IN_MASK = 0 ∧ bitOf t.errSum 15 = true ∧ Answered t p 0)

/-- R79, R84, R87, Table KEEP-1: a pin reset, a software reset and the end of their Cellar hold isolate every domain except KEEP and record which reset it was; PWR_TGT and PWR_CTL return to their reset values; a held page program delays the isolation; the release of RESET_N samples PWR_EN, and so does clearing the last record that blocks on requests; a Hatch reset touches the Hatch alone. Where it rests on the model's own choices these are assumption 36. Completion is stated for: resetNFall, resetNRise, resetCellarHold, hatchReset, pwrCmdReset, keepRecClear. -/
def Obligations.ResetsAndTheirRelease : Prop := ∀ s : State, s.keep.vauxGood = true →
  (s.keep.resetN = true → s.nv.intents = [] → ∃ t, exec .resetNFall s = .next t ∧ Isolated t ∧ t.keep.inReset = true ∧
    t.get Reg.KEEP_REC_PIN_RESET = 1 ∧ t.get Reg.KEEP_REC_SW_RESET = 0 ∧ t.get Reg.PWR_TGT_STATE = 2 ∧ t.get Reg.PWR_CTL_WAKE_EN = 1 ∧ t.nv = s.nv) ∧
  (s.keep.resetN = true → s.nv.intents ≠ [] → ∃ t, exec .resetNFall s = .next t ∧ t.keep.hold = some .pin ∧ t.power = s.power ∧ t.nv = s.nv) ∧
  (s.keep.hold = some .pin → s.keep.inReset = true → ∃ t, exec .resetCellarHold s = .next t ∧ Isolated t ∧ t.keep.hold = none ∧ t.nv.intents = []) ∧
  (s.keep.resetN = false → s.keep.hold = none → s.onBlocked = false → s.power = 0 → s.get Reg.PWR_STAT_STAY = 0 → s.keep.pwrEnTaken = true →
    1 ≤ s.get Reg.PWR_TGT_STATE → ∃ t, exec .resetNRise s = .next t ∧ t.keep.inReset = false ∧ Climbing t 4 ∧
      t.get Reg.PWR_STAT_BOUNCE = min (s.get Reg.PWR_STAT_BOUNCE + 1) 255) ∧
  (∀ p, s.writable p 0x2040 4 = true → s.keep.inReset = false → s.keep.hold = none → s.nv.intents = [] → s.keep.pwrEnTaken = false →
    ∃ t, exec (.pwrCmdReset p) s = .next t ∧ Isolated t ∧ t.get Reg.KEEP_REC_SW_RESET = 1 ∧ t.get Reg.KEEP_REC_PIN_RESET = 0 ∧
      t.get Reg.PWR_TGT_STATE = 2 ∧ t.nv = s.nv) ∧
  (∀ p, s.writable p 0x44 1 = true → s.get Reg.KEEP_REC_RAIL_LOST = 1 → s.get Reg.KEEP_REC_REFCLK_LOST = 0 → s.get Reg.KEEP_REC_MGMT_PLL_LOST = 0 →
    s.keep.thermLatch = false → s.get Reg.PWR_STAT_BUSY = 0 → s.power = 0 → s.keep.inReset = false → s.keep.hold = none →
    s.get Reg.PWR_STAT_STAY = 0 → s.keep.pwrEnTaken = true → 1 ≤ s.get Reg.PWR_TGT_STATE →
    ∃ t, exec (.keepRecClear p 1) s = .next t ∧ t.get Reg.KEEP_REC_RAIL_LOST = 0 ∧ Climbing t 4 ∧ Answered t p 0) ∧
  (∃ t, exec .hatchReset s = .next t ∧ t = { s with mgmt := { s.mgmt with hatchIr := .idcode, extest := false } })

/-- R363, R364: ALIVE toggles only while the housekeeper kicks, ERR_SUM is 0 and Isax is outside the Trapdoor; a kick arms the watchdog, one from an access path is ignored; the watchdog's expiry sets the mailbox page's error and stops ALIVE; the FAULT_N pulse ends. Where it rests on the model's own choices these are assumption 1. Completion is stated for: aliveToggle, faultAliveKick, hkWdog, faultNPulseEnd. -/
def Obligations.HeartbeatAndWatchdog : Prop := ∀ s : State,
  (s.keep.mgmtOn = true → s.keep.hkFresh = true → s.errSum = 0 → s.keep.inTrap = false →
    ∃ t, exec .aliveToggle s = .next t ∧ t = { s with keep := { s.keep with alive := !s.keep.alive } }) ∧
  (s.keep.hkFresh = false ∨ s.errSum ≠ 0 ∨ s.keep.inTrap = true → exec .aliveToggle s = .next s) ∧
  (s.mgmt.hkRun = true → ∃ t, exec (.faultAliveKick none) s = .next t ∧ t = { s with keep := { s.keep with hkArmed := true, hkFresh := true } }) ∧
  (∀ p, s.writable p 0x305C 1 = true → ∃ t, exec (.faultAliveKick (some p)) s = .next t ∧ t.keep = s.keep ∧ t.regs = s.regs ∧ Answered t p 0) ∧
  (s.keep.hkArmed = true → s.keep.mgmtOn = true → ∃ t, exec .hkWdog s = .next t ∧ t.keep.hkFresh = false ∧ bitOf (t.get (Reg.ERR 14)) 8 = true ∧ t.aliveRuns = false) ∧
  (∃ t, exec .faultNPulseEnd s = .next t ∧ t = { s with keep := { s.keep with pulse := false } })
/-- R52, R62, R63, R80, Table PWR-4: the steps of KEEP → MGMT. S1 and S2 latch the straps, S3 powers MGMT, S4 reads the fuses, S5 reaches MGMT; a strap conflict stops the climb there; rails missing after 1 ms are recorded and undone to KEEP. Completion is stated for: s1Rails, railMissing, s3MgmtOn, s4Fuse, s5HkBoot. -/
def Obligations.ClimbFromKeepToMgmt : Prop := ∀ s : State,
  (∀ straps, s.atStep 1 = true → s.climbsPast s.power = true → ∃ t, exec (.s1Rails straps) s = .next t ∧ t.get Reg.PWR_STAT_STEP = 3 ∧
    t.get Reg.KEEP_STRAP_LEGACY_BRN = b2n straps.legacyBrn ∧ t.get Reg.KEEP_STRAP_BOOT_SRC = straps.bootSrc ∧
    t.get Reg.KEEP_STRAP_CHAIN_FIRST = b2n straps.chainFirst ∧ t.get Reg.KEEP_STRAP_TWIN_ROLE = b2n straps.twinRole) ∧
  (∀ good, s.atStep 1 = true → good ≠ 31 → s.get Reg.PWR_STAT_OFF_PEND = 0 → ∃ t, exec (.railMissing good) s = .next t ∧
    t.get Reg.PWR_REC_RAIL_MISSING = 1 ∧ t.get Reg.PWR_REC_RAIL_MASK = 31 - good.toNat ∧ t.get Reg.PWR_REC_STEP_FAIL = 1 ∧
    t.get Reg.PWR_REC_FAIL_STEP = 1 ∧ t.get Reg.PWR_REC_CAUSE = 7 ∧ Undoing t 0) ∧
  (s.atStep 3 = true → s.climbsPast s.power = true → ∃ t, exec .s3MgmtOn s = .next t ∧ t.get Reg.PWR_STAT_STEP = 4 ∧ t.keep.mgmtOn = true ∧
    t.get Reg.CLK_STAT_LOCK = 1 ∧ t.get Reg.CLK_STAT_REFCLK_OK = 1 ∧
    (s.get Reg.KEEP_STRAP_LEGACY_BRN = 1 → ∀ n, n < 16 → t.get (Reg.LINK_CTL_COMPAT n) = 1)) ∧
  (s.atStep 4 = true → s.climbsPast s.power = true → ∃ t, exec .s4Fuse s = .next t ∧ t.get Reg.PWR_STAT_STEP = 5 ∧ t.mgmt.fuseRead = true ∧
    SameRegs s t [Reg.PWR_STAT_STEP, Reg.PWR_STAT_BUSY, Reg.PWR_STAT_DIR, Reg.PWR_STAT_WAIT_NODE_ID]) ∧
  (s.atStep 5 = true → s.climbsPast 1 = true → ¬ (s.get Reg.KEEP_STRAP_CHAIN_FIRST = 1 ∧ s.get Reg.KEEP_STRAP_BOOT_SRC = 1) → s.get Reg.KEEP_STRAP_CHAIN_FIRST < 2 →
    ∃ t, exec .s5HkBoot s = .next t ∧ t.power = 1 ∧ t.get Reg.PWR_STAT_STEP = 6 ∧ t.mgmt.hkRun = true ∧ t.get Reg.MBOX_ST_ROM = 1) ∧
  (s.atStep 5 = true → s.get Reg.PWR_STAT_OFF_PEND = 0 → s.keep.trapStop = false → 1 ≤ s.get Reg.PWR_TGT_STATE →
    s.get Reg.KEEP_STRAP_CHAIN_FIRST = 1 → s.get Reg.KEEP_STRAP_BOOT_SRC = 1 →
    ∃ t, exec .s5HkBoot s = .next t ∧ t.power = 1 ∧ t.get Reg.PWR_STAT_BUSY = 0 ∧ t.get Reg.PWR_REC_STRAP_CONFLICT = 1)

/-- R80, R118, R298, R299, R401, Table PWR-4: the steps of MGMT → DARK. S6 powers every domain, S7 mounts the Cellar and raises the boot count where the write window is open, or fails with CELL_FAIL, S8 runs the first firmware slot that checks, or fails with FW_FAIL, S9 gives the keys to the configuration engine and reaches DARK. Completion is stated for: s6DomainsOn, s7Cellar, s8Firmware, s9Key. -/
def Obligations.ClimbFromMgmtToDark : Prop := ∀ s : State,
  (s.atStep 6 = true → s.climbsPast s.power = true → ∃ t, exec .s6DomainsOn s = .next t ∧ t.get Reg.PWR_STAT_STEP = 7 ∧ t.keep.domainsOn = true ∧
    t.get Reg.CLK_STAT_LOCK = 0x3F) ∧
  (∀ env : CellEnv, s.atStep 7 = true → s.cellClocked = true → s.climbsPast s.power = true → env.mountFails = false → env.bootFails = false → s.get Reg.CELL_STAT_WIN = 1 →
    ∃ t, exec (.s7Cellar env) s = .next t ∧ t.get Reg.PWR_STAT_STEP = 8 ∧ t.nv.bootCount = (s.nv.bootCount + 1) % 2 ^ 32 ∧
      t.get Reg.CELL_BOOT_COUNT = t.nv.bootCount ∧ (s.get Reg.CELL_STAT_MOUNTED = 0 → t.get Reg.CELL_STAT_MOUNTED = 1 ∧ t.nv.intents = [])) ∧
  (∀ env : CellEnv, s.atStep 7 = true → s.cellClocked = true → s.climbsPast s.power = true → env.mountFails = false → s.get Reg.CELL_STAT_WIN = 0 →
    ∃ t, exec (.s7Cellar env) s = .next t ∧ t.get Reg.PWR_STAT_STEP = 8 ∧ t.nv.bootCount = s.nv.bootCount ∧ t.get Reg.CELL_STAT_BOOT_DEFER = 1) ∧
  (∀ env : CellEnv, s.atStep 7 = true → s.cellClocked = true → s.get Reg.PWR_STAT_OFF_PEND = 0 → env.mountFails = true → s.get Reg.CELL_STAT_MOUNTED = 0 →
    ∃ t, exec (.s7Cellar env) s = .next t ∧ t.get Reg.PWR_REC_FAIL_STEP = 7 ∧ t.get Reg.PWR_REC_CAUSE = 5 ∧ Undoing t 1 ∧ t.nv = s.nv) ∧
  (∀ (env : CellEnv) slot, s.atStep 8 = true → s.cellClocked = true → s.climbsPast s.power = true →
    ((s.fwUe 0 env = none ∧ s.fwGood 0 = true ∧ slot = 0) ∨ (s.fwUe 0 env = none ∧ s.fwGood 0 = false ∧ s.fwUe 1 env = none ∧ s.fwGood 1 = true ∧ slot = 1)) →
    ∃ t, exec (.s8Firmware env) s = .next t ∧ t.get Reg.PWR_STAT_STEP = 9 ∧ t.mgmt.fwSlot = some (slot, (tget {} s.nv.loft slot).gen) ∧ t.get Reg.MBOX_ST_ROM = 0) ∧
  (∀ (env : CellEnv) p, s.atStep 8 = true → s.cellClocked = true → s.climbsPast s.power = true → s.fwUe 0 env = some p → (tget {} s.nv.loft 0).committed = true →
    s.fwUe 1 env = none → s.fwGood 1 = true → s.faultTrap = 0 → s.get Reg.FAULT_STAT_PARITY = 0 → s.keep.inTrap = false →
    ∃ t, exec (.s8Firmware env) s = .next t ∧ t.get Reg.PWR_STAT_STEP = 9 ∧ t.mgmt.fwSlot = some (1, (tget {} s.nv.loft 1).gen) ∧
      t.get Reg.CELL_UE_VALID = 1 ∧ bitOf (t.get (Reg.ERR 6)) 8 = true) ∧
  (∀ env : CellEnv, s.atStep 8 = true → s.cellClocked = true → s.get Reg.PWR_STAT_OFF_PEND = 0 →
    (s.fwUe 0 env ≠ none ∨ s.fwGood 0 = false) → (s.fwUe 1 env ≠ none ∨ s.fwGood 1 = false) →
    ∃ t, exec (.s8Firmware env) s = .next t ∧ t.get Reg.PWR_REC_FAIL_STEP = 8 ∧ t.get Reg.PWR_REC_CAUSE = 6 ∧ Undoing t 1 ∧ t.mgmt.fwSlot = s.mgmt.fwSlot) ∧
  (s.atStep 9 = true → s.climbsPast 2 = true → ∃ t, exec .s9Key s = .next t ∧ t.power = 2 ∧ t.mgmt.engineBat = s.nv.batteryKey ∧
    t.mgmt.engineFuse = Config.fuseKey.isSome ∧ (s.nv.batteryKey = none → t.get Reg.PWR_REC_KEY_EMPTY = 1) ∧
    (s.get Reg.KEEP_STRAP_BOOT_SRC = 3 → t.mgmt.load = s.mgmt.load) ∧
    (s.get Reg.ROUTE_NODE_VALID = 1 → t.get Reg.PWR_STAT_STEP = 11) ∧ (s.get Reg.ROUTE_NODE_VALID = 0 → t.get Reg.PWR_STAT_WAIT_NODE_ID = 1))

/-- R78: "The sequencer does not start DARK → LIT until the node-ID valid bit on page ROUTE is set (R23). While it waits, PWR_STAT.WAIT_NODE_ID is 1. The wait has no timeout and is an abort point." From DARK a climb waits exactly where the bit is clear, a timeout changes nothing while it waits, an off request or a lowered target stops it there, and the bit's setting ends it with S11. Completion is stated for: s9Key, nodeIdWaitEnd, abortPoint. -/
def Obligations.WaitForTheNodeId : Prop := ∀ s : State,
  (s.get Reg.ROUTE_NODE_VALID = 0 → s.fromDark.get Reg.PWR_STAT_WAIT_NODE_ID = 1 ∧ s.fromDark.get Reg.PWR_STAT_STEP = 0 ∧ s.fromDark.get Reg.PWR_STAT_BUSY = 1) ∧
  (s.get Reg.ROUTE_NODE_VALID = 1 → s.fromDark.get Reg.PWR_STAT_WAIT_NODE_ID = 0 ∧ s.fromDark.get Reg.PWR_STAT_STEP = 11) ∧
  (s.atStep 9 = true → s.climbsPast 2 = true → s.get Reg.ROUTE_NODE_VALID = 0 → ∃ t, exec .s9Key s = .next t ∧ t.get Reg.PWR_STAT_WAIT_NODE_ID = 1 ∧ t.get Reg.PWR_STAT_STEP = 0) ∧
  (∀ src, s.power = 2 → 3 ≤ s.climbTarget → s.get Reg.ROUTE_NODE_VALID = 0 → (s.climb src).get Reg.PWR_STAT_WAIT_NODE_ID = 1 ∧ (s.climb src).get Reg.PWR_STAT_STEP = 0) ∧
  (∀ b, s.get Reg.PWR_STAT_WAIT_NODE_ID = 1 → exec (.powerUpStepTimeout b) s = .next s) ∧
  (s.get Reg.PWR_STAT_WAIT_NODE_ID = 1 → s.get Reg.ROUTE_NODE_VALID = 0 → ∃ t, exec .nodeIdWaitEnd s = .next t ∧ t.get Reg.PWR_STAT_WAIT_NODE_ID = 1 ∧ t.get Reg.PWR_STAT_STEP = s.get Reg.PWR_STAT_STEP) ∧
  (s.get Reg.PWR_STAT_WAIT_NODE_ID = 1 → s.get Reg.ROUTE_NODE_VALID = 1 → s.climbsPast s.power = true →
    ∃ t, exec .nodeIdWaitEnd s = .next t ∧ t.get Reg.PWR_STAT_STEP = 11 ∧ t.get Reg.PWR_STAT_WAIT_NODE_ID = 0) ∧
  (s.get Reg.PWR_STAT_WAIT_NODE_ID = 1 → s.get Reg.PWR_STAT_BUSY = 1 → s.get Reg.PWR_STAT_DIR = 0 → s.get Reg.PWR_STAT_OFF_PEND = 1 →
    ∃ t, exec .abortPoint s = .next t ∧ Undoing t 0 ∧ t.get Reg.PWR_STAT_WAIT_NODE_ID = 0) ∧
  (s.get Reg.PWR_STAT_WAIT_NODE_ID = 1 → s.get Reg.PWR_STAT_BUSY = 1 → s.get Reg.PWR_STAT_DIR = 0 → s.get Reg.PWR_STAT_OFF_PEND = 0 → s.keep.trapStop = false →
    s.climbTarget < s.power → ∃ t, exec .abortPoint s = .next t ∧ Undoing t s.climbTarget)

/-- R80, R81, R287, Table PWR-4: the steps of DARK → RUN. S11 lights the combs, S12 locks every ring in use but those that fail to, and in a warm start sweeps each of these alone first, S13 reaches LIT and every tile measures, S14 opens the traffic gates, but not on a standby twin, and reaches RUN. Where it rests on the model's own choices these are assumption 35. Completion is stated for: s11Comb, s12Rings, s13Train, s14Gates. -/
def Obligations.ClimbFromDarkToRun : Prop := ∀ s : State, s.get Reg.PWR_STAT_OFF_PEND = 0 → s.keep.trapStop = false →
  (∀ a b c d, s.atStep 11 = true → s.climbsPast s.power = true → (∀ m, m < 4 → (s.ecsAt m).lolMask = false ∧ s.combBit Reg.COMB_STAT_FAILED m = false) →
    ∃ t, exec (.s11Comb [upLit a, upLit b, upLit c, upLit d] []) s = .next t ∧ t.get Reg.PWR_STAT_STEP = 12 ∧
      ∀ m, m < 4 → bitOf (t.get Reg.COMB_STAT_LIT) m = true ∧ bitOf (t.get Reg.COMB_STAT_LOL) m = false) ∧
  (∀ unlocked, s.atStep 12 = true → s.mgmt.sweep = [] → s.climbsPast s.power = true → Table.sorted s.rings = true → s.loneSweeps unlocked = [] →
    ∃ t, exec (.s12Rings unlocked) s = .next t ∧ t.get Reg.PWR_STAT_STEP = 13 ∧ ∀ (n : OpId) (rx : Bool) (i : Fin 36),
      (tget {} t.rings (ringKey n rx i)).lock = ((tget {} s.rings (ringKey n rx i)).slot != 0 && !(tget {} s.rings (ringKey n rx i)).bad &&
        !(tget {} s.rings (ringKey n rx i)).absent && !(tget {} s.rings (ringKey n rx i)).parked && !(unlocked.map ringIdKey).contains (ringKey n rx i))) ∧
  (∀ unlocked, s.atStep 12 = true → s.mgmt.sweep = [] → s.loneSweeps unlocked ≠ [] → ∃ t, exec (.s12Rings unlocked) s = .next t ∧ t.get Reg.PWR_STAT_STEP = 12 ∧
    ∀ q, q < 4 → tget [] t.mgmt.sweep q = ((s.loneSweeps unlocked).filter fun k => keyPort k / 4 == q).map fun k => (k, 3)) ∧
  (s.atStep 13 = true → s.climbTarget = 4 → ∃ t, exec .s13Train s = .next t ∧ t.power = 3 ∧ t.te.start = true ∧ t.get Reg.TEG_STAT_READY = 0 ∧
    t.get Reg.PWR_STAT_STEP = 14 ∧ t.gates = s.gates) ∧
  (s.atStep 13 = true → s.climbTarget = 3 → ∃ t, exec .s13Train s = .next t ∧ t.power = 3 ∧ t.get Reg.PWR_STAT_BUSY = 0) ∧
  (s.atStep 14 = true → s.climbTarget = 4 → ∃ t, exec .s14Gates s = .next t ∧ t.power = 4 ∧ t.get Reg.PWR_STAT_BUSY = 0 ∧
    (s.get Reg.TWIN_STAT_ROLE ≠ 2 → t.gates = true) ∧ (s.get Reg.TWIN_STAT_ROLE = 2 → t.gates = s.gates))

/-- R77, R80, R82, Table PWR-4: a step that fails or times out at S3 to S8 is recorded in PWR_REC and undone to KEEP (S3 to S5) or MGMT (S6 to S8); S11 to S13 never stop the climb; an abort point takes a latched off request down to KEEP and a lowered target down to it; an undo that is done shows the state named, and KEEP by isolating every domain. Where it rests on the model's own choices these are assumption 35. Completion is stated for: powerUpStepTimeout, abortPoint, undoDone. -/
def Obligations.FailuresAbortsAndUndo : Prop := ∀ s : State, s.get Reg.PWR_STAT_OFF_PEND = 0 →
  (∀ b k, 3 ≤ k → k ≤ 8 → s.atStep k = true → ∃ t, exec (.powerUpStepTimeout b) s = .next t ∧ t.get Reg.PWR_REC_STEP_FAIL = 1 ∧
    t.get Reg.PWR_REC_FAIL_STEP = k ∧
    t.get Reg.PWR_REC_CAUSE = (if k = 3 then (if b then 1 else 2) else if k = 4 then 3 else if k = 5 then 4 else if k = 6 then 2 else if k = 7 then 5 else 6) ∧
    Undoing t (if k ≤ 5 then 0 else 1)) ∧
  (∀ b, s.atStep 11 = true → s.climbsPast s.power = true → s.get Reg.COMB_CTL_AUTO_SW = 0 → ∃ t, exec (.powerUpStepTimeout b) s = .next t ∧ t.get Reg.PWR_STAT_STEP = 12 ∧
    t.get Reg.PWR_REC_STEP_FAIL = s.get Reg.PWR_REC_STEP_FAIL ∧ ∀ m, m < 4 → bitOf (t.get Reg.COMB_STAT_FAILED) m = true) ∧
  (∀ b, s.atStep 12 = true → s.climbsPast s.power = true → ∃ t, exec (.powerUpStepTimeout b) s = .next t ∧ t.get Reg.PWR_STAT_STEP = 13 ∧ t.mgmt.sweep = []) ∧
  (∀ b, s.atStep 13 = true → s.keep.trapStop = false → s.climbTarget = 3 → ∃ t, exec (.powerUpStepTimeout b) s = .next t ∧ t.power = 3 ∧ t.get Reg.PWR_STAT_BUSY = 0) ∧
  (∀ k, s.atStep k = true → k ∈ [6, 8, 11, 12, 13] → s.keep.trapStop = false → 1 ≤ s.climbTarget → s.climbTarget ≤ s.power →
    ∃ t, exec .abortPoint s = .next t ∧ Undoing t s.climbTarget ∧ t.get Reg.PWR_STAT_STEP = k) ∧
  (∀ u, s.keep.undo = some u → u.target = 0 → u.sample = false → u.again = false → ∃ t, exec .undoDone s = .next t ∧ Isolated t ∧
    t.get Reg.PWR_STAT_BUSY = 0 ∧ t.keep.undo = none ∧ (s.power = 0 → t.get Reg.PWR_TIME_US = s.get Reg.PWR_TIME_US)) ∧
  (∀ u, s.keep.undo = some u → u.target = 0 → u.sample = true → s.keep.pwrEnTaken = false → ∃ t, exec .undoDone s = .next t ∧ Isolated t ∧
    t.get Reg.PWR_STAT_BUSY = 0 ∧ t.get Reg.PWR_TIME_US = min ((s.now - s.keep.seqStart) / 1000) (2 ^ 24 - 1)) ∧
  (∀ u, s.keep.undo = some u → u.target = 3 → u.sample = false → u.again = true → s.get Reg.PWR_STAT_STEP = 14 → s.keep.inTrap = false → s.get Reg.PWR_REC_STRAP_CONFLICT = 0 →
    1 ≤ s.get Reg.PWR_TGT_STATE → s.get Reg.PWR_TGT_STATE < 3 → ∃ t, exec .undoDone s = .next t ∧ t.power = 3 ∧ t.gates = false ∧ Undoing t (s.get Reg.PWR_TGT_STATE)) ∧
  (∀ u, s.keep.undo = some u → 1 ≤ u.target → u.target ≤ 3 → u.sample = false → u.again = false → ∃ t, exec .undoDone s = .next t ∧ t.power = u.target ∧
    t.get Reg.PWR_STAT_BUSY = 0 ∧ t.keep.undo = none ∧ (u.target = 1 → 8 ≤ s.get Reg.PWR_STAT_STEP → t.mgmt.fwSlot = none ∧ t.keep.domainsOn = false))

/-- R84, R85, R86, Table PWR-6: the steps of a power-down. P2 darkens links, rings and combs; P3 saves the ring map, or sets MAP_NOT_SAVED and keeps the earlier one where the write window is closed or the Cellar has lost its clock; P4 unmounts the Cellar; P5 zeroises the keys and isolates the domains; P6 reaches KEEP, where PWR_EN is sampled as a level. Where it rests on the model's own choices these are assumption 35. Completion is stated for: p2LightOff, p3MapSave, p4Cellar, p5DomainsOff, p6MgmtOff. -/
def Obligations.PowerDownStepByStep : Prop := ∀ s : State,
  (s.atDown 18 = true → ∃ t, exec .p2LightOff s = .next t ∧ t.get Reg.PWR_STAT_STEP = (if s.keep.p3Done then 20 else 19) ∧
    t.get Reg.COMB_STAT_LIT = 0 ∧ ∀ k, (tget {} t.rings k).lock = false) ∧
  (s.atDown 19 = true → s.get Reg.PWR_CTL_SAVE_MAP = 1 → 3 ≤ s.power → s.get Reg.CELL_STAT_MOUNTED = 1 → s.cellClocked = true → s.get Reg.CELL_STAT_WIN = 1 →
    ∃ t, exec (.p3MapSave {}) s = .next t ∧ t.get Reg.PWR_STAT_STEP = 20 ∧ ∃ m, (t.nv.calA = some m ∨ t.nv.calB = some m) ∧ m = s.mgmt.mapStash.getD s.mapNow) ∧
  (∀ env, s.atDown 19 = true → s.get Reg.PWR_CTL_SAVE_MAP = 1 → 3 ≤ s.power → s.get Reg.CELL_STAT_MOUNTED = 1 → s.get Reg.CELL_STAT_WIN = 0 ∨ s.cellClocked = false →
    ∃ t, exec (.p3MapSave env) s = .next t ∧ t.get Reg.PWR_STAT_STEP = 20 ∧ t.get Reg.PWR_REC_MAP_NOT_SAVED = 1 ∧ t.nv.calA = s.nv.calA ∧ t.nv.calB = s.nv.calB) ∧
  (s.atDown 20 = true → ∃ t, exec .p4Cellar s = .next t ∧ t.get Reg.PWR_STAT_STEP = 21 ∧ t.get Reg.CELL_STAT_MOUNTED = 0 ∧ t.nv = { s.nv with intents := [] }) ∧
  (s.atDown 21 = true → ∃ t, exec .p5DomainsOff s = .next t ∧ t.get Reg.PWR_STAT_STEP = 22 ∧ t.keep.domainsOn = false ∧ t.mgmt.engineFuse = false ∧
    t.mgmt.engineBat = none ∧ t.gates = false ∧ t.strm = {} ∧ t.te = {} ∧ t.twin = {}) ∧
  (s.atDown 22 = true → s.keep.pwrEnTaken = false → ∃ t, exec .p6MgmtOff s = .next t ∧ Isolated t ∧ t.get Reg.PWR_STAT_BUSY = 0 ∧ t.nv = s.nv) ∧
  (s.atDown 22 = true → s.takesOn = true → s.keep.pwrEnTaken = true → s.get Reg.PWR_STAT_STAY = 0 → 1 ≤ s.get Reg.PWR_TGT_STATE →
    ∃ t, exec .p6MgmtOff s = .next t ∧ Climbing t 4 ∧ t.power = 0 ∧ t.get Reg.PWR_STAT_BOUNCE = min (s.get Reg.PWR_STAT_BOUNCE + 1) 255)
/-- R114, R128, R131, Table CFG-7: whichever record command its source gives during a load, one that fails a check of R114 ends the load with the code of the first failing check before it has any effect: the code, FRAME and TARGET are recorded, LOAD_FAIL rises, the holds stay and no configuration changes. R114, R115, R116, R117, R118, R128, R129, R134, R403: what a record that passes the checks of R114 does. STREAM_HDR holds the affected partitions and blanks those of PMASK; KEY_ROLL sets the frame key or ends with NO_BASE_KEY or KEYWRAP; CFG_FRAME writes its frame and stages its signature, or ends with the code of its key, limit or tag; RELEASE lifts the holds of the load where its digest matches, and commits the signatures unless the write window is closed, or ends with DIGEST. Where it rests on the model's own choices these are assumption 31. Completion is stated for: streamHdr, keyRoll, cfgFrame, release. -/
def Obligations.RecordsConfigureTheFabricOrEndTheLoad : Prop := (∀ (s : State) (l : LoadRun) (r : Record), s.mgmt.load = some l → l.atS10 = false →
  s.sourceGives l r = true → (l.src = .loft → l.pos + recSize r ≤ l.len) → s.keep.mgmtOn = true → r.frame < 2 ^ 32 → r.target < 2 ^ 32 →
  ∀ env, ∀ c ∈ [(1, Instr.streamHdr r), (2, .keyRoll r), (3, .cfgFrame r), (5, .seg r), (6, .release r env), (7, .endRecord r)], recCheck l c.1 r ≠ 0 →
    recCheck l c.1 r ≠ 0x15 ∨ (s.faultTrap = 0 ∧ s.get Reg.FAULT_STAT_PARITY = 0 ∧ s.keep.inTrap = false) → ∃ t, exec c.2 s = .next t ∧ t.mgmt.load = none ∧ t.get Reg.CFG_LOAD_BUSY = 0 ∧ t.get Reg.CFG_LOAD_ERR_CODE = recCheck l c.1 r ∧
      t.get Reg.CFG_ERR_FRAME_FRAME = r.frame ∧ t.get Reg.CFG_ERR_TARGET_TARGET = r.target ∧ bitOf (t.get (Reg.EVT 5)) 1 = true ∧
      t.heldMask = s.heldMask ∧ t.mgmt.cfgMem = s.mgmt.cfgMem ∧ t.nv = { s.nv with intents := t.nv.intents }) ∧
  (∀ (s : State) (l : LoadRun) (r : Record), s.mgmt.load = some l → l.atS10 = false →
  s.sourceGives l r = true → r.frame < 2 ^ 32 → r.target < 2 ^ 32 →
  ((l.src = .loft → l.pos + recSize r + 20 ≤ l.len) →
  (recCheck l 1 r = 0 → s.hdrCheck l r = 0 → ∃ t, exec (.streamHdr r) s = .next t ∧
    (∃ l', t.mgmt.load = some l' ∧ l'.hdr = some (hdrOf r) ∧ l'.nextFrame = 1 ∧ l'.held = s.affected (hdrOf r)) ∧
    (∀ n, bitOf (s.affected (hdrOf r)) n = true → t.held n = true) ∧
    (∀ f, tget [] t.mgmt.cfgMem f = if bitOf (hdrOf r).pmask (framePart f) then [] else tget [] s.mgmt.cfgMem f) ∧
    t.get Reg.CLK_FAB_N = (if s.fabChange (hdrOf r) then (hdrOf r).fabN else s.get Reg.CLK_FAB_N)) ∧
  (recCheck l 1 r = 0 → s.hdrCheck l r ≠ 0 → ∃ t, exec (.streamHdr r) s = .next t ∧ t.mgmt.load = none ∧
    t.get Reg.CFG_LOAD_ERR_CODE = s.hdrCheck l r ∧ t.mgmt.cfgMem = s.mgmt.cfgMem) ∧
  (recCheck l 2 r = 0 → ∃ t, exec (.keyRoll r) s = .next t ∧
    match s.baseKey with
    | none => t.mgmt.load = none ∧ t.get Reg.CFG_LOAD_ERR_CODE = 0x0B
    | some k => match recOpen l r k 0xFFFFFFFF with
      | none => t.mgmt.load = none ∧ t.get Reg.CFG_LOAD_ERR_CODE = 0x0C
      | some b => t.get Reg.CFG_KEYCNT_KIB = 0 ∧ t.mgmt.load = some { l.pass r with pos := l.pos + recSize r, frameKey := some b, keyBytes := 0 }) ∧
  (recCheck l 3 r = 0 → ∃ t, exec (.cfgFrame r) s = .next t ∧
    match recPlain l r with
    | .error c => t.mgmt.load = none ∧ t.get Reg.CFG_LOAD_ERR_CODE = c ∧ t.mgmt.cfgMem = s.mgmt.cfgMem
    | .ok b => tget [] t.mgmt.cfgMem r.target = b ∧ (∀ f, f ≠ r.target → tget [] t.mgmt.cfgMem f = tget [] s.mgmt.cfgMem f) ∧
        tget [] t.nv.goldStaged r.target = toBytes (sha256 (toVals b)) ∧ t.nv.gold = s.nv.gold ∧ t.heldMask = s.heldMask)) ∧
  ((l.src = .loft → l.pos + recSize r ≤ l.len) →
  (∀ env h b, recCheck l 6 r = 0 → l.hdr = some h → recPlain l r = .ok b → toVals b = sha256 (toVals h.digest) → ∃ t, exec (.release r env) s = .next t ∧
    t.mgmt.load = none ∧ t.get Reg.CFG_LOAD_BUSY = 0 ∧ t.get Reg.CFG_LOAD_ERR_CODE = 0 ∧ t.mgmt.cfgMem = s.mgmt.cfgMem ∧
    (∀ n, n < 25 → bitOf l.held n = true → bitOf t.mgmt.cfgHeld n = false) ∧ (∀ n, n < 25 → bitOf h.pmask n = true → bitOf (t.get Reg.CFG_LOADED_LOADED) n = true) ∧
    (env = {} → s.get Reg.CELL_STAT_MOUNTED = 1 → s.cellClocked = true → s.get Reg.CELL_STAT_WIN = 1 → t.get Reg.CFG_SCRUB_NO_GOLD = 0 ∧ t.nv.goldSet = !s.nv.goldSet ∧
      ∀ n, n < 25 → bitOf h.pmask n = true → bitOf t.mgmt.goldOk n = true) ∧
    (s.get Reg.CELL_STAT_MOUNTED = 0 ∨ s.get Reg.CELL_STAT_WIN = 0 → t.get Reg.CFG_SCRUB_NO_GOLD = 1 ∧ t.nv.gold = s.nv.gold)) ∧
  (∀ env h b, recCheck l 6 r = 0 → l.hdr = some h → recPlain l r = .ok b → toVals b ≠ sha256 (toVals h.digest) → ∃ t, exec (.release r env) s = .next t ∧
    t.mgmt.load = none ∧ t.get Reg.CFG_LOAD_ERR_CODE = 0x11 ∧ t.heldMask = s.heldMask)))

/-- R123, R124, R125, R126, Table CFG-5: the sources of a load and the chain. The Hatch takes a pushed word while its load runs and its FIFO has room, and ends the load with OVERRUN where it has none; a member starts at its start marker; SEG places its segment; END before RELEASE, a time-out and a stalled clock end the load with their codes; the head starts forwarding once, and records after its own segment pass through unchanged until END. Where it rests on the model's own choices these are assumption 32. Completion is stated for: cfgloadPush, cfgFrame, seg, endRecord, startMarker, loadTimeout, chainForwardStart, clkStall. -/
def Obligations.SourcesAndTheChain : Prop := ∀ (s : State) (l : LoadRun) (r : Record), l.atS10 = false →
  (∀ w, s.keep.mgmtOn = true → s.mgmt.load = some l → l.src = .hatch → s.mgmt.hatchFifo.length < 16384 → ∃ t, exec (.cfgloadPush true w) s = .next t ∧
    t.mgmt.hatchFifo = s.mgmt.hatchFifo ++ [w] ∧ t.mgmt.hatchIr = .cfgload ∧ t.mgmt.load = some l ∧ t.regs = s.regs) ∧
  (∀ w, s.keep.mgmtOn = true → s.mgmt.load = some l → l.src = .hatch → s.mgmt.hatchFifo.length = 16384 → ∃ t, exec (.cfgloadPush true w) s = .next t ∧
    t.mgmt.load = none ∧ t.get Reg.CFG_LOAD_ERR_CODE = 0x14) ∧
  (s.mgmt.load = some l → l.src = .chain → ∃ t, exec .startMarker s = .next t ∧ t = { s with mgmt := { s.mgmt with load := some { l with started := true } } }) ∧
  (s.mgmt.load = some l → l.src = .hatch → s.fifoGives r = true → recCheck l 5 r = 0 → 1 ≤ bodyNat r 0 4 → bodyNat r 0 4 ≤ 8 → bodyNat r 4 4 < bodyNat r 0 4 →
    ∃ t, exec (.seg r) s = .next t ∧ t.mgmt.load = some { l with pos := l.pos + recSize r, segSeen := true, remain := bodyNat r 4 4 } ∧
      t.get Reg.CFG_CHAIN_POS = bodyNat r 0 4 - 1 - bodyNat r 4 4) ∧
  (s.mgmt.load = some l → l.src = .hatch → s.fifoGives r = true → recCheck l 5 r = 0 → bodyNat r 0 4 = 0 ∨ 8 < bodyNat r 0 4 → ∃ t, exec (.seg r) s = .next t ∧
    t.mgmt.load = none ∧ t.get Reg.CFG_LOAD_ERR_CODE = 0x07) ∧
  (s.mgmt.load = some l → s.sourceGives l r = true → recCheck l 7 r = 0 → ∃ t, exec (.endRecord r) s = .next t ∧ t.mgmt.load = none ∧
    t.get Reg.CFG_LOAD_ERR_CODE = (if l.src = .chain ∧ l.segSeen = false then 0x18 else 0x12)) ∧
  (s.mgmt.load = some l → ∃ t, exec .loadTimeout s = .next t ∧ t.mgmt.load = none ∧ t.heldMask = s.heldMask ∧
    t.get Reg.CFG_LOAD_ERR_CODE = (match l.src with
      | .loft => 0x17 | .chain => if l.started then 0x17 else 0x13 | .hatch => if l.segSeen || l.hdr.isSome then 0x17 else 0x13)) ∧
  (s.mgmt.load = some l → l.src = .chain → l.segSeen = true → ∃ t, exec .clkStall s = .next t ∧ t.mgmt.load = none ∧ t.get Reg.CFG_LOAD_ERR_CODE = 0x1A) ∧
  (s.mgmt.chain.ownDone = true → s.get Reg.CFG_CHAIN_FWD_BUSY = 0 → ∃ t, exec .chainForwardStart s = .next t ∧ t.get Reg.CFG_CHAIN_FWD_BUSY = 1 ∧
    t.sent = .cfgStart :: s.sent ∧ SameRegs s t [Reg.CFG_CHAIN_FWD_BUSY]) ∧
  (s.mgmt.load = none → s.get Reg.CFG_CHAIN_FWD_BUSY = 1 → s.chainGives r = true → ∃ t, exec (.cfgFrame r) s = .next t ∧ (r.rtype = 3 → t.sent = .cfgRecord r :: s.sent ∧ t.get Reg.CFG_CHAIN_FWD_BUSY = 1)) ∧
  (s.mgmt.load = none → s.get Reg.CFG_CHAIN_FWD_BUSY = 1 → s.chainGives r = true → r.rtype = 7 → ∃ t, exec (.endRecord r) s = .next t ∧ t.get Reg.CFG_CHAIN_FWD_BUSY = 0 ∧ t.mgmt.chain = {} ∧ .cfgRecord r ∈ t.sent)

/-- R119, R133, R134, R135: PROG stores the staged key in the key memory and the engine and clears the staging registers, ZERO erases both; the scrubber compares the next frame with its golden signature and moves on, repairs a mismatch from the slot it came from, or reports CFG_UNFIXED and keeps what it read, and reports GOLD_ERR where the signature reads uncorrectable. Where it rests on the model's own choices these are assumption 33. Completion is stated for: prog, zero, scrubFrame. -/
def Obligations.KeysAndTheScrubber : Prop := ∀ s : State,
  (∀ p, s.writable p 0x50A0 1 = true → ∃ t, exec (.prog p) s = .next t ∧ t.nv.batteryKey = some (toBytes (s.mgmt.bkey.map (natBe 4)).flatten) ∧
    t.mgmt.engineBat = t.nv.batteryKey ∧ t.mgmt.bkey = List.replicate 8 0 ∧ t.get Reg.CFG_BKEY_CTL_PRESENT = 1 ∧ Answered t p 0 ∧
    SameRegs s t [Reg.CFG_BKEY_CTL_PRESENT, Reg.CFG_BKEY_KCV_KCV]) ∧
  (∀ p, s.writable p 0x50A0 2 = true → ∃ t, exec (.zero p) s = .next t ∧ t.nv.batteryKey = none ∧ t.mgmt.engineBat = none ∧
    t.get Reg.CFG_BKEY_CTL_PRESENT = 0 ∧ t.get Reg.CFG_BKEY_KCV_KCV = 0 ∧ Answered t p 0 ∧ SameRegs s t [Reg.CFG_BKEY_CTL_PRESENT, Reg.CFG_BKEY_KCV_KCV]) ∧
  (∀ f back ue, s.get Reg.CFG_SCRUB_EN = 1 → s.keep.domainsOn = true → s.cellClocked = true → s.scrubFrame = some f → toBytes (sha256 (toVals back)) = s.goldOf f →
    ∃ t, exec (.scrubFrame back ue false) s = .next t ∧ t = ({ s with mgmt := { s.mgmt with scrubNext := (f + 1) % 65536 } } : State).charge 27 none 1) ∧
  (∀ f back good, s.get Reg.CFG_SCRUB_EN = 1 → s.keep.domainsOn = true → s.cellClocked = true → s.scrubFrame = some f → toBytes (sha256 (toVals back)) ≠ s.goldOf f →
    s.get Reg.CFG_POL_SCRUB_MODE = 1 → (tget {} s.mgmt.loadedFrom (framePart f)).src = .loft →
    (tget {} s.nv.loft (2 + (tget {} s.mgmt.loadedFrom (framePart f)).slot)).committed = true →
    (tget {} s.nv.loft (2 + (tget {} s.mgmt.loadedFrom (framePart f)).slot)).gen = (tget {} s.mgmt.loadedFrom (framePart f)).gen →
    s.reread f (tget {} s.mgmt.loadedFrom (framePart f)).slot = some good → ∃ t, exec (.scrubFrame back false false) s = .next t ∧ tget [] t.mgmt.cfgMem f = good ∧ t.get Reg.CFG_SCRUB_LAST_ADDR = f % 2 ^ 16 ∧
      (∀ k, k ≠ f → tget [] t.mgmt.cfgMem k = tget [] s.mgmt.cfgMem k)) ∧
  (∀ f back ue, s.get Reg.CFG_SCRUB_EN = 1 → s.keep.domainsOn = true → s.cellClocked = true → s.scrubFrame = some f → toBytes (sha256 (toVals back)) ≠ s.goldOf f →
    ue = true ∨ s.get Reg.CFG_POL_SCRUB_MODE = 0 ∨ s.reread f (tget {} s.mgmt.loadedFrom (framePart f)).slot = none →
    ∃ t, exec (.scrubFrame back ue false) s = .next t ∧ tget [] t.mgmt.cfgMem f = back ∧ bitOf (t.get (Reg.ERR 5)) 8 = true) ∧
  (∀ f back ue, s.get Reg.CFG_SCRUB_EN = 1 → s.keep.domainsOn = true → s.cellClocked = true → s.scrubFrame = some f →
    ∃ t, exec (.scrubFrame back ue true) s = .next t ∧ t.mgmt.cfgMem = s.mgmt.cfgMem ∧ bitOf (t.get (Reg.ERR 5)) 9 = true ∧ bitOf (t.get (Reg.ERR 6)) 8 = true)
/-- R136, R139, R140, R141, R143, R144, R145, R153, R162, R163: the training of a UCIe module. A PLL loss, a retrain and a lane repair of a running module are link resets that lead back to TRAIN; training answers the features the partner asks for, takes the highest common rate that trains and enters CR_WAIT under a new epoch, sending CR_INIT with the free buffer where the gates are open; a failed attempt records its cause and stays in ERROR where RETRY is 0. Clearing EN and setting a loop-back are link resets: EN 0 leads to RESET, modes 1 and 3 to LOOP, mode 2 on an ACTIVE module to a new handshake (assumption 24). Completion is stated for: hostPllLoss, hostPllLock, trained, trainFail, repair, x40Cap, hpCfgEn, hpLbMode, sidebandTrained, retrain. -/
def Obligations.HostModuleTraining : Prop := ∀ (s : State) (n : HpId), s.keep.mgmtOn = true → s.keep.domainsOn = true → s.get (Reg.HP_STAT_WIDE n) = 0 →
  (s.hpState n ∈ [4, 5, 6] → ∃ t, exec (.hostPllLoss n) s = .next t ∧ t.hpState n = 3 ∧ bitOf (t.get Reg.CLK_HOST_LOCK) n = false ∧
    bitOf (t.get (Reg.EVT (16 + n))) 4 = true ∧ bitOf (t.get (Reg.EVT (16 + n))) 2 = true ∧ HpReset s t n) ∧
  (s.hpState n ≠ 2 → ∃ t, exec (.hostPllLock n) s = .next t ∧ bitOf (t.get Reg.CLK_HOST_LOCK) n = true ∧ OnlyRegs s t [Reg.CLK_HOST_LOCK]) ∧
  (s.hpState n = 2 → s.get (Reg.HP_CFG_EN n) = 1 → 2 ≤ s.power → s.keep.inTrap = false → (s.hpAt n).sbUp = true → s.held n = false → s.get (Reg.HP_LB_MODE n) = 0 →
    ∃ t, exec (.hostPllLock n) s = .next t ∧ t.hpState n = 3) ∧
  (∃ t, exec (.sidebandTrained n) s = .next t ∧ (t.hpAt n).sbUp = true ∧ (∀ m, m ≠ n.val → t.hpAt m = s.hpAt m)) ∧
  (s.hpState n ≤ 2 → s.get (Reg.HP_CFG_EN n) = 1 → 2 ≤ s.power → s.keep.inTrap = false → bitOf (s.get Reg.CLK_HOST_LOCK) n = true → s.held n = false → s.get (Reg.HP_LB_MODE n) = 0 →
    ∃ t, exec (.sidebandTrained n) s = .next t ∧ t.hpState n = 3) ∧
  (∃ t, exec (.x40Cap n) s = .next t ∧ (t.hpAt n).x40 = true ∧ t = { s with hp := t.hp } ∧ (∀ m, m ≠ n.val → t.hpAt m = s.hpAt m)) ∧
  (∀ partner r, s.hpState n = 3 → bitOf (s.get Reg.CLK_HOST_LOCK) n = true → s.keep.inTrap = false → s.trainRate n partner = some r → s.gates = true →
    ∃ t, exec (.trained n partner) s = .next t ∧ t.hpState n = 4 ∧ t.get (Reg.HP_STAT_RATE n) = r % 8 ∧ t.get (Reg.HP_STAT_X40_FAIL n) = b2n ((s.commonRates n partner).contains 5 && r != 5) ∧
      t.get (Reg.HP_STAT_EPOCH n) = (s.get (Reg.HP_STAT_EPOCH n) + 1) % 16 ∧ (t.hpAt n).crSent = true ∧
      t.get (Reg.HP_CR_ING_GRANTED n) = (4096 - s.get (Reg.HP_CR_ING_OCC n)) ∧
      ((s.hpAt n).sbUp = true → t.sent.head? = some (.sbMsg n 0x10 (4096 - s.get (Reg.HP_CR_ING_OCC n) + 65536 * t.get (Reg.HP_STAT_EPOCH n)))) ∧
      (partner.asks ≠ [] → .paramAnswer n (partner.asks.map fun f => (f, ucieHas f)) ∈ t.sent)) ∧
  (∀ c, s.hpState n = 3 → s.get (Reg.HP_CFG_RETRY n) = 0 → ∃ t, exec (.trainFail n c) s = .next t ∧ t.hpState n = 8 ∧ t.get (Reg.HP_TRAIN_CAUSE n) = c ∧
    t.get (Reg.HP_TRAIN_FAIL_CNT n) = min (s.get (Reg.HP_TRAIN_FAIL_CNT n) + 1) 65535 ∧ bitOf (t.get (Reg.EVT (16 + n))) 1 = true) ∧
  (s.hpState n ∈ [4, 5, 6] → ∃ t, exec (.retrain n) s = .next t ∧ t.hpState n = 3 ∧ HpReset s t n) ∧
  (∀ dir lane, s.hpState n ∈ [4, 5, 6] → ∃ t, exec (.repair n dir lane true) s = .next t ∧ t.hpState n = 3 ∧ HpReset s t n ∧
    t.get (Reg.HP_REPAIR_LAST_LANE n) = lane % 64 ∧ t.get (Reg.HP_REPAIR_LAST_DIR n) = b2n (dir == .rx) ∧ bitOf (t.get (Reg.EVT (16 + n))) 3 = true) ∧
  (∀ dir lane, s.hpState n = 3 → ∃ t, exec (.repair n dir lane false) s = .next t ∧ t.get (Reg.HP_TRAIN_CAUSE n) = 2) ∧
  (∀ p (v : Word), s.writable p ((16 + n.val) * 4096 + 0x40) v.toNat = true → v.toNat % 2 = 0 → s.get (Reg.HP_CFG_EN n) = 1 →
    ∃ t, exec (.hpCfgEn p n v) s = .next t ∧ t.get (Reg.HP_CFG_EN n) = 0 ∧ t.hpState n = 0 ∧ HpReset s t n ∧ Answered t p 0) ∧
  (∀ p (v : Word), s.writable p ((16 + n.val) * 4096 + 0x88) v.toNat = true → v.toNat % 4 = 1 ∨ v.toNat % 4 = 3 → s.get (Reg.HP_LB_MODE n) = 0 →
    s.get (Reg.HP_CFG_EN n) = 1 → 2 ≤ s.power → s.hpState n ≠ 8 → s.held n = false → ∃ t, exec (.hpLbMode p n v) s = .next t ∧ t.get (Reg.HP_LB_MODE n) = v.toNat % 4 ∧ t.hpState n = 7 ∧ HpReset s t n ∧ Answered t p 0) ∧
  (∀ p (v : Word), s.writable p ((16 + n.val) * 4096 + 0x88) v.toNat = true → v.toNat % 4 = 2 → s.get (Reg.HP_LB_MODE n) = 0 →
    s.hpState n = 5 → ∃ t, exec (.hpLbMode p n v) s = .next t ∧ t.get (Reg.HP_LB_MODE n) = 2 ∧ t.hpState n = 4 ∧ (t.hpAt n).crSent = s.gates ∧
      t.get (Reg.HP_STAT_EPOCH n) = (s.get (Reg.HP_STAT_EPOCH n) + 1) % 16)

/-- R139: "A module trains at the highest rate that both ends advertise and that does not exceed HP_CFG.MAX_RATE (reset 32 GT/s)." A partner whose highest rate is 12 GT/s trains at 8; one whose highest is 4, or that offers no rate Isax supports, ends with cause RATE; 40 GT/s needs MAX_RATE 40, 32 GT/s advertised and X40_CAP, and falls back to 32 with X40_FAIL, which a link reset clears. R136: a rate at which the main band fails to train is degraded to the next common one. Completion is stated for: trained, retrain. -/
def Obligations.HighestCommonRate : Prop := State.reset.get (Reg.HP_CFG_MAX_RATE 0) = 4 ∧ ∀ (s : State) (n : HpId) (p : PartnerCaps),
  (∀ r, s.trainRate n p = some r → r ≤ s.get (Reg.HP_CFG_MAX_RATE n) ∧ 1 ≤ r ∧ r ≤ 5 ∧ rateOf r ∉ p.fails ∧
    (r = 1 → 8 ∈ p.rates ∨ 12 ∈ p.rates) ∧ (r = 2 → 16 ∈ p.rates) ∧ (r = 3 → 24 ∈ p.rates) ∧ (r = 4 → 32 ∈ p.rates) ∧
    (r = 5 → (s.hpAt n).x40 = true ∧ 32 ∈ p.rates) ∧
    (∀ c ∈ [(1, 8), (1, 12), (2, 16), (3, 24), (4, 32)], c.1 ≤ s.get (Reg.HP_CFG_MAX_RATE n) → c.2 ∈ p.rates → c.1 ≤ r ∨ rateOf c.1 ∈ p.fails)) ∧
  (s.get (Reg.HP_CFG_MAX_RATE n) = 5 → (s.hpAt n).x40 = true → 32 ∈ p.rates → (40 ∉ p.fails → s.trainRate n p = some 5) ∧ (40 ∈ p.fails → 32 ∉ p.fails → s.trainRate n p = some 4)) ∧
  (1 ≤ s.get (Reg.HP_CFG_MAX_RATE n) → 12 ∈ p.rates → (∀ g ∈ p.rates, g ≤ 12) → 8 ∉ p.fails → s.trainRate n p = some 1) ∧
  ((∀ g ∈ p.rates, g ∉ [8, 12, 16, 24, 32]) → s.commonRates n p = [] ∧ s.trainRate n p = none) ∧
  (s.commonRates n p = [] → ∀ c ∈ [(1, 8), (1, 12), (2, 16), (3, 24), (4, 32)], c.1 ≤ s.get (Reg.HP_CFG_MAX_RATE n) → c.2 ∉ p.rates) ∧
  (s.hpState n = 3 → s.get (Reg.HP_STAT_WIDE n) = 0 → bitOf (s.get Reg.CLK_HOST_LOCK) n = true → s.keep.inTrap = false →
    (s.commonRates n p = [] → ∃ t, exec (.trained n p) s = .next t ∧ t.get (Reg.HP_TRAIN_CAUSE n) = 1 ∧ (s.get (Reg.HP_CFG_RETRY n) = 0 → t.hpState n = 8)) ∧
    (∀ r, s.trainRate n p = some r → ∃ t, exec (.trained n p) s = .next t ∧ t.get (Reg.HP_STAT_RATE n) = r ∧
      t.get (Reg.HP_STAT_X40_FAIL n) = b2n ((s.commonRates n p).contains 5 && r != 5))) ∧
  (s.hpState n ∈ [4, 5, 6] → s.get (Reg.HP_STAT_WIDE n) = 0 → ∃ t, exec (.retrain n) s = .next t ∧ t.get (Reg.HP_STAT_X40_FAIL n) = 0)

/-- R150, R151, R152, R153: Wide ports, named by their even module. Locked lanes end Isax's pattern, failing lanes are recorded with cause WIDE_LANE; when both patterns have ended both modules enter CR_WAIT at HP_WIDE.RATE under a new epoch; a host that does not stop ends the attempt with TIMEOUT; a change of RATE is a link reset. Completion is stated for: hpWideRate, wideDeskew, widePatternEnd, wideTrainTimeout. -/
def Obligations.WidePorts : Prop := ∀ (s : State) (k : WideId), s.get (Reg.HP_STAT_WIDE (2 * k.val)) = 1 →
  (s.hpState (2 * k.val) = 3 → ∃ t, exec (.wideDeskew k []) s = .next t ∧ (t.hpAt (2 * k.val)).wideLock = true ∧
    t = { s with hp := t.hp, sent := .wideIdle (2 * k.val) :: s.sent }) ∧
  (∀ failing, failing ≠ [] → s.hpState (2 * k.val) = 3 → ∃ t, exec (.wideDeskew k failing) s = .next t ∧ t.get (Reg.HP_TRAIN_CAUSE (2 * k.val)) = 5 ∧
    t.get (Reg.HP_WIDE_FAIL_CNT (2 * k.val)) = failing.length % 512 ∧ t.get (Reg.HP_WIDE_FIRST (2 * k.val)) = failing.foldl min 255 ∧
    (t.hpAt (2 * k.val)).wideLock = false) ∧
  (s.hpState (2 * k.val) = 3 → (s.hpAt (2 * k.val)).wideLock = true → ∃ t, exec (.widePatternEnd k) s = .next t ∧
    t.hpState (2 * k.val) = 4 ∧ t.hpState (2 * k.val + 1) = 4 ∧ t.get (Reg.HP_STAT_RATE (2 * k.val)) = s.get (Reg.HP_WIDE_RATE (2 * k.val)) % 8 ∧
    t.get (Reg.HP_STAT_EPOCH (2 * k.val)) = (s.get (Reg.HP_STAT_EPOCH (2 * k.val)) + 1) % 16) ∧
  (s.hpState (2 * k.val) = 3 → (s.hpAt (2 * k.val)).wideLock = true → ∃ t, exec (.wideTrainTimeout k) s = .next t ∧ t.get (Reg.HP_TRAIN_CAUSE (2 * k.val)) = 3 ∧
    (t.hpAt (2 * k.val)).wideLock = false) ∧
  (∀ (p : Path) (v : Word) (h : 2 * k.val < 24), s.writable p ((16 + 2 * k.val) * 4096 + 0x50) v.toNat = true → v.toNat % 4 ≠ s.get (Reg.HP_WIDE_RATE (2 * k.val)) →
    ∃ t, exec (.hpWideRate p ⟨2 * k.val, h⟩ v) s = .next t ∧ t.get (Reg.HP_WIDE_RATE (2 * k.val)) = v.toNat % 4 ∧ HpReset s t (2 * k.val) ∧ Answered t p 0)

/-- R153, R155: host-port credits are neither created nor lost. Beats within their credit pass to the fabric and move blocks from granted to occupied; a complete transfer keeps them, or in loop-back mode 2 comes back as a delivery; one without credit is discarded whole, and it and an excess return set CR_VIOL and create nothing; freeing blocks moves them back; CR_INIT_ACK with the current epoch gives the egress grant and enters ACTIVE where the gates are open, a stale one is counted; a delivery needs and takes egress credit, and none goes while traffic is frozen. Where it rests on the model's own choices these are assumption 24. Completion is stated for: crInitAck, hostIngressTransfer, hostCreditReturn, hostDelivery. -/
def Obligations.HostCreditsAreConserved : Prop := ∀ (s : State) (n : HpId), s.hpIdle n = false → s.keep.mgmtOn = true →
  (∀ x (beats : List Byte) k, s.hpState n = 5 → s.gates = true → s.frozen = false → 1 ≤ beats.length / 64 → beats.length / 64 ≤ s.get (Reg.HP_CR_ING_GRANTED n) →
    s.get (Reg.HP_CR_ING_GRANTED n) + s.get (Reg.HP_CR_ING_OCC n) ≤ 8192 → (s.hpAt n).parts.lookup x ≠ some none → k = (((s.hpAt n).parts.lookup x).getD none).getD 0 + beats.length / 64 →
    (∃ t, exec (.hostIngressTransfer n x beats false) s = .next t ∧ .beats n beats ∈ t.sent ∧ t.qos = s.qos ∧
      t.get (Reg.HP_CR_ING_GRANTED n) = s.get (Reg.HP_CR_ING_GRANTED n) - beats.length / 64 ∧ t.get (Reg.HP_CR_ING_OCC n) = s.get (Reg.HP_CR_ING_OCC n) + beats.length / 64 ∧
      (t.hpAt n).parts.lookup x = some (some k) ∧ (t.hpAt n).whole = (s.hpAt n).whole) ∧
    (s.get (Reg.HP_LB_MODE n) ≠ 2 → ∃ t, exec (.hostIngressTransfer n x beats true) s = .next t ∧ .beats n beats ∈ t.sent ∧ t.qos = s.qos ∧
      t.get (Reg.HP_CR_ING_GRANTED n) = s.get (Reg.HP_CR_ING_GRANTED n) - beats.length / 64 ∧ t.get (Reg.HP_CR_ING_OCC n) = s.get (Reg.HP_CR_ING_OCC n) + beats.length / 64 ∧
      (t.hpAt n).parts.lookup x = none ∧ (t.hpAt n).whole = (s.hpAt n).whole ++ [k]) ∧
    (s.get (Reg.HP_LB_MODE n) = 2 → ∃ t, exec (.hostIngressTransfer n x beats true) s = .next t ∧ (t.hpAt n).deliveries = (s.hpAt n).deliveries ++ [.looped k] ∧
      (t.hpAt n).parts.lookup x = none ∧ (t.hpAt n).whole = (s.hpAt n).whole)) ∧
  (∀ x (beats : List Byte) c, s.hpState n = 5 → s.gates = true → s.frozen = false → s.get (Reg.HP_CR_ING_GRANTED n) < beats.length / 64 → (s.hpAt n).parts.lookup x = none →
    ∃ t, exec (.hostIngressTransfer n x beats c) s = .next t ∧ bitOf (t.get (Reg.ERR (16 + n))) 8 = true ∧ Collected { s with hp := t.hp } t (16 + n) [] ∧
      (t.hpAt n).parts.lookup x = (if c then none else some none) ∧ (t.hpAt n).whole = (s.hpAt n).whole) ∧
  (∀ x (beats : List Byte) c k, s.hpState n = 5 → s.get (Reg.HP_CR_ING_GRANTED n) < beats.length / 64 → (s.hpAt n).parts.lookup x = some (some k) →
    s.get (Reg.HP_CR_ING_GRANTED n) + s.get (Reg.HP_CR_ING_OCC n) ≤ 8192 → ∃ t, exec (.hostIngressTransfer n x beats c) s = .next t ∧
      bitOf (t.get (Reg.ERR (16 + n))) 8 = true ∧ t.get (Reg.HP_CR_ING_OCC n) = s.get (Reg.HP_CR_ING_OCC n) - k ∧
      (t.hpAt n).parts.lookup x = (if c then none else some none) ∧ (t.hpAt n).whole = (s.hpAt n).whole) ∧
  (∀ b, s.hpState n = 5 → ∃ t, exec (.hostCreditReturn n b) s = .next t ∧
    (s.get (Reg.HP_CR_AUDIT2_EGR n) = 0 → (t.hpAt n).egr = (s.hpAt n).egr + b ∧ t.regs = s.regs) ∧
    (0 < s.get (Reg.HP_CR_AUDIT2_EGR n) → (t.hpAt n).egr = min ((s.hpAt n).egr + b) (s.get (Reg.HP_CR_AUDIT2_EGR n)) ∧
      (s.get (Reg.HP_CR_AUDIT2_EGR n) < (s.hpAt n).egr + b → bitOf (t.get (Reg.ERR (16 + n))) 8 = true) ∧
      ((s.hpAt n).egr + b ≤ s.get (Reg.HP_CR_AUDIT2_EGR n) → t.regs = s.regs))) ∧
  (∀ b, b ≤ s.get (Reg.HP_CR_ING_OCC n) → s.get (Reg.HP_CR_ING_GRANTED n) + s.get (Reg.HP_CR_ING_OCC n) ≤ 8192 → (s.hpAt n).crSent = true →
    (s.freeIngress n b).get (Reg.HP_CR_ING_GRANTED n) + (s.freeIngress n b).get (Reg.HP_CR_ING_OCC n) = s.get (Reg.HP_CR_ING_GRANTED n) + s.get (Reg.HP_CR_ING_OCC n)) ∧
  (∀ v : Word, s.keep.domainsOn = true → v.toNat / 65536 % 16 ≠ s.get (Reg.HP_STAT_EPOCH n) → ∃ t, exec (.crInitAck n v) s = .next t ∧
    t.get (Reg.HP_SB_UNK n) = min (s.get (Reg.HP_SB_UNK n) + 1) 65535 ∧ OnlyRegs s t [Reg.HP_SB_UNK n]) ∧
  (∀ v : Word, s.keep.domainsOn = true → v.toNat / 65536 % 16 = s.get (Reg.HP_STAT_EPOCH n) → s.hpState n = 4 → (s.hpAt n).crSent = true → (s.hpAt n).crAcked = false →
    ∃ t, exec (.crInitAck n v) s = .next t ∧ t.hpState n = (if s.gates then 5 else 4) ∧ (t.hpAt n).crAcked = true ∧ (t.hpAt n).egr = v.toNat % 65536 ∧ t.get (Reg.HP_CR_AUDIT2_EGR n) = v.toNat % 65536) ∧
  (∀ d ds, (s.hpAt n).deliveries = d :: ds → s.hpState n = 5 → s.frozen = false → d.blocks ≤ (s.hpAt n).egr → ∃ t, exec (.hostDelivery n) s = .next t ∧
    (t.hpAt n).deliveries = ds ∧ (t.hpAt n).egr = (s.hpAt n).egr - d.blocks ∧ .delivered n d ∈ t.sent ∧ SameRegs s t [Reg.TWIN_EPOCH_S_EPOCH]) ∧
  (∀ d ds, (s.hpAt n).deliveries = d :: ds → s.hpState n = 5 → (s.hpAt n).egr < d.blocks ∨ s.frozen = true → exec (.hostDelivery n) s = .next s)

/-- R136, R142, R146, R148, R149: heat hints, unknown messages and link power. A hint with a lead waits for it, at most four at a time, and its step is added to the host-power estimate; an unknown vendor message is counted; L1 keeps credits and data, and a delivery that waits in L1 makes Isax ask to leave it; a request for L2 is refused. Where it rests on the model's own choices these are assumption 27. Completion is stated for: heatHint, hintDue, unknownVendorMessage, l1Request, l1Entry, l1Exit, l2Request. -/
def Obligations.HintsAndLinkPower : Prop := ∀ (s : State) (n : HpId),
  (∀ v : Word, s.hpState n ∈ [4, 5, 6] → s.get (Reg.HP_HINT_EN n) = 1 → s.hpIdle n = false → s.held n = false → s.keep.inTrap = false → (s.hpAt n).sbUp = true → v.toNat / 64 % 4 = 0 →
    (1 ≤ v.toNat / 256 % 256 → (s.hpAt n).hints.length < 4 → ∃ t, exec (.heatHint n v) s = .next t ∧
      (t.hpAt n).hints = (s.hpAt n).hints ++ [⟨s.now + 100 * (v.toNat / 256 % 256), signed6 v.toNat * (2 ^ s.get (Reg.HP_HINT_UNIT n) : Nat)⟩] ∧
      t.get (Reg.HP_HINT_LAST_PEND n) = (s.hpAt n).hints.length + 1 ∧ t.hostPower = s.hostPower ∧ OnlyRegs { s with hp := t.hp } t [Reg.HP_HINT_LAST_MSG n, Reg.HP_HINT_LAST_PEND n]) ∧
    (1 ≤ v.toNat / 256 % 256 → 4 ≤ (s.hpAt n).hints.length → ∃ t, exec (.heatHint n v) s = .next t ∧
      t.get (Reg.HP_HINT_DROP n) = min (s.get (Reg.HP_HINT_DROP n) + 1) 65535 ∧ t.hp = s.hp ∧ t.hostPower = s.hostPower) ∧
    (v.toNat / 256 % 256 = 0 → ∃ t, exec (.heatHint n v) s = .next t ∧ t.hostPower = s.hostPower + signed6 v.toNat * (2 ^ s.get (Reg.HP_HINT_UNIT n) : Nat))) ∧
  (∀ h, leastBy Hint.due (s.hpAt n).hints = some h → ∃ t, exec (.hintDue n) s = .next t ∧ (t.hpAt n).hints = (s.hpAt n).hints.erase h ∧ t.hostPower = s.hostPower + h.step) ∧
  ((s.hpAt n).sbUp = true → ∃ t, exec (.unknownVendorMessage n) s = .next t ∧ t.get (Reg.HP_SB_UNK n) = min (s.get (Reg.HP_SB_UNK n) + 1) 65535 ∧ OnlyRegs s t [Reg.HP_SB_UNK n]) ∧
  (s.hpState n = 5 → s.get (Reg.HP_CFG_L1_EN n) = 1 → s.get (Reg.HP_STAT_WIDE n) = 0 → (s.hpAt n).deliveries = [] → ∃ t, exec (.l1Request n) s = .next t ∧
    (t.hpAt n).l1Req = true ∧ t.sent = .l1Request n :: s.sent ∧ t.regs = s.regs) ∧
  (s.hpState n = 5 → s.get (Reg.HP_STAT_WIDE n) = 0 → ∃ t, exec (.l1Entry n) s = .next t ∧ t.hpState n = 6 ∧ OnlyRegs { s with hp := t.hp, sent := t.sent } t [Reg.HP_STAT_STATE n] ∧
    t.sent = (if (s.hpAt n).deliveries = [] then s.sent else .l1Leave n :: s.sent) ∧ t.hpAt n = { s.hpAt n with l1Req := false }) ∧
  (∀ d, s.hpState n = 6 → (s.deliver n d).sent = .l1Leave n :: s.sent) ∧
  (s.hpState n = 6 → s.get (Reg.HP_STAT_WIDE n) = 0 → ∃ t, exec (.l1Exit n) s = .next t ∧ t.hpState n = 5 ∧ OnlyRegs s t [Reg.HP_STAT_STATE n]) ∧
  ((s.hpAt n).sbUp = true → ∃ t, exec (.l2Request n) s = .next t ∧ t = { s with sent := .l2Refused n :: s.sent })

/-- R66, R159, R160, R161: the urgency wires. A filtered edge is shown, counted and taken unless the wire is masked, stuck or waiting; a wire active for STUCK_LIM µs, which is clamped to 10 to 1,000,000 and resets to 1000, raises URG_STUCK, is counted and taken as inactive until it has been inactive for 10 µs; the 1001st edge of a window masks the wire until software unmasks it, and no later edge of the window storms again. Where it rests on the model's own choices these are assumption 24. Completion is stated for: urgEdge, urgStuck, urgInactive, urgStorm, urgUnmask. -/
def Obligations.UrgencyWires : Prop := ∀ (s : State) (n : HpId),
  (∀ level, s.coreClocked = true → s.urgSeen n = true → s.held n = false → (s.hpAt n).urgEdges ≠ 1000 → ∃ t, exec (.urgEdge n level) s = .next t ∧
    t = { s with hp := t.hp } ∧ (∀ m, m ≠ n.val → t.hpAt m = s.hpAt m) ∧ (t.hpAt n).level = level ∧ (t.hpAt n).urgEdges = (s.hpAt n).urgEdges + 1 ∧
    (t.hpAt n).urg = (level && decide (s.get (Reg.HP_URG_MASK n) = 0) && decide (s.get (Reg.HP_URG_STUCK n) = 0) && !(s.hpAt n).urgWait)) ∧
  (∀ level, s.coreClocked = true → s.urgSeen n = false → ∃ t, exec (.urgEdge n level) s = .next t ∧ t = { s with hp := t.hp } ∧ t.hpAt n = { s.hpAt n with level := level }) ∧
  ((s.hpAt n).urg = true → s.urgIn n = true → s.keep.mgmtOn = true → ∃ t, exec (.urgStuck n) s = .next t ∧ t.get (Reg.HP_URG_STUCK n) = 1 ∧ (t.hpAt n).urg = false ∧
    bitOf (t.get (Reg.EVT (16 + n.val))) 5 = true ∧ t.get (Reg.HP_URG_CNT_STUCK n) = min (s.get (Reg.HP_URG_CNT_STUCK n) + 1) 65535) ∧
  (s.urgSeen n = true → (s.hpAt n).level = false → s.get (Reg.HP_URG_MASK n) = 0 → ∃ t, exec (.urgInactive n) s = .next t ∧ t.get (Reg.HP_URG_STUCK n) = 0 ∧
    (t.hpAt n).urgWait = false ∧ OnlyRegs { s with hp := t.hp } t [Reg.HP_URG_STUCK n]) ∧
  (∀ c ∈ [Instr.urgStorm n, .urgEdge n (!(s.hpAt n).level)], s.coreClocked = true → s.urgSeen n = true → (s.hpAt n).urgEdges = 1000 → s.get (Reg.HP_URG_MASK n) = 0 → s.keep.mgmtOn = true →
    ∃ t, exec c s = .next t ∧ t.get (Reg.HP_URG_MASK n) = 1 ∧ (t.hpAt n).urg = false ∧ (t.hpAt n).urgEdges = 1001 ∧
      bitOf (t.get (Reg.EVT (16 + n.val))) 6 = true ∧ t.get (Reg.HP_URG_CNT_STORM n) = min (s.get (Reg.HP_URG_CNT_STORM n) + 1) 65535) ∧
  (State.reset.get (Reg.HP_URG_STUCK_LIM n) = 1000 ∧ ∀ p (v : Word), s.writable p ((16 + n.val) * 4096 + 0x60) v.toNat = true →
    ∃ t, exec (.urgUnmask p n v) s = .next t ∧ Answered t p 0 ∧ t.get (Reg.HP_URG_STUCK_LIM n) = min 1000000 (max 10 (v.toNat % 2 ^ 20)) ∧
      (bitOf v.toNat 25 = true → s.get (Reg.HP_URG_MASK n) = 1 → t.get (Reg.HP_URG_MASK n) = 0 ∧ (t.hpAt n).urgWait = true))
/-- R222, R223, R224, Table STRM-1: opening and closing. An open of a FREE SID gives an OPEN context with sequence and generation 0; ANY takes the lowest FREE SID; a Larder without a FREE context, a SID in use and a fenced peer change nothing but what they count and answer. A close frees a RECV, an ORPHANED or an idle SEND context and leaves a SEND context with frames out in CLOSING; a forced close frees at once. Each primitive frees the ingress transfer that brought it. Where it rests on the model's own choices these are assumptions 19 and 24. Completion is stated for: streamOpen, streamClose, forcedClose. -/
def Obligations.StreamsOpenAndClose : Prop := ∀ (s : State) (n : HpId), s.hostOn n = true →
  (∀ req sid, req.sid = some sid → sid < 2097152 → s.strm.larder.length < 2097152 → (s.ctxAt sid).state = 0 → s.fenced req.peerNode = false →
    ∃ t, exec (.streamOpen n req) s = .next t ∧ s.sends t (.opened n 0 sid) ∧ OnlyCtx s t sid ∧ SameRegs s t (Reg.TWIN_EPOCH_S_EPOCH :: bufFlds n) ∧
      t.ctxAt sid = { state := 1, recv := req.recv, sel := req.sel, brynn := req.brynn, tc := req.tc, peerNode := req.peerNode, peerSid := req.peerSid, module := n }) ∧
  (∀ req, req.sid = none → Table.wf {} s.strm.larder = true → (∀ e ∈ s.strm.larder, e.2.state ≠ 0) → s.strm.larder.length < 2097152 → s.fenced req.peerNode = false →
    ∃ t sid, exec (.streamOpen n req) s = .next t ∧ s.sends t (.opened n 0 sid) ∧ sid < 2097152 ∧ (s.ctxAt sid).state = 0 ∧
      (∀ k, k < sid → (s.ctxAt k).state ≠ 0) ∧ (t.ctxAt sid).state = 1 ∧ (t.ctxAt sid).seq = 0 ∧ (t.ctxAt sid).gen = 0 ∧ OnlyCtx s t sid) ∧
  (∀ req, 2097152 ≤ s.strm.larder.length → s.keep.mgmtOn = true → ∃ t, exec (.streamOpen n req) s = .next t ∧ s.sends t (.opened n 1 0) ∧ t.strm = s.strm ∧
    t.get Reg.STRM_CNT_CTX_COUNT = min (s.get Reg.STRM_CNT_CTX_COUNT + 1) (2 ^ 32 - 1) ∧ bitOf (t.get (Reg.EVT 9)) 0 = true) ∧
  (∀ req sid, req.sid = some sid → sid < 2097152 → s.strm.larder.length < 2097152 → (s.ctxAt sid).state ≠ 0 →
    ∃ t, exec (.streamOpen n req) s = .next t ∧ s.sends t (.opened n 2 sid) ∧ t.strm = s.strm ∧ SameRegs s t (bufFlds n) ∧
      ((s.hpAt n).whole = [] → t = { s with sent := .opened n 2 sid :: s.sent })) ∧
  (∀ req sid, req.sid = some sid → sid < 2097152 → s.strm.larder.length < 2097152 → (s.ctxAt sid).state = 0 → s.fenced req.peerNode = true →
    ∃ t, exec (.streamOpen n req) s = .next t ∧ s.sends t (.opened n 3 0) ∧ t.strm = s.strm ∧ SameRegs s t (bufFlds n) ∧
      ((s.hpAt n).whole = [] → t = { s with sent := .opened n 3 0 :: s.sent })) ∧
  (∀ sid, (s.ctxAt sid).state ∉ [0, 3] → ((s.ctxAt sid).recv = true ∨ (s.ctxAt sid).state = 4 ∨ (s.ctxAt sid).unack = []) →
    ∃ t, exec (.streamClose n sid) s = .next t ∧ t.ctxAt sid = {} ∧ OnlyCtx s t sid ∧ SameRegs s t (Reg.TWIN_EPOCH_S_EPOCH :: bufFlds n) ∧ t.op = s.op) ∧
  (∀ sid, (s.ctxAt sid).state ∈ [1, 2] → (s.ctxAt sid).recv = false → (s.ctxAt sid).unack ≠ [] →
    ∃ t, exec (.streamClose n sid) s = .next t ∧ t.ctxAt sid = { s.ctxAt sid with state := 3 } ∧ OnlyCtx s t sid ∧ t.op = s.op) ∧
  (∀ p sid, s.writable p 0x905C 1 = true → s.get Reg.STRM_SEL_SID = sid → (s.ctxAt sid).state ≠ 0 → ∃ t, exec (.forcedClose p) s = .next t ∧
    t.ctxAt sid = {} ∧ OnlyCtx s t sid ∧ Answered t p 0 ∧ ∀ u ∈ (s.ctxAt sid).unack, u.slot < 4096 → tget none (t.opAt u.port).pantry u.slot = none)

/-- R224, R225, R226, R227, R237, R243, R248: sending. A send takes the stream's next sequence, the lowest free slot of its port's Pantry and a request at the intake in its master's name, which will free the blocks that brought it; with no slot free it waits at the intake for one; one to the chiplet itself takes its sequence and no port; the last sequence of a generation leaves the context in WRAP. A send on a context that is not open is answered NOT_OPEN, and one at its window or in WRAP stalls; neither changes anything else of the streams. Where it rests on the model's own choices these are assumptions 19, 20 and 24. Completion is stated for: streamSend. -/
def Obligations.SendsTakeSequenceSlotAndPlace : Prop := ∀ (s : State) (n : HpId) (sid : Nat) (payload : List Byte),
  s.hostOn n = true → payloadOk (s.ctxAt sid).brynn payload = true →
  ((s.ctxAt sid).recv = false → (s.ctxAt sid).state = 1 → (s.ctxAt sid).live.length < s.get Reg.STRM_CFG_WIN →
    (∀ port dl u, (s.ctxAt sid).peerNode ≠ s.get Reg.ROUTE_NODE_NODE → s.pickRoute (s.ctxAt sid).peerNode (s.ctxAt sid).peerSid false = (some (port, dl), u) →
      ((s.opAt port).pantry.length < 4096 → s.sendHeld sid = false → ∃ t slot f, exec (.streamSend n sid payload) s = .next t ∧
        slot = lowestFree 0 ((s.opAt port).pantry.map (·.1)) ∧ tget none (t.opAt port).pantry slot = some f ∧ f.payload = payload ∧ f.ftype = 0 ∧
        f.seq = (s.ctxAt sid).seq ∧ f.dst = (s.ctxAt sid).peerNode ∧ f.dsid = (s.ctxAt sid).peerSid ∧ f.hop = s.get Reg.ROUTE_CFG_HOP ∧ f.rpl = false ∧
        (∃ q ∈ (t.point 0).waiting, q.item = .enter port slot ∧ q.master = n ∧ q.cost = payload.length / 64 ∧ q.ing = (s.hpAt n).whole.headD 0) ∧
        (t.hpAt n).whole = (s.hpAt n).whole.tail ∧ (t.ctxAt sid).seq = ((s.ctxAt sid).seq + 1) % seqMod (s.ctxAt sid).brynn ∧
        (t.ctxAt sid).state = (if (s.ctxAt sid).seq = seqMod (s.ctxAt sid).brynn - 1 then 2 else 1) ∧
        (t.ctxAt sid).unack.length = (s.ctxAt sid).unack.length + 1 ∧ OnlyCtx s t sid) ∧
      (4096 ≤ (s.opAt port).pantry.length ∨ s.sendHeld sid = true → ∃ t, exec (.streamSend n sid payload) s = .next t ∧ t.op = s.op ∧ t.strm.larder = s.strm.larder ∧
        ∃ q ∈ (t.point 0).waiting, q.item = .hold sid payload ∧ q.master = n)) ∧
    ((s.ctxAt sid).peerNode = s.get Reg.ROUTE_NODE_NODE → ∃ t f, exec (.streamSend n sid payload) s = .next t ∧ t.op = s.op ∧ f.payload = payload ∧ f.seq = (s.ctxAt sid).seq ∧
      (∃ q ∈ (t.point 0).waiting, q.item = .own sid f ∧ q.master = n) ∧ (t.ctxAt sid).seq = ((s.ctxAt sid).seq + 1) % seqMod (s.ctxAt sid).brynn ∧ OnlyCtx s t sid)) ∧
  ((s.ctxAt sid).recv = true ∨ (s.ctxAt sid).state ∉ [1, 2] → ∃ t, exec (.streamSend n sid payload) s = .next t ∧ s.sends t (.notOpen n sid) ∧ t.strm = s.strm ∧
    SameRegs s t (bufFlds n) ∧ ((s.hpAt n).whole = [] → t = { s with sent := .notOpen n sid :: s.sent })) ∧
  ((s.ctxAt sid).recv = false → (s.ctxAt sid).state = 2 ∨ ((s.ctxAt sid).state = 1 ∧ s.get Reg.STRM_CFG_WIN ≤ (s.ctxAt sid).live.length) →
    ∃ t, exec (.streamSend n sid payload) s = .next t ∧ t = { s with sent := .stalled n :: s.sent })

/-- R225, R229, R230, R234, R235: a DATA frame for this node against its context. In sequence it is delivered and CUM advances over it and over the held frame that follows; ahead it is held under selective acknowledgement and discarded otherwise; a duplicate is counted and acknowledged again; a frame of no context, or outside the window, is counted and not acknowledged; a full reorder store discards the frame. Completion is stated for: data. -/
def Obligations.DataMeetsItsContext : Prop := ∀ (s u : State) (n : OpId) (f : Frame) (c : Ctx) (d : Nat),
  f.dst = s.get Reg.ROUTE_NODE_NODE → f.ftype = 0 → f.cut = false → s.intake n f = true → u = s.taken n f → c = u.ctxAt f.dsid →
  d = (f.seq + seqMod c.brynn - c.seq) % seqMod c.brynn →
  (f.ackV = false → u.strm = s.strm ∧ u.regs = s.regs) ∧
  (c.recv = false ∨ c.state ≠ 1 ∨ c.peerNode ≠ f.src → ∃ t, exec (.data n f) s = .next t ∧
    t.get Reg.STRM_CNT_NOSTR_COUNT = min (u.get Reg.STRM_CNT_NOSTR_COUNT + 1) (2 ^ 32 - 1) ∧ OnlyRegs u t [Reg.STRM_CNT_NOSTR_COUNT]) ∧
  (c.recv = true → c.state = 1 → c.peerNode = f.src → u.held c.module = false → c.resume = 0 → u.feedOf f.dsid = none →
    (d = 0 → c.held = [] → ∃ t, exec (.data n f) s = .next t ∧ (t.ctxAt f.dsid).seq = (c.seq + 1) % seqMod c.brynn ∧
      (t.ctxAt f.dsid).gen = (if (c.seq + 1) % seqMod c.brynn = 0 then (c.gen + 1) % 256 else c.gen) ∧
      (t.hpAt c.module).deliveries = (u.hpAt c.module).deliveries ++ [.stream f.dsid c.seq c.gen f.payload] ∧
      (u.warm = false → f.src ≠ u.get Reg.ROUTE_NODE_NODE → f.dsid ∈ t.strm.due) ∧ OnlyCtx u t f.dsid) ∧
    (∀ p, d = 0 → c.held = [((c.seq + 1) % seqMod c.brynn, p)] → ∃ t, exec (.data n f) s = .next t ∧
      (t.ctxAt f.dsid).seq = (c.seq + 2) % seqMod c.brynn ∧ (t.ctxAt f.dsid).held = [] ∧
      (∃ g, (t.hpAt c.module).deliveries = (u.hpAt c.module).deliveries ++ [.stream f.dsid c.seq c.gen f.payload, .stream f.dsid ((c.seq + 1) % seqMod c.brynn) g p])) ∧
    (1 ≤ d → d ≤ 4095 → u.selective c = true → (∀ h ∈ c.held, h.1 ≠ f.seq) → u.robUsed + f.payload.length / 64 ≤ 262144 →
      ∃ t, exec (.data n f) s = .next t ∧ (f.seq, f.payload) ∈ (t.ctxAt f.dsid).held ∧ (∀ h ∈ c.held, h ∈ (t.ctxAt f.dsid).held) ∧
        (t.ctxAt f.dsid).held.length = c.held.length + 1 ∧ (t.ctxAt f.dsid).seq = c.seq ∧ (f.src ≠ u.get Reg.ROUTE_NODE_NODE → f.dsid ∈ t.strm.due) ∧ t.hp = u.hp ∧ t.regs = u.regs) ∧
    (1 ≤ d → d ≤ 4095 → u.selective c = false → ∃ t, exec (.data n f) s = .next t ∧ (f.src ≠ u.get Reg.ROUTE_NODE_NODE → f.dsid ∈ t.strm.due) ∧ t.strm.larder = u.strm.larder ∧ t.regs = u.regs ∧ t.hp = u.hp) ∧
    ((1 ≤ d ∧ d ≤ 4095 ∧ u.selective c = true ∧ ∃ h ∈ c.held, h.1 = f.seq) ∨ (4095 < d ∧ behind (seqMod c.brynn) f.seq c.seq = true) →
      ∃ t, exec (.data n f) s = .next t ∧ (f.src ≠ u.get Reg.ROUTE_NODE_NODE → f.dsid ∈ t.strm.due) ∧ t.strm.larder = u.strm.larder ∧ t.hp = u.hp ∧
        t.get Reg.STRM_CNT_DUP_COUNT = min (u.get Reg.STRM_CNT_DUP_COUNT + 1) (2 ^ 32 - 1) ∧ SameRegs u t [Reg.STRM_CNT_DUP_COUNT]) ∧
    (4095 < d → behind (seqMod c.brynn) f.seq c.seq = false → ∃ t, exec (.data n f) s = .next t ∧ OnlyRegs u t [Reg.STRM_CNT_NOSTR_COUNT] ∧
      t.get Reg.STRM_CNT_NOSTR_COUNT = min (u.get Reg.STRM_CNT_NOSTR_COUNT + 1) (2 ^ 32 - 1)) ∧
    (1 ≤ d → d ≤ 4095 → u.selective c = true → (∀ h ∈ c.held, h.1 ≠ f.seq) → 262144 < u.robUsed + f.payload.length / 64 →
      ∃ t, exec (.data n f) s = .next t ∧ OnlyRegs u t [Reg.STRM_CNT_ROB_COUNT] ∧ t.get Reg.STRM_CNT_ROB_COUNT = min (u.get Reg.STRM_CNT_ROB_COUNT + 1) (2 ^ 32 - 1)))

/-- R227, R230, R231, R232, R233, R236: acknowledgements and replays. A valid acknowledgement releases the frames behind its point and inside its ranges, ends a drained generation and frees a drained closing context; an invalid one is counted; at the end of the window a due acknowledgement leaves in an ACK frame; a timer that expires replays from the slot over the route of now; the replay limit latches the SID. Where it rests on the model's own choices these are assumptions 21 and 23. Completion is stated for: ackWindow, ack, replayTimer, replayLim. -/
def Obligations.AcknowledgementsReleaseAndTimersReplay : Prop := ∀ s : State, s.gates = true → s.frozen = false →
  (∀ (n : OpId) f u a rs, f.dst = s.get Reg.ROUTE_NODE_NODE → f.ftype = 4 → f.cut = false → s.intake n f = true → u = s.taken n f → ackRecords f.payload = a :: rs → (∀ r ∈ rs, r.v = false) →
    a.v = true → u.capable n 0 = true ∨ a.nr = 0 →
    (u.ackValid f.src a = false → ∃ t, exec (.ack n f) s = .next t ∧ OnlyRegs u t [Reg.STRM_CNT_ACKBAD_COUNT] ∧
      t.get Reg.STRM_CNT_ACKBAD_COUNT = min (u.get Reg.STRM_CNT_ACKBAD_COUNT + 1) (2 ^ 32 - 1)) ∧
    (u.ackValid f.src a = true → behind (seqMod (u.ctxAt a.sid).brynn) a.cum (u.ctxAt a.sid).acked = true → exec (.ack n f) s = .next u) ∧
    (u.ackValid f.src a = true → behind (seqMod (u.ctxAt a.sid).brynn) a.cum (u.ctxAt a.sid).acked = false → u.warm = false →
      ((u.ctxAt a.sid).state = 1 → ∃ t, exec (.ack n f) s = .next t ∧ (t.ctxAt a.sid).acked = a.cum ∧ OnlyCtx u t a.sid ∧
        ∀ x, x ∈ (t.ctxAt a.sid).unack ↔ x ∈ (u.ctxAt a.sid).unack ∧ behind (seqMod (u.ctxAt a.sid).brynn) x.seq a.cum = false ∧
          inRanges (seqMod (u.ctxAt a.sid).brynn) a.cum (a.ranges.take a.nr) x.seq = false) ∧
      ((u.ctxAt a.sid).state = 2 → (∀ x ∈ (u.ctxAt a.sid).unack, behind (seqMod (u.ctxAt a.sid).brynn) x.seq a.cum = true) → u.keep.mgmtOn = true →
        ∃ t, exec (.ack n f) s = .next t ∧ (t.ctxAt a.sid).state = 1 ∧ (t.ctxAt a.sid).gen = ((u.ctxAt a.sid).gen + 1) % 256 ∧ (t.ctxAt a.sid).seq = 0 ∧
          (t.ctxAt a.sid).unack = [] ∧ bitOf (t.get (Reg.EVT 9)) 3 = true) ∧
      ((u.ctxAt a.sid).state = 3 → (∀ x ∈ (u.ctxAt a.sid).unack, behind (seqMod (u.ctxAt a.sid).brynn) x.seq a.cum = true) →
        ∃ t, exec (.ack n f) s = .next t ∧ t.ctxAt a.sid = {} ∧ ∀ x ∈ (u.ctxAt a.sid).unack, x.slot < 4096 → tget none (t.opAt x.port).pantry x.slot = none))) ∧
  (∀ sid port dl u, s.strm.due = [sid] → (∀ e ∈ s.strm.chans, e.2.due = false) → s.pickRoute (s.ctxAt sid).peerNode 0 false = (some (port, dl), u) →
    ∃ t f, exec .ackWindow s = .next t ∧ t.strm.due = [] ∧ (t.ctxAt sid).acked = (s.ackOf port sid).1 ∧ t.leaves port f ∧ f.ftype = 4 ∧ f.dst = (s.ctxAt sid).peerNode ∧
      f.payload = pad64 (toBytes (ackBytes (s.ctxAt sid).peerSid (s.ackOf port sid).1 (s.ackOf port sid).2))) ∧
  (s.strm.due = [] → (∀ e ∈ s.strm.chans, e.2.due = false) → exec .ackWindow s = .next s) ∧
  (∀ sid port dl v u f, (s.ctxAt sid).recv = false → (s.ctxAt sid).state ∈ [1, 2, 3] → (s.ctxAt sid).unack = [u] → u.ranged = false → u.slot < 4096 → u.master ≠ 24 →
    tget none (s.opAt u.port).pantry u.slot = some f → s.pickRoute (s.ctxAt sid).peerNode (s.ctxAt sid).peerSid false = (some (port, dl), v) →
    (∀ q ∈ (s.point (1 + port)).waiting, q.ofSlot u.port u.slot = false) → (∀ q ∈ (s.point 0).waiting, q.enters u.port u.slot = false) → ∃ t, exec (.replayTimer (.stream sid)) s = .next t ∧
      t.asks port u.port u.slot true ∧ (t.ctxAt sid).unack = [{ u with last := port, replays := u.replays + 1 }] ∧
      tget none (t.opAt u.port).pantry u.slot = some { f with rpl := true, rl := b2n dl } ∧
      t.get Reg.STRM_CNT_REPLAY_COUNT = min (s.get Reg.STRM_CNT_REPLAY_COUNT + 1) (2 ^ 32 - 1) ∧ OnlyCtx s t sid) ∧
  (∀ node port dl v, (s.chanAt (2 * node)).unack = [] → s.strm.resetOwed.contains node = true → s.pickRoute node 0 false = (some (port, dl), v) →
    ∃ t f, exec (.replayTimer (.channel node)) s = .next t ∧ t.leaves port f ∧ f.ftype = 1 ∧ f.dst = node ∧ f.payload = resetPayload (s.get Reg.TWIN_PROM_COUNT)) ∧
  (∀ sid u, s.get Reg.STRM_CFG_REPLAY_LIM ≠ 0 → u ∈ (s.ctxAt sid).unack → u.ranged = false → s.get Reg.STRM_CFG_REPLAY_LIM ≤ u.replays → sid < 2097152 → s.keep.mgmtOn = true →
    ∃ t, exec (.replayLim sid) s = .next t ∧ t.get Reg.STRM_LIM_SID_SID = sid ∧ t.get Reg.STRM_LIM_SID_VALID = 1 ∧ bitOf (t.get (Reg.EVT 9)) 2 = true ∧ t.strm = s.strm)

/-- R39, R199, R200, R244, R245, R249: what arrives for another node. A kept frame is routed on with its hop count lowered and asks for a transmitter as the relay; one at hop 0, or without an alternate, is discarded and counted; a stomped, spoilt or fenced frame goes no further; an uncorrectable codeword is counted, and a frame of it for this node is lost uncounted. Where it rests on the model's own choices these are assumption 22. Completion is stated for: codewordUncorrectable, relayForward. -/
def Obligations.RelayedFramesGoOnOrAreCounted : Prop := ∀ (s : State) (n : OpId) (f : Frame), f.dst ≠ s.get Reg.ROUTE_NODE_NODE → f.ftype ≠ 5 →
  (∀ port dl u, s.intake n f = true → f.hop ≠ 0 → s.pickRoute f.dst f.dsid false = (some (port, dl), u) → s.brynn n = s.brynn port → ∃ t, exec (.relayForward n f) s = .next t ∧
    (∃ q ∈ (t.point (1 + port)).waiting, q.master = 28 ∧ q.tc = f.tc ∧ q.cost = frameBlocks f ∧
      q.item = .relay { f with hop := f.hop - 1, rl := max f.rl (b2n dl) } n (poolOf f.tc f.rl)) ∧ t.regs = s.regs ∧ t.strm.larder = s.strm.larder) ∧
  (s.intake n f = true → f.hop = 0 → s.keep.mgmtOn = true → ∃ t, exec (.relayForward n f) s = .next t ∧ t.qos = s.qos ∧ t.strm = s.strm ∧ bitOf (t.get (Reg.EVT 10)) 0 = true ∧
    t.get Reg.ROUTE_DISC_HOP_EXPIRED = min (s.get Reg.ROUTE_DISC_HOP_EXPIRED + 1) (2 ^ 16 - 1)) ∧
  (∀ u, s.intake n f = true → f.hop ≠ 0 → s.pickRoute f.dst f.dsid false = (none, u) → s.keep.mgmtOn = true → ∃ t, exec (.relayForward n f) s = .next t ∧ t.qos = s.qos ∧
    bitOf (t.get (Reg.EVT 10)) 0 = true ∧ t.get Reg.ROUTE_NOROUTE_NODE = f.dst % 1024 ∧ t.get Reg.ROUTE_NOROUTE_AT_RELAY = 1 ∧
    t.get Reg.ROUTE_NOROUTE_COUNT = min (s.get Reg.ROUTE_NOROUTE_COUNT + 1) (2 ^ 16 - 1)) ∧
  (s.trained n = true → (s.opAt n).rxOcc.getD (poolOf f.tc f.rl) 0 + (s.opAt n).rxFreed.getD (poolOf f.tc f.rl) 0 + frameBlocks f ≤ 512 →
    (crcStomped (s.brynn n) f = true → ∃ t, exec (.relayForward n f) s = .next t ∧ OnlyRegs { s with op := t.op } t [Reg.OP_FRM_ERR_STOMP n] ∧
      t.get (Reg.OP_FRM_ERR_STOMP n) = min (s.get (Reg.OP_FRM_ERR_STOMP n) + 1) (2 ^ 16 - 1)) ∧
    (crcStomped (s.brynn n) f = false → crcGood (s.brynn n) f = false ∨ f.ftype ∈ [3, 6, 7] → ∃ t, exec (.relayForward n f) s = .next t ∧ OnlyRegs { s with op := t.op } t [Reg.OP_FRM_ERR_CRC n] ∧
      t.get (Reg.OP_FRM_ERR_CRC n) = min (s.get (Reg.OP_FRM_ERR_CRC n) + 1) (2 ^ 16 - 1)) ∧
    (crcStomped (s.brynn n) f = false → crcGood (s.brynn n) f = true → f.ftype ∉ [3, 6, 7] → s.fenced f.src = true → ∃ t, exec (.relayForward n f) s = .next t ∧
      OnlyRegs { s with op := t.op } t [Reg.ROUTE_FENCED_DISC] ∧ t.get Reg.ROUTE_FENCED_DISC = min (s.get Reg.ROUTE_FENCED_DISC + 1) (2 ^ 32 - 1))) ∧
  (∀ word fs, s.trained n = true → (s.fec n).decode word = none → (∀ g ∈ fs, g.dst = s.get Reg.ROUTE_NODE_NODE ∧ (s.opAt n).rxOcc.getD (poolOf g.tc g.rl) 0 +
      (s.opAt n).rxFreed.getD (poolOf g.tc g.rl) 0 + frameBlocks g ≤ 512) → fs.length ≤ 1 → ∃ t, exec (.codewordUncorrectable n word fs) s = .next t ∧
    OnlyRegs { s with op := t.op } t [Reg.OP_FEC_UNC_CW n] ∧ t.get (Reg.OP_FEC_UNC_CW n) = min (s.get (Reg.OP_FEC_UNC_CW n) + 1) (2 ^ 32 - 1)) ∧
  (∀ word fs x, (s.fec n).decode word = some x → exec (.codewordUncorrectable n word fs) s = .next s)
/-- R157, R158, R239, R240, R241, R242, R243, R336: remote transactions. A permitted request takes the lowest free tag, the channel's next sequence, a Pantry slot and a request at the intake; a denied, oversized or fenced one completes at once with its local status; one to the chiplet itself goes to its own personality; at a bound the host stalls. A request taken in sequence goes to the personality; a completion in sequence returns its tag with the target's status; a channel reset with a new count completes what is outstanding with FAILOVER, resets both channels and is always answered. Where it rests on the model's own choices these are assumption 19. Completion is stated for: remoteTransaction, txnReq, channelReset, txnCpl, targetCompletion. -/
def Obligations.TransactionsGoOutAndComeBack : Prop := ∀ s : State,
  (∀ (n : HpId) (x : Txn), s.hostOn n = true → s.strm.tags.length < 1048576 →
    ((s.window n x).1 = false → s.keep.mgmtOn = true → ∃ t, exec (.remoteTransaction n x) s = .next t ∧ bitOf (t.get (Reg.EVT (16 + n))) 10 = true ∧ t.strm = s.strm ∧
      (t.hpAt n).deliveries = (s.hpAt n).deliveries ++ [.cpl (lowestFree 0 (s.strm.tags.map (·.1))) 2 []] ∧
      t.get (Reg.HP_WINCFG_DENY_CNT n) = min (s.get (Reg.HP_WINCFG_DENY_CNT n) + 1) (2 ^ (Reg.HP_WINCFG_DENY_CNT n).width - 1)) ∧
    ((s.window n x).1 = true → s.badReq x = true → ∃ t, exec (.remoteTransaction n x) s = .next t ∧ t.strm = s.strm ∧ t.op = s.op ∧ SameRegs s t (bufFlds n) ∧
      (t.hpAt n).deliveries = (s.hpAt n).deliveries ++ [.cpl (lowestFree 0 (s.strm.tags.map (·.1))) 4 []]) ∧
    ((s.window n x).1 = true → s.badReq x = false → s.fenced x.node = true → ∃ t, exec (.remoteTransaction n x) s = .next t ∧ t.strm = s.strm ∧ t.op = s.op ∧ SameRegs s t (bufFlds n) ∧
      (t.hpAt n).deliveries = (s.hpAt n).deliveries ++ [.cpl (lowestFree 0 (s.strm.tags.map (·.1))) 3 []]) ∧
    (∀ port dl u, (s.window n x).1 = true → s.badReq x = false → s.fenced x.node = false → s.strm.resetOwed.contains x.node = false → x.node ≠ s.get Reg.ROUTE_NODE_NODE →
      s.chanRoom x.node = true → s.pickRoute x.node 0 false = (some (port, dl), u) → (s.opAt port).pantry.length < 4096 →
      ∃ t slot f, exec (.remoteTransaction n x) s = .next t ∧ slot = lowestFree 0 ((s.opAt port).pantry.map (·.1)) ∧
        tget none t.strm.tags (lowestFree 0 (s.strm.tags.map (·.1))) = some ⟨n, x.node, txnCode x.op, x.opx, x.addr⟩ ∧
        tget none (t.opAt port).pantry slot = some f ∧ f.ftype = 1 ∧ f.dst = x.node ∧ f.seq = (s.chanAt (2 * x.node)).seq ∧
        f.payload = txnBytes x (lowestFree 0 (s.strm.tags.map (·.1))) ∧
        (∃ q ∈ (t.point 0).waiting, q.item = .enter port slot ∧ q.master = n ∧ q.cost = f.payload.length / 64 ∧ q.ing = (s.hpAt n).whole.headD 0) ∧
        (t.chanAt (2 * x.node)).seq = ((s.chanAt (2 * x.node)).seq + 1) % seqMod (s.brynnPath x.node)) ∧
    ((s.window n x).1 = true → s.badReq x = false → s.fenced x.node = false → s.strm.resetOwed.contains x.node = true ∨ (x.node ≠ s.get Reg.ROUTE_NODE_NODE ∧ s.chanRoom x.node = false) →
      exec (.remoteTransaction n x) s = .next { s with sent := .stalled n :: s.sent }) ∧
    ((s.window n x).1 = true → s.badReq x = false → s.strm.resetOwed.contains x.node = false → x.node = s.get Reg.ROUTE_NODE_NODE →
      ∃ t, exec (.remoteTransaction n x) s = .next t ∧ t.op = s.op ∧
        tget none t.strm.tags (lowestFree 0 (s.strm.tags.map (·.1))) = some ⟨n, x.node, txnCode x.op, x.opx, x.addr⟩ ∧
        t.sent.head? = some (.request x.node (lowestFree 0 (s.strm.tags.map (·.1))) (txnCode x.op) x.opx x.addr x.blocks x.data))) ∧
  (∀ (n : HpId) (x : Txn), s.hostOn n = true → 1048576 ≤ s.strm.tags.length → exec (.remoteTransaction n x) s = .next { s with sent := .stalled n :: s.sent }) ∧
  (∀ (n : OpId) (f : Frame), s.intake n f = true → f.dst = s.get Reg.ROUTE_NODE_NODE → f.ftype = 1 → f.cut = false → isReset f = false →
    (((s.taken n f).chanAck f).chanAt (2 * f.src + 1)).seq = f.seq → ∃ t, exec (.txnReq n f) s = .next t ∧ (t.chanAt (2 * f.src + 1)).due = true ∧
      (t.chanAt (2 * f.src + 1)).seq = (f.seq + 1) % seqMod (s.brynnPath f.src) ∧
      ∃ w data, wordAt f.payload 0 = w ∧ t.sent.head? = some (.request f.src (w % 2 ^ 20) (w / 2 ^ 28) (bits w 20 8)
        (wordAt f.payload 1 % 2 ^ 16 * 2 ^ 32 + wordAt f.payload 2) (wordAt f.payload 3 % 32) data)) ∧
  (∀ (n : OpId) (f : Frame) r, s.intake n f = true → f.dst = s.get Reg.ROUTE_NODE_NODE → f.ftype = 2 → f.cut = false → f.ackV = false → wordAt f.payload 0 / 2 ^ 28 = 2 →
    wordAt f.payload 4 < 2 ^ 31 → (s.chanAt (2 * f.src + 1)).seq = f.seq → tget none s.strm.tags (wordAt f.payload 0 % 2 ^ 20) = some r → r.node = f.src → r.op = 2 →
    ∃ t, exec (.txnCpl n f) s = .next t ∧ tget none t.strm.tags (wordAt f.payload 0 % 2 ^ 20) = none ∧
      (t.hpAt r.master).deliveries = (s.hpAt r.master).deliveries ++ [.cpl (wordAt f.payload 0 % 2 ^ 20) (bits (wordAt f.payload 0) 20 8) []] ∧
      (t.chanAt (2 * f.src + 1)).due = true) ∧
  (∀ (n : OpId) (f : Frame), s.intake n f = true → f.dst = s.get Reg.ROUTE_NODE_NODE → f.ftype = 2 → f.cut = false → f.ackV = false → wordAt f.payload 4 < 2 ^ 31 →
    wordAt f.payload 0 / 2 ^ 28 = 0 → bits (wordAt f.payload 0) 20 8 = 0xFF → ∃ t, exec (.txnCpl n f) s = .next t ∧ f.src ∉ t.strm.resetOwed ∧ t.hp = s.hp ∧ t.strm.tags = s.strm.tags) ∧
  (∀ (n : OpId) f count port dl u, s.intake n f = true → f.dst = s.get Reg.ROUTE_NODE_NODE → isReset f = true → f.cut = false → count = wordAt f.payload 1 % 256 →
    s.pickRoute f.src 0 false = (some (port, dl), u) →
    (∃ t g, exec (.channelReset n f) s = .next t ∧ t.leaves port g ∧ g.ftype = 2 ∧ g.dst = f.src ∧ g.payload = nopPayload 0xFF ∧
      tget 0 t.strm.resetSeen f.src = count + 1 ∧
      (tget 0 s.strm.resetSeen f.src ≠ count + 1 → t.chanAt (2 * f.src) = {} ∧ t.chanAt (2 * f.src + 1) = {}) ∧
      (∀ tag r, Table.wf none s.strm.tags = true → tget 0 s.strm.resetSeen f.src ≠ count + 1 → tget none s.strm.tags tag = some r → r.node = f.src →
        tget none t.strm.tags tag = none ∧ .cpl tag 5 [] ∈ (t.hpAt r.master).deliveries))) ∧
  (∀ (n : HpId) (c : TargetCpl) port dl u, s.hostOn n = true → s.fenced c.node = false → c.node ≠ s.get Reg.ROUTE_NODE_NODE → s.chanRoom c.node = true →
    s.pickRoute c.node 0 false = (some (port, dl), u) → (s.opAt port).pantry.length < 4096 → ∃ t f slot, exec (.targetCompletion n c) s = .next t ∧
      tget none (t.opAt port).pantry slot = some f ∧ f.ftype = 2 ∧ f.dst = c.node ∧ f.payload = cplBytes c ∧ f.seq = (s.chanAt (2 * c.node)).seq ∧
      (∃ q ∈ (t.point 0).waiting, q.item = .enter port slot ∧ q.master = n)) ∧
  (∀ (n : HpId) (c : TargetCpl) r, s.hostOn n = true → c.node = s.get Reg.ROUTE_NODE_NODE → tget none s.strm.tags c.tag = some r → ∃ t, exec (.targetCompletion n c) s = .next t ∧
    tget none t.strm.tags c.tag = none ∧ (t.hpAt r.master).deliveries = (s.hpAt r.master).deliveries ++ [.cpl c.tag (c.status % 256) c.data])

/-- R23, R25, R33, R38, R242: the route table. ROUTE_NODE takes its fields unless locked, and where no port is held in training nothing else changes; in the standby bank the selected entry takes the word, in the active bank its FENCE bit alone; a bank swap changes the active bank and raises its event; a fence that takes effect orphans the node's streams, releases their slots, completes its transactions FENCED and resets its channels. Completion is stated for: routeNodeWrite, routeBankSwap, routeDataWrite. -/
def Obligations.RoutesAndFences : Prop := ∀ (s : State) (p : Path),
  (∀ v : Word, s.writable p 0xA040 v.toNat = true → s.get (Reg.LOCK 10) = 0 → ∃ t, exec (.routeNodeWrite p v) s = .next t ∧ Answered t p 0 ∧
    t.get Reg.ROUTE_NODE_NODE = v.toNat % 1024 ∧ t.get Reg.ROUTE_NODE_DOMAIN = v.toNat / 1024 % 65536 ∧ t.get Reg.ROUTE_NODE_VALID = v.toNat / 2 ^ 26 % 2 ∧
    ((∀ k : OpId, (s.opAt k).held = false) → SameRegs s t [Reg.ROUTE_NODE_NODE, Reg.ROUTE_NODE_DOMAIN, Reg.ROUTE_NODE_VALID, Reg.TWIN_STAT_ROLE])) ∧
  (∀ v : Word, s.writable p 0xA050 v.toNat = true → s.get Reg.ROUTE_SEL_BANK = 0 → s.get Reg.ROUTE_BANK_ACTIVE ≤ 1 → ∃ t, exec (.routeDataWrite p v) s = .next t ∧ Answered t p 0 ∧
    tget 0 t.routes (1024 * (1 - s.get Reg.ROUTE_BANK_ACTIVE) + s.get Reg.ROUTE_SEL_ENTRY) = v.toNat % 2 ^ 27 ∧
    (∀ k, k ≠ 1024 * (1 - s.get Reg.ROUTE_BANK_ACTIVE) + s.get Reg.ROUTE_SEL_ENTRY → tget 0 t.routes k = tget 0 s.routes k) ∧ t.strm = s.strm) ∧
  (∀ v : Word, s.writable p 0xA050 v.toNat = true → s.get Reg.ROUTE_SEL_BANK = 1 → bitOf v.toNat 25 = true → s.get Reg.ROUTE_SEL_ENTRY ≠ s.get Reg.ROUTE_NODE_NODE →
    s.fenced (s.get Reg.ROUTE_SEL_ENTRY) = false → Table.wf {} s.strm.larder = true → ∃ t, exec (.routeDataWrite p v) s = .next t ∧ Answered t p 0 ∧
      tget 0 t.routes (1024 * s.get Reg.ROUTE_BANK_ACTIVE + s.get Reg.ROUTE_SEL_ENTRY) = s.routeEntry (s.get Reg.ROUTE_SEL_ENTRY) + 2 ^ 25 ∧
      t.fenced (s.get Reg.ROUTE_SEL_ENTRY) = true ∧ t.chanAt (2 * s.get Reg.ROUTE_SEL_ENTRY) = {} ∧ t.chanAt (2 * s.get Reg.ROUTE_SEL_ENTRY + 1) = {} ∧
      (∀ sid, (s.ctxAt sid).peerNode = s.get Reg.ROUTE_SEL_ENTRY → (s.ctxAt sid).state ∈ [1, 2] → (t.ctxAt sid).state = 4 ∧ (t.ctxAt sid).cause = false ∧ (t.ctxAt sid).unack = [] ∧
        (t.ctxAt sid).acked = (s.ctxAt sid).acked ∧ ∀ u ∈ (s.ctxAt sid).unack, u.slot < 4096 → tget none (t.opAt u.port).pantry u.slot = none) ∧
      (∀ sid, (s.ctxAt sid).peerNode = s.get Reg.ROUTE_SEL_ENTRY → (s.ctxAt sid).state = 3 → t.ctxAt sid = {}) ∧
      (∀ sid, (s.ctxAt sid).peerNode ≠ s.get Reg.ROUTE_SEL_ENTRY → t.ctxAt sid = s.ctxAt sid)) ∧
  (∀ v : Word, s.writable p 0xA050 v.toNat = true → s.get Reg.ROUTE_SEL_BANK = 1 → bitOf v.toNat 25 = false → ∃ t, exec (.routeDataWrite p v) s = .next t ∧ Answered t p 0 ∧
    tget 0 t.routes (1024 * s.get Reg.ROUTE_BANK_ACTIVE + s.get Reg.ROUTE_SEL_ENTRY) = clrBitOf (s.routeEntry (s.get Reg.ROUTE_SEL_ENTRY)) 25 ∧ t.strm = s.strm) ∧
  (s.writable p 0xA048 2 = true → s.get Reg.ROUTE_BANK_ACTIVE ≤ 1 → ∃ t, exec (.routeBankSwap p) s = .next t ∧ Answered t p 0 ∧
    t.get Reg.ROUTE_BANK_ACTIVE = 1 - s.get Reg.ROUTE_BANK_ACTIVE ∧ bitOf (t.get (Reg.EVT 10)) 2 = true ∧ t.routes = s.routes ∧
    (∀ node sid, node ∈ s.routedNodes → s.fenced node = false → t.fenced node = true → Table.wf {} s.strm.larder = true → (s.ctxAt sid).peerNode = node → (s.ctxAt sid).state ∈ [1, 2] → (t.ctxAt sid).state = 4))

/-- R223, R247, R262, Table FAULT-2: uncorrectable errors of the stream engine's memories, each with the page's error bit. A Larder error orphans the context with CAUSE 1, releases its frames and reports; the Pantry reports its recount; a lost tag completes FENCED; lost link credits reset the link; the reorder store only reports. Where it rests on the model's own choices these are assumption 23. Completion is stated for: pantryUe, linkCreditUe, tagTableUe, larderUe, reorderStoreUe. -/
def Obligations.MemoryErrorsOfTheStreamEngine : Prop := ∀ s : State,
  (∀ sid, (s.ctxAt sid).state ∈ [1, 2, 3, 4] → s.keep.mgmtOn = true → ∃ t, exec (.larderUe sid) s = .next t ∧ (t.ctxAt sid).state = 4 ∧ (t.ctxAt sid).cause = true ∧ (t.ctxAt sid).unack = [] ∧
    bitOf (t.get (Reg.EVT 9)) 1 = true ∧ bitOf (t.get (Reg.ERR 9)) 8 = true ∧ OnlyCtx s t sid) ∧
  (∀ (n : OpId) slot, s.keep.mgmtOn = true → ∃ t, exec (.pantryUe n slot) s = .next t ∧ bitOf (t.get (Reg.ERR (48 + n))) 9 = true ∧ bitOf (t.get (Reg.EVT (48 + n))) 11 = true ∧
    t.get (Reg.OP_CRA_PAN_RECON n) = (s.opAt n).pantry.length % 2 ^ (Reg.OP_CRA_PAN_RECON n).width ∧ t.get (Reg.OP_CRA_PAN_RECON_V n) = 1 ∧ t.strm = s.strm) ∧
  (∀ tag r, tget none s.strm.tags tag = some r → s.keep.mgmtOn = true → ∃ t, exec (.tagTableUe tag) s = .next t ∧ tget none t.strm.tags tag = none ∧
    (t.hpAt r.master).deliveries = (s.hpAt r.master).deliveries ++ [.cpl tag 3 []] ∧ bitOf (t.get (Reg.ERR 9)) 8 = true ∧ bitOf (t.get (Reg.EVT 9)) 6 = true) ∧
  (∀ n : OpId, s.trained n = true → s.keep.mgmtOn = true → ∃ t, exec (.linkCreditUe n) s = .next t ∧ bitOf (t.get (Reg.ERR (48 + n))) 9 = true ∧ bitOf (t.get (Reg.EVT (48 + n))) 2 = true ∧
    (t.opAt n).txCr = List.replicate 16 0 ∧ (t.opAt n).rxOcc = List.replicate 16 0 ∧ (t.opAt n).pantry = (s.opAt n).pantry) ∧
  (∀ block, s.keep.domainsOn = true → ∃ t, exec (.reorderStoreUe block) s = .next t ∧ bitOf (t.get (Reg.ERR 9)) 8 = true ∧ Collected s t 9 [])
/-- R248, R250, R254, R257, R261: a grant. What is picked waits at the point and is not blocked; TC0 draws from the reserve and the pool, an owed request from its own bucket, a shared one from the pool and then from buckets whose owners do not wait; a request that has all its tokens leaves the point, frees the ingress blocks it holds, and its tokens are spent until the next round, and one that has not stays with what it has drawn; the frame of a slot leaves its port and spends its link credit; what takes no token leaves where its turn has come and draws none. While the gates are closed or traffic is frozen a link-control message that waits may leave, and nothing else. Where it rests on the model's own choices these are assumptions 21 and 25. Completion is stated for: grant. -/
def Obligations.GrantsDrawTokens : Prop := ∀ (s : State) (pt : PointId),
  ((s.gates = false ∨ s.frozen = true) → pt.val = 0 ∨ s.freeLctl (pt.val - 1) = none → exec (.grant pt) s = .next s) ∧
  (∀ code fields, (s.gates = false ∨ s.frozen = true) → pt.val ≠ 0 → s.freeLctl (pt.val - 1) = some (code, fields) → ∃ u fs, exec (.grant pt) s = .next u ∧ u.qos = s.qos ∧
    (u.opAt (pt.val - 1)).lctlQ = (s.opAt (pt.val - 1)).lctlQ.tail ∧ s.sends u (.lctl (pt.val - 1) code fs (s.lctlDst (pt.val - 1)) (s.get Reg.ROUTE_NODE_NODE))) ∧
  (∀ t, s.gates = true → s.frozen = false → t = (s.tc0Over pt).roundEnd pt →
    (pt.val = 0 ∨ t.sendUntokened (pt.val - 1) = none → t.pick pt = none → exec (.grant pt) s = .next t) ∧
    (∀ u, pt.val ≠ 0 → t.sendUntokened (pt.val - 1) = some u → exec (.grant pt) s = .next u ∧ u.qos = t.qos ∧ u.strm = t.strm ∧ u.hp = t.hp) ∧
    (∀ f, pt.val ≠ 0 → t.freeLctl (pt.val - 1) = none → t.freeFrame (pt.val - 1) = some f → ∃ u, exec (.grant pt) s = .next u ∧
      (u.opAt (pt.val - 1)).ackQ = (t.opAt (pt.val - 1)).ackQ.tail ∧ (u.opAt (pt.val - 1)).owed = true ∧
      (t.brynn (pt.val - 1) = false → f.cut = false → t.sends u (.frame (pt.val - 1) (framed false f)))) ∧
    (∀ q d g k, pt.val = 0 ∨ t.sendUntokened (pt.val - 1) = none → t.pick pt = some (q, d) → g = t.grantReq pt q d → k = ((t.point pt).draw q d).1 →
      exec (.grant pt) s = .next ((g.tc0Over pt).roundEnd pt) ∧ q ∈ (t.point pt).waiting ∧ t.blocked pt q = none ∧ k ≤ q.cost - q.got ∧
      (d = .tc0 → q.tc = 0 ∧ 0 < (t.point pt).rsv + (t.point pt).pool) ∧ (d = .owed → q.tc ≠ 0 ∧ 0 < (t.point pt).buckets.getD q.master 0) ∧
      (d = .shared → q.tc ≠ 0 ∧ (t.point pt).buckets.getD q.master 0 = 0 ∧ 0 < (t.point pt).pool + (t.point pt).lendable) ∧
      (pt.val = 0 ∨ q.got + k ≠ q.cost ∨ q.item = .core ∨ (∃ h j r, q.item = .slot h j r) ∨ (∃ f h j, q.item = .relay f h j) →
        (g.point pt).buckets.sum + (g.point pt).pool + (g.point pt).rsv + k = (t.point pt).buckets.sum + (t.point pt).pool + (t.point pt).rsv ∧
        (g.point pt).spent = (t.point pt).spent + (if q.got + k = q.cost then q.cost else 0) ∧
        (d ≠ .tc0 → (g.point pt).rsv = (t.point pt).rsv) ∧ (d = .owed → (g.point pt).pool = (t.point pt).pool) ∧
        (q.got + k ≠ q.cost → { q with got := q.got + k } ∈ (g.point pt).waiting ∧ (g.point pt).waiting.length = (t.point pt).waiting.length) ∧
        (q.got + k = q.cost → (g.point pt).waiting.length + 1 = (t.point pt).waiting.length)) ∧
      (q.got + k ≠ q.cost ∨ (q.item = .core ∧ q.ing = 0) → g = { t with qos := g.qos, op := g.op }) ∧
      (q.got + k = q.cost → q.item = .core → q.ing ≠ 0 → g.get (Reg.HP_CR_ING_OCC q.master) = (t.get (Reg.HP_CR_ING_OCC q.master) - q.ing) % 2 ^ 16) ∧
      (∀ port slot f, q.got + k = q.cost → q.item = .enter port slot → pt.val = 0 → tget none (t.opAt port).pantry slot = some f → g.asks port port slot false) ∧
      (∀ slot rpl f, q.item = .slot (pt.val - 1) slot rpl → q.got + k = q.cost → tget none (t.opAt (pt.val - 1)).pantry slot = some f → f.cut = false → t.brynn (pt.val - 1) = false →
        ∃ h, .frame (pt.val - 1) h ∈ g.sent ∧ h.seq = f.seq ∧ h.dst = f.dst ∧ h.dsid = f.dsid ∧ h.rpl = rpl ∧ (f.ftype = 0 → h.payload = f.payload) ∧
          (g.opAt (pt.val - 1)).pantry = (t.opAt (pt.val - 1)).pantry ∧
          (poolOf f.tc f.rl < (t.opAt (pt.val - 1)).txCr.length →
            (g.opAt (pt.val - 1)).txCr.getD (poolOf f.tc f.rl) 0 = (t.opAt (pt.val - 1)).txCr.getD (poolOf f.tc f.rl) 0 - frameBlocks f))))

/-- R252, R253, R259, R260, R261, R262: rounds, misses and a lost token state. A round deals the reserve, each share and the rest to the pool, 1024 with what waiting requests have drawn; a target miss is counted once for each request that has waited its target, marks its master, raises its event and is captured unless one is; a token-state error recounts and deals again; a read of QOS_TOK shows the selected point, and its three terms add to 1024. Where it rests on the model's own choices these are assumptions 25 and 51. Completion is stated for: targetMiss, tokenStateUe, qosTokRead. -/
def Obligations.RoundsMissesAndTheTokenRecount : Prop := ∀ (s : State) (pt : PointId),
  (∀ shares, shares = (List.range 29).map (s.shareOf pt) → (s.point pt).drawn + s.get Reg.QOS_CFG_TC0_RSV + shares.sum ≤ 1024 →
    ((s.deal pt).point pt).buckets = shares ∧ ((s.deal pt).point pt).rsv = s.get Reg.QOS_CFG_TC0_RSV ∧
      ((s.deal pt).point pt).pool + (s.point pt).drawn + s.get Reg.QOS_CFG_TC0_RSV + shares.sum = 1024 ∧ ((s.deal pt).point pt).spent = 0 ∧
      ((s.deal pt).point pt).waiting = (s.point pt).waiting) ∧
  (∀ master tc q, (s.point pt).heads.find? (fun q => q.master == master && q.tc == tc) = some q → q.judged = false → tc < 8 →
    s.get (Reg.QOS_TGT_TARGET tc) ≠ 0 → 4 * s.get (Reg.QOS_TGT_TARGET tc) ≤ s.now - q.born → master < 29 → s.keep.mgmtOn = true → ∃ t, exec (.targetMiss pt master tc) s = .next t ∧
      t.get Reg.QOS_MISS_CNT_TARGET = min (s.get Reg.QOS_MISS_CNT_TARGET + 1) (2 ^ 16 - 1) ∧ bitOf (t.get Reg.QOS_MISS_MST_MST) master = true ∧ bitOf (t.get (Reg.EVT 8)) 1 = true ∧
      { q with judged := true } ∈ (t.point pt).waiting ∧
      (s.get Reg.QOS_MISS0_VALID = 0 → t.get Reg.QOS_MISS0_VALID = 1 ∧ t.get Reg.QOS_MISS0_KIND = 2 ∧ t.get Reg.QOS_MISS0_MASTER = master ∧ t.get Reg.QOS_MISS0_TC = tc ∧
        t.get Reg.QOS_MISS0_POINT = pt ∧ t.get Reg.QOS_MISS1_VALUE = s.get (Reg.QOS_TGT_TARGET tc) % 2 ^ 16 ∧ t.get Reg.QOS_MISS2_FTIME = s.ftime % 2 ^ 32) ∧
      (s.get Reg.QOS_MISS0_VALID = 1 → SameRegs s t [Reg.QOS_MISS_CNT_TARGET, Reg.QOS_MISS_MST_MST, Reg.EVT 8])) ∧
  (∀ master tc, (∀ q ∈ (s.point pt).heads, q.master = master → q.tc = tc → q.judged = true ∨ s.now - q.born < 4 * s.get (Reg.QOS_TGT_TARGET tc)) → exec (.targetMiss pt master tc) s = .next s) ∧
  ((s.point pt).drawn ≤ 1024 → s.keep.mgmtOn = true → ∃ t, exec (.tokenStateUe pt) s = .next t ∧ (t.point pt).waiting = (s.point pt).waiting ∧
    (t.point pt).buckets.sum + (t.point pt).pool + (t.point pt).rsv + (s.point pt).drawn = 1024 ∧ (t.point pt).spent = 0 ∧
    t.get Reg.QOS_TOK2_RECON = (s.point pt).drawn ∧ t.get Reg.QOS_TOK2_POINT = pt ∧ t.get Reg.QOS_TOK2_RECON_V = 1 ∧
    bitOf (t.get (Reg.EVT 8)) 3 = true ∧ bitOf (t.get (Reg.ERR 8)) 8 = true) ∧
  (∀ p, s.readable p 0x8098 = true → s.keep.domainsOn = true → s.tokensBalance → ∃ t w, exec (.qosTokRead p) s = .next t ∧ Answered t p w ∧
    w % 2 ^ 11 = (s.point (s.get Reg.QOS_TOK_SEL_POINT)).buckets.sum ∧ t.get Reg.QOS_TOK2_INFLIGHT = (s.point (s.get Reg.QOS_TOK_SEL_POINT)).drawn ∧
    w % 2 ^ 11 + w / 2 ^ 11 % 2 ^ 11 + t.get Reg.QOS_TOK2_INFLIGHT = 1024 ∧ OnlyRegs { s with sent := t.sent } t [Reg.QOS_TOK2_INFLIGHT])

/-- R246, R261: tokens are neither created nor lost. Every command, and with it every step, keeps every arbitration point's tokens in balance; and no command touches the queue of those that wait. Where it rests on the model's own choices these are assumption 25. -/
def Obligations.EveryCommandKeepsTokensAndQueue : Prop :=
  (∀ (c : Instr) (s t : State), s.tokensBalance → exec c s = .next t → t.tokensBalance) ∧
  (∀ s t : State, s.tokensBalance → step s = .next t → t.tokensBalance) ∧
  (∀ (c : Instr) (s t : State), exec c s = .next t → t.pending = s.pending)
/-- R168, R169, R170, R171, R379: ECS_CTL transactions. A request that software starts goes out with its CRC; a good answer ends it, shows its result where software asked, and records STATUS, POWER or FAULT_CODE where Isax asked itself; an answered park ends the module's enable; the next transaction that waits goes out; a failed attempt is counted and driven again; the third failure fails the module, with its error; clearing FAILED lets the module's transactions run again. Completion is stated for: ecsTransactionEnd, ecsRetry, ecsRequest, combFailedClear. -/
def Obligations.CombTransactions : Prop := ∀ s : State,
  (∀ p (v : Word), s.writable p 0xC070 v.toNat = true → bitOf v.toNat 31 = true → s.get Reg.COMB_ECS_REQ_GO = 0 → (s.ecsAt (v.toNat % 8)).queue = [] →
    s.combBit Reg.COMB_STAT_FAILED (v.toNat % 8) = false → ∃ t op crc, exec (.ecsRequest p v) s = .next t ∧ Answered t p 0 ∧ t.get Reg.COMB_ECS_REQ_GO = 1 ∧
      op = (if bitOf v.toNat 3 then 2 else 1) ∧ .ecs (v.toNat % 8) op (v.toNat / 16 % 256) (if bitOf v.toNat 3 then v.toNat / 4096 % 65536 else 0) crc ∈ t.sent ∧
      (t.ecsAt (v.toNat % 8)).queue = [⟨bitOf v.toNat 3, v.toNat / 16 % 256, v.toNat / 4096 % 65536, true⟩] ∧ (t.ecsAt (v.toNat % 8)).attempts = 1) ∧
  (∀ (m : CombId) resp x xs, (s.ecsAt m).queue = x :: xs → x.sw = true → ecsRetryable resp = false → ∃ t, exec (.ecsTransactionEnd m resp) s = .next t ∧
    (t.ecsAt m).queue = xs ∧ t.get Reg.COMB_ECS_RSP_STATUS = resp.status.toNat ∧ t.get Reg.COMB_ECS_RSP_RDATA = resp.rdata.toNat ∧ t.get Reg.COMB_ECS_RSP_DONE = 1 ∧
    t.get Reg.COMB_ECS_RSP_FAIL = 0 ∧ t.get Reg.COMB_ECS_REQ_GO = 0) ∧
  (∀ (m : CombId) resp x xs, (s.ecsAt m).queue = x :: xs → x.sw = false → ecsRetryable resp = false → (resp.status ≠ 0 ∨ x.addr ≠ 1 ∨ bitOf resp.rdata.toNat 2 = false) →
    ∃ t, exec (.ecsTransactionEnd m resp) s = .next t ∧ t.regs = s.regs ∧
    (t.ecsAt m).queue = (if x = ecsPark then xs.filter (·.sw) else xs) ∧ (t.ecsAt m).en = ((s.ecsAt m).en && x != ecsPark) ∧
    (x.write = false → resp.status = 0 → (x.addr = 1 → (t.ecsAt m).status = resp.rdata.toNat) ∧ (x.addr = 3 → (t.ecsAt m).power = resp.rdata.toNat) ∧
      (x.addr = 5 → (t.ecsAt m).faultCode = resp.rdata.toNat))) ∧
  (∀ (m : CombId) resp x y ys, (s.ecsAt m).queue = x :: y :: ys → (x = ⟨false, 3, 0, false⟩ ∨ x.sw = true) → ecsRetryable resp = false → s.combBit Reg.COMB_STAT_FAILED m = false →
    ∃ t crc, exec (.ecsTransactionEnd m resp) s = .next t ∧ (t.ecsAt m).attempts = 1 ∧
      t.sent = .ecs m (if y.write then 2 else 1) y.addr (if y.write then y.data else 0) crc :: s.sent) ∧
  (∀ (m : CombId) resp, (s.ecsAt m).queue ≠ [] → ecsRetryable resp = true → (s.ecsAt m).attempts < 3 → ∃ t, exec (.ecsTransactionEnd m resp) s = .next t ∧
    t.get Reg.COMB_ECS_CNT_RETRIES = min (s.get Reg.COMB_ECS_CNT_RETRIES + 1) (2 ^ 16 - 1) ∧ OnlyRegs s t [Reg.COMB_ECS_CNT_RETRIES]) ∧
  (∀ (m : CombId) resp x xs, (s.ecsAt m).queue = x :: xs → ecsRetryable resp = true → 3 ≤ (s.ecsAt m).attempts → ∃ t, exec (.ecsTransactionEnd m resp) s = .next t ∧
    t.combBit Reg.COMB_STAT_FAILED m = true ∧ bitOf (t.get (Reg.ERR 12)) 8 = true ∧ t.get Reg.COMB_ECS_CNT_FAILS = min (s.get Reg.COMB_ECS_CNT_FAILS + 1) (2 ^ 16 - 1) ∧
    (x ≠ ecsPark → (t.ecsAt m).queue = xs) ∧ (x.sw = true → t.get Reg.COMB_ECS_RSP_DONE = 1 ∧ t.get Reg.COMB_ECS_RSP_FAIL = 1)) ∧
  (∀ (m : CombId) x xs, (s.ecsAt m).queue = x :: xs → s.combBit Reg.COMB_STAT_FAILED m = false → (s.ecsAt m).attempts < 3 → ∃ t crc, exec (.ecsRetry m) s = .next t ∧
    (t.ecsAt m).attempts = (s.ecsAt m).attempts + 1 ∧ (t.ecsAt m).queue = x :: xs ∧ t.regs = s.regs ∧
    t.sent = .ecs m (if x.write then 2 else 1) x.addr (if x.write then x.data else 0) crc :: s.sent) ∧
  (∀ p (v : Word), s.writable p 0xC044 v.toNat = true → ∃ t, exec (.combFailedClear p v) s = .next t ∧ Answered t p 0 ∧
    ∀ m, m < 5 → t.combBit Reg.COMB_STAT_FAILED m = (s.combBit Reg.COMB_STAT_FAILED m && !bitOf v.toNat (10 + m)) ∧ (t.ecsAt m).queue = (s.ecsAt m).queue ∧
      (s.combBit Reg.COMB_STAT_FAILED m = true → bitOf v.toNat (10 + m) = true → (s.ecsAt m).queue ≠ [] → (t.ecsAt m).attempts = 1))

/-- R171, R172, R173, R192, R193: comb light. A lost input sets its LOL bit and event and moves the quad onto a free COMBS, its own module being parked, or raises NO_SPARE_COMB; a masked detector changes nothing that is shown; returned light clears the bit unless the detector is masked; unmasking shows the live level; a poll asks an enabled module that has not failed for STATUS and POWER; a STATUS with FAULT while light is present raises MOD_FAULT and asks for FAULT_CODE. Where it rests on the model's own choices these are assumption 1. Completion is stated for: ecsTransactionEnd, combStatusPoll, combLossOfLight, lolUnmask, combLightReturn. -/
def Obligations.CombLightAndTheSpareModule : Prop := ∀ (s : State) (i : CombId), s.keep.mgmtOn = true →
  ((s.ecsAt i).lolMask = false → ∃ t, exec (.combLossOfLight i) s = .next t ∧ t.combBit Reg.COMB_STAT_LOL i = true ∧ bitOf (t.get (Reg.EVT 12)) 0 = true ∧ (t.ecsAt i).lolLive = true) ∧
  ((s.ecsAt i).lolMask = false → i.val < 4 → s.get Reg.COMB_CTL_AUTO_SW = 1 → s.combsFree = true → ∃ t, exec (.combLossOfLight i) s = .next t ∧
    t.get Reg.COMB_STAT_SW_ACTIVE = 1 ∧ t.get Reg.COMB_STAT_SW_QUAD = i ∧ t.combBit Reg.COMB_STAT_LIT i = false ∧ bitOf (t.get (Reg.EVT 12)) 1 = true ∧
    (if s.combBit Reg.COMB_STAT_FAILED i = false ∧ (s.ecsAt i).en = true then (t.ecsAt i).queue = (s.ecsAt i).queue ++ [ecsPark] else (t.ecsAt i).en = false)) ∧
  ((s.ecsAt i).lolMask = false → i.val < 4 → s.get Reg.COMB_CTL_AUTO_SW = 1 → s.combsFree = false → s.onCombs i = false → ∃ t, exec (.combLossOfLight i) s = .next t ∧
    bitOf (t.get (Reg.ERR 12)) 9 = true ∧ t.get Reg.COMB_STAT_SW_ACTIVE = s.get Reg.COMB_STAT_SW_ACTIVE) ∧
  ((s.ecsAt i).lolMask = true → ∃ t, exec (.combLossOfLight i) s = .next t ∧ t = { s with mgmt := t.mgmt } ∧ (t.ecsAt i).lolLive = true) ∧
  (∃ t, exec (.combLightReturn i) s = .next t ∧ t.combBit Reg.COMB_STAT_LOL i = (s.ecsAt i).lolMask ∧ (t.ecsAt i).lolLive = false ∧ SameRegs s t [Reg.COMB_STAT_LOL]) ∧
  (∀ p (v : Word), s.writable p 0xC044 v.toNat = true → bitOf v.toNat (5 + i.val) = true → (s.ecsAt i).lolMask = true → ∃ t, exec (.lolUnmask p v) s = .next t ∧ Answered t p 0 ∧
    (t.ecsAt i).lolMask = false ∧ t.combBit Reg.COMB_STAT_LOL i = (s.ecsAt i).lolLive) ∧
  ((s.ecsAt i).en = true → s.combBit Reg.COMB_STAT_FAILED i = false → (s.ecsAt i).queue.any (fun x => !x.sw) = false → ∃ t, exec (.combStatusPoll i) s = .next t ∧
    (t.ecsAt i).queue = (s.ecsAt i).queue ++ ecsPoll ∧ t.regs = s.regs ∧ ((s.ecsAt i).queue = [] → ∃ crc, t.sent = .ecs i 1 1 0 crc :: s.sent)) ∧
  ((s.ecsAt i).en = false ∨ s.combBit Reg.COMB_STAT_FAILED i = true → exec (.combStatusPoll i) s = .next s) ∧
  (∀ resp xs, (s.ecsAt i).queue = ⟨false, 1, 0, false⟩ :: xs → ecsRetryable resp = false → resp.status = 0 → bitOf resp.rdata.toNat 2 = true → s.combBit Reg.COMB_STAT_LIT i = true →
    s.combBit Reg.COMB_STAT_LOL i = false → s.get Reg.COMB_CTL_FAULT_SW = 0 → ∃ t, exec (.ecsTransactionEnd i resp) s = .next t ∧ bitOf (t.get (Reg.EVT 12)) 3 = true ∧
      (t.ecsAt i).status = resp.rdata.toNat ∧ (t.ecsAt i).queue = xs ++ [⟨false, 5, 0, false⟩])
/-- R302, R303, R304, R305, R311, R313: Cellar requests of the fabric. A read gives the stored bytes; a write stores exactly its bytes, counts as one program of its extent, takes a replacement page where the page is retired, and fails with SPARE where none is left; each refusal of Table CELL-5 is answered and stores nothing; a write that is cut off leaves its program intent open, with the page's old data, and is not answered; a request to an extent under a levelling move waits for it. R292: the page takes the next write sequence number. Where it rests on the model's own choices these are assumptions 5 and 40. Completion is stated for: cellarRead, cellarWrite. -/
def Obligations.CellarReadsAndWrites : Prop := ∀ (s : State) (part : PartId) (off tag : Nat), s.cellOpen part = true →
  (∀ len env, s.cellLocked off = true → (s.mgmt.cellWait.filter fun x => x.part == part.val).length < 64 → ∃ t, exec (.cellarRead part off len tag env) s = .next t ∧
    t = { s with mgmt := t.mgmt } ∧ t.mgmt.cellWait = s.mgmt.cellWait ++ [.read part off len tag env]) ∧
  (∀ bytes env, s.cellLocked off = true → (s.mgmt.cellWait.filter fun x => x.part == part.val).length < 64 → ∃ t, exec (.cellarWrite part off tag bytes env) s = .next t ∧
    t = { s with mgmt := t.mgmt } ∧ t.mgmt.cellWait = s.mgmt.cellWait ++ [.write part off tag bytes env]) ∧
  (s.cellLocked off = false →
  (∀ len env, cellRange off len = true → bitOf (s.get Reg.CELL_USER_EN_PART) part = true → pageOf (userBase + off) ∉ s.nv.tornUser → pageOf (userBase + off) ∉ env.ue →
    pageOf (userBase + off) ∉ s.nv.lost → ∃ t, exec (.cellarRead part off len tag env) s = .next t ∧
      t.sent.head? = some (.cellar part tag 0 (s.nv.read (userBase + off) len)) ∧ t.nv = s.nv) ∧
  (∀ len env, cellRange off len = false → exec (.cellarRead part off len tag env) s = .next { s with sent := .cellar part tag 1 [] :: s.sent }) ∧
  (∀ len env, cellRange off len = true → bitOf (s.get Reg.CELL_USER_EN_PART) part = false →
    exec (.cellarRead part off len tag env) s = .next { s with sent := .cellar part tag 2 [] :: s.sent }) ∧
  (∀ len env, cellRange off len = true → bitOf (s.get Reg.CELL_USER_EN_PART) part = true → pageOf (userBase + off) ∈ s.nv.tornUser →
    exec (.cellarRead part off len tag env) s = .next { s with sent := .cellar part tag 5 [] :: s.sent }) ∧
  (∀ len env, cellRange off len = true → bitOf (s.get Reg.CELL_USER_EN_PART) part = true → pageOf (userBase + off) ∉ s.nv.tornUser → pageOf (userBase + off) ∈ env.ue →
    ∃ t, exec (.cellarRead part off len tag env) s = .next t ∧ t.sent.head? = some (.cellar part tag 4 []) ∧ bitOf (t.get (Reg.ERR 6)) 8 = true ∧
      t.get Reg.CELL_UE_PAGE = pageOf (userBase + off) ∧ t.get Reg.CELL_UE_VALID = 1 ∧ t.nv.mem = s.nv.mem) ∧
  (∀ bytes env, cellRange off bytes.length = true → bitOf (s.get Reg.CELL_USER_EN_PART) part = true → s.get Reg.CELL_CFG_USER_WP = 0 → s.get Reg.CELL_STAT_WIN = 1 →
    env.winCloses ≠ some 0 → env.cut = false → (bytes.length = 4096 ∨ (pageOf (userBase + off) ∉ s.nv.tornUser ∧ pageOf (userBase + off) ∉ env.ue ∧ pageOf (userBase + off) ∉ s.nv.lost)) →
    (s.retires env (pageOf (userBase + off)) = false ∨ 0 < s.nv.spareFree) → ∃ t, exec (.cellarWrite part off tag bytes env) s = .next t ∧
      t.sent.head? = some (.cellar part tag 0 []) ∧ t.nv.read (userBase + off) bytes.length = bytes ∧
      (∀ a, a < userBase + off ∨ userBase + off + bytes.length ≤ a → tget 0 t.nv.mem a = tget 0 s.nv.mem a) ∧ pageOf (userBase + off) ∉ t.nv.tornUser ∧
      tget 0 t.nv.wear (s.nv.homeOf (pageOf (userBase + off))) = tget 0 s.nv.wear (s.nv.homeOf (pageOf (userBase + off))) + 1 ∧
      t.nv.writeNo = (s.nv.writeNo + 1) % 2 ^ 48 ∧ tget 0 t.nv.pageSeq (pageOf (userBase + off)) = (s.nv.writeNo + 1) % 2 ^ 48 ∧
      (s.retires env (pageOf (userBase + off)) = true → t.nv.spareFree + 1 = s.nv.spareFree ∧
        tget none t.nv.retired (s.nv.physOf (pageOf (userBase + off))) = some (poolPages - s.nv.spareFree))) ∧
  (∀ bytes env, cellRange off bytes.length = true → bitOf (s.get Reg.CELL_USER_EN_PART) part = true → s.get Reg.CELL_CFG_USER_WP = 0 → s.get Reg.CELL_STAT_WIN = 1 →
    env.winCloses ≠ some 0 → env.cut = true → bytes.length = 4096 → (s.retires env (pageOf (userBase + off)) = false ∨ 0 < s.nv.spareFree) →
    ∃ t, exec (.cellarWrite part off tag bytes env) s = .next t ∧ t.nv.read (userBase + off) 4096 = bytes ∧ (∀ p g c d, .cellar p g c d ∈ t.sent → .cellar p g c d ∈ s.sent) ∧
      ∃ i, t.nv.intents.head? = some i ∧ i.page = pageOf (userBase + off) ∧ i.old = s.nv.read (4096 * pageOf (userBase + off)) 4096) ∧
  (∀ bytes env, cellRange off bytes.length = true → bitOf (s.get Reg.CELL_USER_EN_PART) part = true → s.get Reg.CELL_CFG_USER_WP = 0 → s.get Reg.CELL_STAT_WIN = 0 →
    ∃ t, exec (.cellarWrite part off tag bytes env) s = .next t ∧ t.sent.head? = some (.cellar part tag 3 []) ∧ t.nv = s.nv ∧
      t.get Reg.CELL_CNT_TEMP_REF = min (s.get Reg.CELL_CNT_TEMP_REF + 1) (2 ^ 16 - 1)) ∧
  (∀ bytes env, cellRange off bytes.length = true → bitOf (s.get Reg.CELL_USER_EN_PART) part = true → s.get Reg.CELL_CFG_USER_WP = 0 → s.get Reg.CELL_STAT_WIN = 1 →
    env.winCloses ≠ some 0 → bytes.length = 4096 → s.retires env (pageOf (userBase + off)) = true → s.nv.spareFree = 0 → ∃ t, exec (.cellarWrite part off tag bytes env) s = .next t ∧
      t.sent.head? = some (.cellar part tag 6 []) ∧ bitOf (t.get (Reg.ERR 6)) 9 = true ∧ t.nv.mem = s.nv.mem ∧ pageOf (userBase + off) ∈ t.nv.lost))

/-- R302, R306, R308, R309: refresh and levelling. A visit rewrites what needs it and goes on to the next extent, lists it while the window is closed, and marks an uncorrectable USER page torn and an uncorrectable Loft slot invalid; a pass that falls behind is shown; a move begins when the spread of wear passes its limit, exchanges the two extents, and is abandoned when the window has closed, to be tried again; the requests that waited for it are served. Where it rests on the model's own choices these are assumption 41. Completion is stated for: refreshVisit, refrBehind, wearCheck, levellingMoveEnd. -/
def Obligations.RefreshAndLevelling : Prop := ∀ s : State, s.cellWorks = true →
  (∀ worst env, env.ue = [] → env.corrected = 0 → (∀ w ∈ worst, w.2 < s.get Reg.CELL_ECC_REFR_THR) → s.get Reg.CELL_REFR_EXTENT < 65535 →
    ∃ t, exec (.refreshVisit worst env) s = .next t ∧ t.get Reg.CELL_REFR_EXTENT = s.get Reg.CELL_REFR_EXTENT + 1 ∧ OnlyRegs s t [Reg.CELL_REFR_EXTENT]) ∧
  (∀ worst env, env.ue = [] → env.corrected = 0 → (∀ w ∈ worst, w.2 < s.get Reg.CELL_ECC_REFR_THR) → s.get Reg.CELL_REFR_EXTENT = 65535 →
    ∃ t, exec (.refreshVisit worst env) s = .next t ∧ t.get Reg.CELL_REFR_EXTENT = 0 ∧ t.get Reg.CELL_STAT_REFR_BEHIND = 0 ∧ t.mgmt.firstPass = false ∧ t.nv = s.nv) ∧
  (∀ page n env, env.ue = [] → s.get Reg.CELL_ECC_REFR_THR ≤ n → s.get Reg.CELL_REFR_EXTENT < 65535 → s.refreshable (s.get Reg.CELL_REFR_EXTENT) page = true → s.get Reg.CELL_STAT_WIN = 1 →
    env.winCloses ≠ some 0 → ∃ t, exec (.refreshVisit [(page, n)] env) s = .next t ∧ t.get Reg.CELL_REFR_EXTENT = s.get Reg.CELL_REFR_EXTENT + 1 ∧ t.nv.mem = s.nv.mem ∧
    tget 0 t.nv.wear (s.nv.homeOf page) = tget 0 s.nv.wear (s.nv.homeOf page) + 1 ∧
    (s.retires env page = true → inAttic page = false → 0 < s.nv.spareFree → t.nv.spareFree + 1 = s.nv.spareFree)) ∧
  (∀ page n env, env.ue = [] → s.get Reg.CELL_ECC_REFR_THR ≤ n → s.get Reg.CELL_REFR_EXTENT < 65535 → s.refreshable (s.get Reg.CELL_REFR_EXTENT) page = true → s.get Reg.CELL_STAT_WIN = 0 →
    (s.nv.extents s.mgmt.deferred).length < 1024 → ∃ t, exec (.refreshVisit [(page, n)] env) s = .next t ∧ page ∈ t.mgmt.deferred ∧ t.nv = s.nv ∧ t.get Reg.CELL_REFR_EXTENT = s.get Reg.CELL_REFR_EXTENT + 1) ∧
  (∀ page, s.nv.extentOf page = s.get Reg.CELL_REFR_EXTENT → inUser page = true → page < 2 ^ 24 → ∃ t, exec (.refreshVisit [] { ue := [page] }) s = .next t ∧ page ∈ t.nv.tornUser ∧
    bitOf (t.get (Reg.ERR 6)) 8 = true ∧ t.get Reg.CELL_UE_PAGE = page ∧ t.nv.mem = s.nv.mem) ∧
  (∀ page o, s.nv.extentOf page = s.get Reg.CELL_REFR_EXTENT → page < pageOf calBase → loftOf page = some o → ∃ t, exec (.refreshVisit [] { ue := [page] }) s = .next t ∧
    tget {} t.nv.loft o = { tget {} s.nv.loft o with committed := false } ∧ bitOf (t.get (Reg.ERR 6)) 8 = true) ∧
  (s.get Reg.CELL_STAT_REFR_BEHIND = 0 → s.keep.mgmtOn = true → ∃ t, exec .refrBehind s = .next t ∧ t.get Reg.CELL_STAT_REFR_BEHIND = 1 ∧ bitOf (t.get (Reg.EVT 6)) 8 = true ∧ t.nv = s.nv) ∧
  (s.frozen = false → s.get Reg.CELL_CFG_WL_EN = 1 → s.mgmt.wl = none → s.mgmt.wlRetry = none → s.get Reg.CELL_CFG_WL_DELTA * 1024 * 256 < tget 0 s.nv.wear s.nv.mostWorn - tget 0 s.nv.wear s.nv.leastWorn →
    ∃ t, exec .wearCheck s = .next t ∧ t.get Reg.CELL_STAT_WL_BUSY = 1 ∧ t.mgmt.wl = some (s.nv.logicalOf s.nv.mostWorn, s.nv.mostWorn, s.nv.leastWorn) ∧
      OnlyRegs { s with mgmt := t.mgmt } t [Reg.CELL_STAT_WL_BUSY]) ∧
  (tget 0 s.nv.wear s.nv.mostWorn - tget 0 s.nv.wear s.nv.leastWorn ≤ s.get Reg.CELL_CFG_WL_DELTA * 1024 * 256 → exec .wearCheck s = .next s) ∧
  (∀ l hi lo other env, s.frozen = false → s.mgmt.wl = some (l, hi, lo) → s.mgmt.cellWait = [] → hi ≠ lo → other = s.nv.logicalOf lo → other ≠ l → s.get Reg.CELL_STAT_WIN = 1 →
    env.ue = [] → env.retire = [] → env.verify = [] → ∃ t, exec (.levellingMoveEnd env) s = .next t ∧
    t.nv.extentOf (256 * l) = lo ∧ t.nv.extentOf (256 * other) = hi ∧ (∀ page, page / 256 ≠ l → page / 256 ≠ other → t.nv.extentOf page = s.nv.extentOf page) ∧
    tget 0 t.nv.wear hi = tget 0 s.nv.wear hi + 256 ∧ tget 0 t.nv.wear lo = tget 0 s.nv.wear lo + 256 ∧ t.nv.mem = s.nv.mem ∧ t.mgmt.wl = none ∧ t.get Reg.CELL_STAT_WL_BUSY = 0) ∧
  (∀ w env, s.frozen = false → s.mgmt.wl = some w → s.mgmt.cellWait = [] → s.get Reg.CELL_STAT_WIN = 0 → env.ue = [] → ∃ t, exec (.levellingMoveEnd env) s = .next t ∧
    t.nv = s.nv ∧ t.mgmt.wl = none ∧ t.mgmt.wlRetry = some w ∧ t.get Reg.CELL_STAT_WL_BUSY = 0) ∧
  (∀ w env, s.frozen = false → s.mgmt.wl = some w → ∃ t, exec (.levellingMoveEnd env) s = .next t ∧ t.mgmt.wl = none ∧ t.mgmt.cellWait = [])
/-- R342, R344, R345, R346, R356: a sensor's conversion against its thresholds. Reaching WARN and THROTTLE enters those states, with their events, counts and the base duty; falling below a threshold by the hysteresis leaves it; a third failed conversion in a row, or one out of range, faults the sensor, which then takes no part; three good ones in a row bring it back. Where it rests on the model's own choices these are assumption 39. Completion is stated for: sensorConversion. -/
def Obligations.SensorsAndThresholds : Prop := ∀ (s : State) (i : SensorId), s.keep.mgmtOn = true → s.power ≠ 0 →
  (∀ tj, -320 ≤ tj → tj ≤ 1200 → (s.sensor i).fault = false → s.get (Reg.HEAT_THR_DIS i) = 0 → tj < ((8 * s.get (Reg.HEAT_THR_SHUT i) : Nat) : Int) →
    (∃ t, exec (.sensorConversion i (some tj)) s = .next t ∧ (t.sensor i).tj = tj ∧ (t.sensor i).band = bandNext (s.sensor i).band tj ∧ (t.sensor i).valid = true ∧ (t.sensor i).fails = 0) ∧
    ((s.sensor i).st = 0 → ((8 * s.get (Reg.HEAT_THR_WARN i) : Nat) : Int) ≤ tj → tj < ((8 * s.get (Reg.HEAT_THR_THROT i) : Nat) : Int) →
      ∃ t, exec (.sensorConversion i (some tj)) s = .next t ∧ (t.sensor i).st = 1 ∧ bitOf (t.get (Reg.EVT 4)) 0 = true ∧
        t.get Reg.HEAT_CNT_WARN = min (s.get Reg.HEAT_CNT_WARN + 1) (2 ^ 16 - 1) ∧ t.get Reg.HEAT_CNT_THROT = s.get Reg.HEAT_CNT_THROT) ∧
    ((s.sensor i).st ≤ 1 → ((8 * s.get (Reg.HEAT_THR_THROT i) : Nat) : Int) ≤ tj → ∃ t, exec (.sensorConversion i (some tj)) s = .next t ∧ (t.sensor i).st = 2 ∧
      (t.sensor i).duty = s.get Reg.HEAT_PAUSE_DUTY_BASE ∧ bitOf (t.get (Reg.EVT 4)) 1 = true ∧ t.get Reg.HEAT_CNT_THROT = min (s.get Reg.HEAT_CNT_THROT + 1) (2 ^ 16 - 1)) ∧
    ((s.sensor i).st = 2 → tj < ((8 * s.get (Reg.HEAT_THR_THROT i) : Nat) : Int) - ((8 * s.get (Reg.HEAT_THR_HYST i) : Nat) : Int) →
      ∃ t, exec (.sensorConversion i (some tj)) s = .next t ∧ (t.sensor i).st ≤ 1 ∧ (t.sensor i).duty = 0 ∧ bitOf (t.get (Reg.EVT 4)) 2 = true) ∧
    ((s.sensor i).st = 1 → tj < ((8 * s.get (Reg.HEAT_THR_WARN i) : Nat) : Int) - ((8 * s.get (Reg.HEAT_THR_HYST i) : Nat) : Int) → tj < ((8 * s.get (Reg.HEAT_THR_THROT i) : Nat) : Int) →
      ∃ t, exec (.sensorConversion i (some tj)) s = .next t ∧ (t.sensor i).st = 0)) ∧
  ((s.sensor i).fault = false → (s.sensor i).fails ≤ 1 → ∃ t, exec (.sensorConversion i none) s = .next t ∧ (t.sensor i).fault = false ∧ (t.sensor i).fails = (s.sensor i).fails + 1) ∧
  ((s.sensor i).fault = false → (s.sensor i).fails = 2 → ∃ t, exec (.sensorConversion i none) s = .next t ∧ (t.sensor i).fault = true ∧ (t.sensor i).st = 0 ∧ (t.sensor i).duty = 0 ∧
    bitOf (t.get (Reg.ERR 4)) 8 = true ∧ t.bandOf i = 4) ∧
  (∀ tj, tj < -320 ∨ 1200 < tj → (s.sensor i).fault = false → ∃ t, exec (.sensorConversion i (some tj)) s = .next t ∧ (t.sensor i).fault = true ∧ bitOf (t.get (Reg.ERR 4)) 8 = true) ∧
  (∀ tj, -320 ≤ tj → tj ≤ 1200 → (s.sensor i).fault = true → 2 ≤ (s.sensor i).goods → ∃ t, exec (.sensorConversion i (some tj)) s = .next t ∧ (t.sensor i).fault = false ∧ (t.sensor i).st = (s.sensor i).st)

/-- R344, R346, R347, R348, R349, R352, R353, R354: pauses, thresholds and the thermal shutdown. A full 10 ms in THROTTLE raises the duty to its ceiling; a period with a pause in force is counted once, as its first sixteenth begins; HEAT_THR takes a value that checks; a reading at SHUT, and the keeper diode, isolate every domain except KEEP, record the shutdown and set the latch, which ends as a power-down. Where it rests on the model's own choices these are assumption 38. Completion is stated for: pausePeriod, dutyRamp, sensorConversion, heatThrWrite, keeperDiodeTrip, thermalLatchClear. -/
def Obligations.PausesAndTheThermalShutdown : Prop := ∀ s : State,
  (∀ i : SensorId, (s.sensor i).st = 2 → s.get Reg.HEAT_CTL_RAMP_EN = 1 → (s.sensor i).duty < s.get Reg.HEAT_PAUSE_DUTY_MAX → ∃ t, exec (.dutyRamp i) s = .next t ∧
    (t.sensor i).duty = (s.sensor i).duty + 1 ∧ (s.keep.mgmtOn = true → (s.sensor i).duty + 1 = s.get Reg.HEAT_PAUSE_DUTY_MAX → bitOf (t.get (Reg.EVT 4)) 3 = true) ∧
    SameRegs s t [Reg.EVT 4]) ∧
  (∀ i : SensorId, ((s.sensor i).st ≠ 2 ∨ s.get Reg.HEAT_PAUSE_DUTY_MAX ≤ (s.sensor i).duty) → exec (.dutyRamp i) s = .next s) ∧
  (∀ k : Fin 16, s.keep.mgmtOn = true → ∃ t, exec (.pausePeriod k) s = .next t ∧ t.mgmt.pausePart = k.val ∧ SameRegs s t [Reg.HEAT_PAUSE_US_US] ∧
    t.get Reg.HEAT_PAUSE_US_US = (if k = 0 ∧ s.mgmt.sensors.any (fun e => decide (0 < e.2.duty) && !decide (e.1 ∈ cellSensors)) then min (s.get Reg.HEAT_PAUSE_US_US + 1) (2 ^ 32 - 1) else s.get Reg.HEAT_PAUSE_US_US)) ∧
  (∀ p (v : Word) i, s.writable p 0x404C v.toNat = true → s.get (Reg.LOCK 4) = 0 → s.get Reg.HEAT_SEL_ALL = 0 → s.get Reg.HEAT_SEL_SENSOR = i → ∃ t, exec (.heatThrWrite p v) s = .next t ∧ Answered t p 0 ∧
    t.get (Reg.HEAT_THR_WARN i) = v.toNat % 256 ∧ t.get (Reg.HEAT_THR_THROT i) = v.toNat / 2 ^ 8 % 256 ∧ t.get (Reg.HEAT_THR_SHUT i) = v.toNat / 2 ^ 16 % 256 ∧
    t.get (Reg.HEAT_THR_HYST i) = v.toNat / 2 ^ 24 % 16 ∧ t.get (Reg.HEAT_THR_DIS i) = v.toNat / 2 ^ 28 % 2 ∧
    (∀ j, j ≠ i → t.get (Reg.HEAT_THR_WARN j) = s.get (Reg.HEAT_THR_WARN j) ∧ t.get (Reg.HEAT_THR_SHUT j) = s.get (Reg.HEAT_THR_SHUT j))) ∧
  (∀ (i : SensorId) tj, s.keep.mgmtOn = true → s.power ≠ 0 → -320 ≤ tj → tj ≤ 1200 → (s.sensor i).fault = false → s.get (Reg.HEAT_THR_DIS i) = 0 →
    ((8 * s.get (Reg.HEAT_THR_SHUT i) : Nat) : Int) ≤ tj → s.keep.thermLatch = false → s.nv.intents = [] → ∃ t, exec (.sensorConversion i (some tj)) s = .next t ∧ Isolated t ∧
      t.keep.thermLatch = true ∧ t.get Reg.HEAT_SHUT_SENSOR = i ∧ t.get Reg.HEAT_SHUT_VALID = 1 ∧ t.get Reg.HEAT_SHUT_TJ = (tj % 4096).toNat ∧ bitOf (t.get (Reg.ERR 0)) 10 = true ∧ t.nv = s.nv) ∧
  (s.keep.vauxGood = true → s.keep.thermLatch = false → s.nv.intents = [] → ∃ t, exec .keeperDiodeTrip s = .next t ∧ Isolated t ∧ t.keep.thermLatch = true ∧
    t.get Reg.HEAT_SHUT_SENSOR = 127 ∧ t.get Reg.HEAT_SHUT_VALID = 1 ∧ t.get Reg.HEAT_SHUT_COUNT = min (s.get Reg.HEAT_SHUT_COUNT + 1) 255 ∧ bitOf (t.get (Reg.ERR 0)) 10 = true) ∧
  (s.keep.vauxGood = true → s.keep.thermLatch = false → s.nv.intents ≠ [] → ∃ t, exec .keeperDiodeTrip s = .next t ∧ t.keep.hold = some .thermal ∧ t.keep.thermLatch = true ∧ t.mgmt = s.mgmt ∧ t.nv = s.nv) ∧
  (s.keep.thermLatch = true → s.keep.hold = none → (s.keep.pwrEnTaken = false ∨ s.get Reg.PWR_STAT_STAY = 1) → ∃ t, exec .thermalLatchClear s = .next t ∧
    t = { s with keep := { s.keep with thermLatch := false } })
/-- R182, R187, R190: a ring's lock. While the TUNE clock runs, a ring that locks is shown locked at its code unless it is parked, and a spare that locks starts a stopped transmitter again; a locked ring that unlocks, and one at a rail, which stays parked, raise their events; a transmit line's lane begins to move to the lowest free spare, and for a receive line SWAP_ASK with cause 3 goes out; a transmit line whose scan finds nothing, with no spare free, stops its transmitter. Where it rests on the model's own choices these are assumptions 1 and 30. Completion is stated for: ringLocked, ringUnlocked, htrRail, ringRelockScan, htrFault. -/
def Obligations.RingsLockAndUnlock : Prop := ∀ (s : State) (r : RingId), s.keep.mgmtOn = true → s.tuneRuns = true →
  (∀ code, (s.ringOf r).parked = false → (s.opAt r.port).exhausted = false → ∃ t, exec (.ringLocked r code) s = .next t ∧ OnlyRing s t r ∧ SameRegs s t [Reg.EVT (64 + r.port)] ∧
    t.ringOf r = { s.ringOf r with lock := true, code := code % 65536, frozen := false, low := false }) ∧
  (∀ code, (s.ringOf r).parked = false → (s.ringOf r).bad = false → (s.ringOf r).absent = false → r.rx = false → 32 ≤ r.idx.val → lineLane (s.opAt r.port).remapTx r.idx = none →
    (s.opAt r.port).swapT = none → (s.opAt r.port).cal = none → ∃ t, exec (.ringLocked r code) s = .next t ∧ (t.ringOf r).lock = true ∧ (t.opAt r.port).exhausted = false) ∧
  (∀ code, (s.ringOf r).parked = true → (s.opAt r.port).exhausted = false → exec (.ringLocked r code) s = .next s) ∧
  ((s.ringOf r).lock = true → ∃ t, exec (.ringUnlocked r) s = .next t ∧ OnlyRing s t r ∧ t.ringOf r = { s.ringOf r with lock := false, frozen := false } ∧
    bitOf (t.get (Reg.EVT (64 + r.port))) 1 = true) ∧
  ((s.ringOf r).lock = false → exec (.ringUnlocked r) s = .next s) ∧
  (∀ lane k, (s.ringOf r).lock = true → r.rx = false → lineLane (s.opAt r.port).remapTx r.idx = some lane → s.canMove r.port lane k → k ≠ r.idx → (s.opAt r.port).swapQ = [] →
    ∃ t, exec (.ringUnlocked r) s = .next t ∧ SwapBegun s t r.port lane k) ∧
  (∀ lane, (s.ringOf r).lock = true → r.rx = true → lineLane (s.opAt r.port).remapRx r.idx = some lane → s.canSwap r.port = true → s.get (Reg.LAM_CTL_AUTO_SPARE r.port) = 1 →
    ∃ t, exec (.ringUnlocked r) s = .next t ∧ Says s t r.port 0x16 [lane, 3] ∧ (lane, 3) ∈ (t.opAt r.port).asks) ∧
  (∀ high, ∃ t, exec (.htrRail r high) s = .next t ∧ (t.ringOf r).parked = true ∧ (t.ringOf r).lock = false ∧ (t.ringOf r).code = (if high then 65535 else 0) ∧
    bitOf (t.get (Reg.EVT (64 + r.port))) 9 = true ∧ bitOf (t.get (Reg.EVT (64 + r.port))) 1 = true) ∧
  (∀ code, (s.ringOf r).parked = false → ∃ t, exec (.ringRelockScan r (some code)) s = .next t ∧ (t.ringOf r).lock = true ∧ (t.ringOf r).code = code % 65536) ∧
  (∃ t, exec (.ringRelockScan r none) s = .next t ∧ (t.ringOf r).lock = false ∧ (t.ringOf r).bad = true ∧ (t.ringOf r).frozen = false) ∧
  (∀ lane, r.rx = false → lineLane (s.opAt r.port).remapTx r.idx = some lane → s.canSwap r.port = true → s.get (Reg.LAM_CTL_AUTO_SPARE r.port) = 1 → (s.opAt r.port).swapT = none →
    (s.opAt r.port).swapQ = [] → s.freeSpares r.port = [] → ∃ t, exec (.ringRelockScan r none) s = .next t ∧ (t.opAt r.port).exhausted = true ∧
      bitOf (t.get (Reg.EVT (64 + r.port))) 4 = true ∧ bitOf (t.get (Reg.EVT (64 + r.port))) 7 = true) ∧
  (∃ t, exec (.htrFault r) s = .next t ∧ bitOf (t.get (Reg.ERR (64 + r.port))) 8 = true ∧ Collected s t (64 + r.port) [])

/-- R182, R190, R192, R193, R213, Table LAM-4: lost light, flaps and storms. A line that loses its light holds its heater and counts a flap, and its lane needs a spare, the want of which is counted; the 16th flap of a window marks the line BAD with its event; each window starts from 0; returned light ends the hold; a storming line detector of either bank is masked and its line BAD; clearing BAD unmasks it; a dark receive port holds every ring and starts the link-loss timer of a trained port, and so does a loss of signal on more lanes than one. Where it rests on the model's own choices these are assumption 30. Completion is stated for: ringLightLow, ringLightReturn, rxLossOfSignal, rxPortLossOfLight, rxLightReturn, lineFlap, flapWindow, detectorStorm, badClear. -/
def Obligations.LostLightFlapsAndStorms : Prop := ∀ s : State, s.keep.mgmtOn = true → s.tuneRuns = true →
  (∀ r : RingId, (s.ringOf r).lock = true → (s.ringOf r).low = false → (s.ringOf r).masked = false →
    ((s.ringOf r).flaps < 15 → ∃ t, exec (.ringLightLow r) s = .next t ∧ t.ringOf r = { s.ringOf r with low := true, frozen := true, flaps := (s.ringOf r).flaps + 1 } ∧ OnlyRing s t r) ∧
    ((s.ringOf r).flaps = 15 → ∃ t, exec (.ringLightLow r) s = .next t ∧ (t.ringOf r).bad = true ∧ (t.ringOf r).flaps = 16 ∧ bitOf (t.get (Reg.EVT (64 + r.port))) 5 = true) ∧
    (∀ lane, (s.ringOf r).flaps < 15 → (s.ringOf r).bad = false → r.rx = false → lineLane (s.opAt r.port).remapTx r.idx = some lane → s.canSwap r.port = true → s.get (Reg.LAM_CTL_AUTO_SPARE r.port) = 1 →
      (s.opAt r.port).swapT = none → (s.opAt r.port).swapQ = [] → s.freeSpares r.port = [] → ∃ t, exec (.ringLightLow r) s = .next t ∧ bitOf (t.get (Reg.EVT (64 + r.port))) 4 = true ∧
        t.get (Reg.LAM_SWAP_NOSPARE r.port) = min (s.get (Reg.LAM_SWAP_NOSPARE r.port) + 1) (2 ^ 8 - 1) ∧ t.opAt r.port = s.opAt r.port)) ∧
  (∀ r : RingId, ((s.ringOf r).lock = false ∨ (s.ringOf r).low = true ∨ (s.ringOf r).masked = true) → exec (.ringLightLow r) s = .next s) ∧
  (∀ r : RingId, (s.opAt r.port).exhausted = false → ∃ t, exec (.ringLightReturn r) s = .next t ∧ t.ringOf r = { s.ringOf r with low := false, frozen := false, los := false } ∧ OnlyRing s t r ∧
    t = { s with rings := t.rings, op := t.op } ∧ ((s.opAt r.port).rxLow = false → t.lostLanes r.port ≤ 1 → (t.opAt r.port).lossTimer = false)) ∧
  (∀ r : RingId, (s.ringOf r).masked = false → ∃ t, exec (.lineFlap r) s = .next t ∧ (t.ringOf r).bad = true ∧ (t.ringOf r).flaps = 16 ∧ bitOf (t.get (Reg.EVT (64 + r.port))) 5 = true ∧ OnlyRing s t r) ∧
  (∃ t, exec .flapWindow s = .next t ∧ t = { s with rings := t.rings } ∧ ∀ r, t.ringOf r = { s.ringOf r with flaps := 0 }) ∧
  (∀ (n : OpId) line, 36 ≤ line → exec (.rxLossOfSignal n line) s = .next s) ∧
  (∀ (n : OpId) (k : Fin 36), (s.ringOf ⟨n, true, k⟩).masked = false → (s.ringOf ⟨n, true, k⟩).los = false →
    (s.trained n = true → ∃ t, exec (.rxLossOfSignal n k) s = .next t ∧ (t.ringOf ⟨n, true, k⟩).los = true ∧ (t.opAt n).lossTimer = ((t.opAt n).rxLow || decide (1 < t.lostLanes n))) ∧
    ((s.ringOf ⟨n, true, k⟩).flaps < 15 → (s.ringOf ⟨n, true, k⟩).bad = false → ∃ t, exec (.rxLossOfSignal n k) s = .next t ∧ (t.ringOf ⟨n, true, k⟩).frozen = true ∧
      (t.ringOf ⟨n, true, k⟩).flaps = (s.ringOf ⟨n, true, k⟩).flaps + 1 ∧ (t.ringOf ⟨n, true, k⟩).low = true ∧ OnlyRing s t ⟨n, true, k⟩ ∧ (∀ lane, lineLane (s.opAt n).remapRx k = some lane →
        s.canSwap n = true → s.get (Reg.LAM_CTL_AUTO_SPARE n) = 1 → Says s t n 0x16 [lane, 1])) ∧
    ((s.ringOf ⟨n, true, k⟩).flaps = 15 → ∃ t, exec (.rxLossOfSignal n k) s = .next t ∧ (t.ringOf ⟨n, true, k⟩).bad = true ∧ bitOf (t.get (Reg.EVT (64 + n))) 5 = true)) ∧
  (∀ n : OpId, ∃ t, exec (.rxPortLossOfLight n) s = .next t ∧ (t.opAt n).rxLow = true ∧ (s.trained n = true → (t.opAt n).lossTimer = true) ∧ t.regs = s.regs ∧
    (∀ k : Fin 36, (t.ringOf ⟨n, true, k⟩).low = true ∧ (t.ringOf ⟨n, true, k⟩).frozen = (s.ringOf ⟨n, true, k⟩).lock) ∧ (∀ q : RingId, q.port ≠ n ∨ q.rx = false → t.ringOf q = s.ringOf q)) ∧
  (∀ n : OpId, ∃ t, exec (.rxLightReturn n) s = .next t ∧ (t.opAt n).rxLow = false ∧ (t.opAt n).lossTimer = false ∧ t.regs = s.regs ∧
    (∀ k : Fin 36, (t.ringOf ⟨n, true, k⟩).low = false ∧ (t.ringOf ⟨n, true, k⟩).frozen = false)) ∧
  (∀ (n : OpId) rx (k : Fin 36), ∃ t, exec (.detectorStorm (.line n rx k)) s = .next t ∧ (t.ringOf ⟨n, rx, k⟩).masked = true ∧ (t.ringOf ⟨n, rx, k⟩).bad = true ∧ bitOf (t.get (Reg.EVT (64 + n))) 6 = true) ∧
  (∀ i : CombId, ∃ t, exec (.detectorStorm (.comb i)) s = .next t ∧ (t.ecsAt i).lolMask = true ∧ t.combBit Reg.COMB_STAT_LOL i = true ∧ bitOf (t.get (Reg.EVT 12)) 4 = true) ∧
  (∀ p (n : OpId) (k : Fin 36), s.writable p ((64 + n.val) * 4096 + 0x58) (2 ^ 23) = true → s.get (Reg.LAM_SEL_LINE n) = k → ∃ t, exec (.badClear p n) s = .next t ∧ Answered t p 0 ∧
    (t.ringOf ⟨n, s.bit (Reg.LAM_SEL_DIR n), k⟩).bad = false ∧ (t.ringOf ⟨n, s.bit (Reg.LAM_SEL_DIR n), k⟩).masked = false ∧ (t.opAt n).exhausted = false)

/-- R176, R177, R178, R179, R183, R185: searches and feed-forward. While the TUNE clock runs, a sweep that ends is named and recorded; a failed one is queued again behind the others while sweeps are left; a ring swept alone takes its line's code at once; with the quad's last sweep every searched port ends its search and the pilot goes off; the gain moves by one eighth of the residual. Where it rests on the model's own choices these are assumption 27. Completion is stated for: ringSweepEnd, ffGainAdapt. -/
def Obligations.SearchesAndFeedForward : Prop := ∀ s : State,
  (∀ (q : QuadId) peaks k left rest x, s.tuneRuns = true → s.get (Reg.LAM_STAT_SEARCHING (keyPort k)) = 1 → tget [] s.mgmt.sweep q = (k, left) :: rest → nameLines peaks (s.get (Reg.LAM_WIN_LO (keyPort k))) (s.get (Reg.LAM_WIN_HI (keyPort k))) = some x → rest ≠ [] →
    ∃ t, exec (.ringSweepEnd q peaks) s = .next t ∧ tget [] t.mgmt.sweep q = rest ∧ tget none t.mgmt.swept k = some x ∧ t.regs = s.regs ∧ t.rings = s.rings) ∧
  (∀ (q : QuadId) peaks k left rest pitch cs line, s.tuneRuns = true → s.get (Reg.LAM_STAT_SEARCHING (keyPort k)) = 0 → tget [] s.mgmt.sweep q = (k, left) :: rest →
    nameLines peaks (s.get (Reg.LAM_WIN_LO (keyPort k))) (s.get (Reg.LAM_WIN_HI (keyPort k))) = some (pitch, cs) →
    line = (k % 36 + s.get (if keyRx k then Reg.LAM_STAT_RX_ROT (keyPort k) else Reg.LAM_STAT_TX_ROT (keyPort k))) % 36 → ∃ t, exec (.ringSweepEnd q peaks) s = .next t ∧
      tget [] t.mgmt.sweep q = rest ∧ t.ringAt (keyPort k) (keyRx k) line = { s.ringAt (keyPort k) (keyRx k) line with code := (cs.getD line none).getD 0, absent := (cs.getD line none).isNone, pitch := pitch }) ∧
  (∀ (q : QuadId) peaks k left rest, s.tuneRuns = true → tget [] s.mgmt.sweep q = (k, left) :: rest → nameLines peaks (s.get (Reg.LAM_WIN_LO (keyPort k))) (s.get (Reg.LAM_WIN_HI (keyPort k))) = none → 1 < left →
    ∃ t, exec (.ringSweepEnd q peaks) s = .next t ∧ tget [] t.mgmt.sweep q = rest ++ [(k, left - 1)] ∧ tget none t.mgmt.swept k = none ∧ t.regs = s.regs ∧ t.rings = s.rings) ∧
  (∀ (q : QuadId) peaks k left, s.tuneRuns = true → tget [] s.mgmt.sweep q = [(k, left)] → (nameLines peaks (s.get (Reg.LAM_WIN_LO (keyPort k))) (s.get (Reg.LAM_WIN_HI (keyPort k)))).isSome ∨ left ≤ 1 →
    ∃ t, exec (.ringSweepEnd q peaks) s = .next t ∧ tget [] t.mgmt.sweep q = [] ∧ (∀ p ∈ quadPorts q, t.get (Reg.LAM_STAT_SEARCHING p) = 0) ∧
      ((s.ecsAt (s.quadComb q)).en = true → ecsMark false ∈ (t.ecsAt (s.quadComb q)).queue)) ∧
  (∀ peaks lo hi pitch cs, nameLines peaks lo hi = some (pitch, cs) → 50 ≤ peaks.length ∧ (∃ p ∈ peaks, p.pilot = true) ∧ cs.length = 36 ∧ (∀ c, some c ∈ cs → ∃ p ∈ peaks, p.code = c)) ∧
  (∀ (n : OpId) (r : Int), s.get (Reg.LAM_CTL_FF_EN n) = 1 → s.get (Reg.LAM_CTL_FF_ADAPT n) = 1 → r % 8 = 0 → -32768 ≤ signed16 (s.get (Reg.LAM_FF_GAIN n)) + r / 8 →
    signed16 (s.get (Reg.LAM_FF_GAIN n)) + r / 8 ≤ 32767 → ∃ t, exec (.ffGainAdapt n r) s = .next t ∧ OnlyRegs s t [Reg.LAM_FF_GAIN n] ∧
      t.get (Reg.LAM_FF_GAIN n) = to16 (signed16 (s.get (Reg.LAM_FF_GAIN n)) + r / 8)) ∧
  (∀ (n : OpId) r, (s.get (Reg.LAM_CTL_FF_EN n) = 0 ∨ s.get (Reg.LAM_CTL_FF_ADAPT n) = 0) → exec (.ffGainAdapt n r) s = .next s)
/-- R187, R188, R189, Table LAM-3: the receiving end of a spare swap. A request is aligned when its line's ring is locked, and refused with cause 3 for a BAD line and 1 for an unlocked ring; alignment switches the remap entry and answers READY, or NAK with cause 2; DONE ends the swap; CANCEL puts the entry back and is answered; a repeat is answered again and not acted on. Completion is stated for: swapReq, spareAligned, swapDone, swapCancel, calLine. -/
def Obligations.SwapsAtTheReceivingEnd : Prop := ∀ (s : State) (n : OpId),
  (∀ id lane (line : Fin 36), s.canSwap n = true → lane < 32 → (∀ r, (s.opAt n).swapR = some r → r.id ≠ id) → ∃ t r, exec (.swapReq n id lane line) s = .next t ∧ (t.opAt n).swapR = some r ∧
    r.id = id ∧ r.lane = lane ∧ r.new = line ∧ r.old = laneLine (s.opAt n).remapRx lane ∧ (t.opAt n).remapRx = (s.opAt n).remapRx ∧ t.regs = s.regs ∧
    ((s.ringOf ⟨n, true, line⟩).bad = true → Says s t n 0x12 [id, 3] ∧ (s.lctlNow n = true → t.sent = s.lctlFrame n 0x12 [id, 3] :: s.sent)) ∧
    ((s.ringOf ⟨n, true, line⟩).bad = false → (s.ringOf ⟨n, true, line⟩).lock = false → Says s t n 0x12 [id, 1] ∧ (s.lctlNow n = true → t.sent = s.lctlFrame n 0x12 [id, 1] :: s.sent)) ∧
    ((s.ringOf ⟨n, true, line⟩).bad = false → (s.ringOf ⟨n, true, line⟩).lock = true → t.sent = s.sent ∧ r.nak = 0)) ∧
  (∀ id lane (line : Fin 36) r, s.canSwap n = true → lane < 32 → (s.opAt n).swapR = some r → r.id = id → r.ready = true → r.nak = 0 →
    ∃ t, exec (.swapReq n id lane line) s = .next t ∧ Says s t n 0x11 [id] ∧ (t.opAt n).swapR = some r ∧ (t.opAt n).remapRx = (s.opAt n).remapRx ∧ t.regs = s.regs) ∧
  (∀ r, (s.opAt n).swapR = some r → r.ready = false → r.nak = 0 → r.lane < (s.opAt n).remapRx.length → ∃ t, exec (.spareAligned n true) s = .next t ∧ laneLine (t.opAt n).remapRx r.lane = r.new ∧
    (∀ l, l ≠ r.lane → laneLine (t.opAt n).remapRx l = laneLine (s.opAt n).remapRx l) ∧ Says s t n 0x11 [r.id] ∧ (t.opAt n).swapR = some { r with ready := true }) ∧
  (∀ r, (s.opAt n).swapR = some r → r.ready = false → r.nak = 0 → ∃ t, exec (.spareAligned n false) s = .next t ∧ Says s t n 0x12 [r.id, 2] ∧ t.regs = s.regs ∧
    (t.opAt n).remapRx = (s.opAt n).remapRx ∧ (t.opAt n).swapR = some { r with nak := 2 }) ∧
  (∀ r, (s.opAt n).swapR = some r → ∃ t, exec (.swapDone n r.id) s = .next t ∧ (t.opAt n).swapR = none ∧ t = { s with op := t.op } ∧ (t.opAt n).remapRx = (s.opAt n).remapRx) ∧
  (∀ r, (s.opAt n).swapR = some r → r.lane < (s.opAt n).remapRx.length → s.canSwap n = true → ∃ t, exec (.swapCancel n r.id) s = .next t ∧ (t.opAt n).swapR = none ∧
    Says s t n 0x15 [r.id] ∧ t.regs = s.regs ∧ (r.ready = true → laneLine (t.opAt n).remapRx r.lane = r.old) ∧ (r.ready = false → (t.opAt n).remapRx = (s.opAt n).remapRx)) ∧
  (∀ line on, s.brynn n = false → ∃ t, exec (.calLine n line on) s = .next t ∧ (t.opAt n).calRx = (if on then some line else none) ∧ t = { s with op := t.op })

/-- R187, R188, R189, R190, R191: the transmitting end of a spare swap, and rolling calibration. READY moves the lane, sends DONE and counts, and is ignored after CANCEL; NAK keeps the lane, counts and tries the next free spare once; no answer sends CANCEL, and CANCELLED ends the swap as failed; an ask starts a swap unless it is known; a need without a spare is counted, and a lost line then stops the transmitter; a line is calibrated in place where it is free, else its lane moves first and moves back after. Where it rests on the model's own choices these are assumption 30. Completion is stated for: swapReady, swapNak, swapCancelled, swapAsk, swapMessageRepeat, swapAnswerTimeout, lineCal, lineCalEnd. -/
def Obligations.SwapsAtTheTransmittingEnd : Prop := ∀ (s : State) (n : OpId), s.keep.mgmtOn = true →
  (∀ w, (s.opAt n).swapT = some w → w.cancel = true → exec (.swapReady n w.id) s = .next s) ∧
  (∀ w, (s.opAt n).swapT = some w → w.cancel = false → w.cmd = false → w.lane < (s.opAt n).remapTx.length → (s.opAt n).swapQ = [] → (s.opAt n).exhausted = false → s.inStep n 6 = false → ∃ t, exec (.swapReady n w.id) s = .next t ∧
    laneLine (t.opAt n).remapTx w.lane = w.new ∧ (∀ l, l ≠ w.lane → laneLine (t.opAt n).remapTx l = laneLine (s.opAt n).remapTx l) ∧ (t.opAt n).swapT = none ∧
    Says s t n 0x13 [w.id] ∧ t.get (Reg.LAM_SWAP_DONE n) = min (s.get (Reg.LAM_SWAP_DONE n) + 1) (2 ^ 16 - 1) ∧ bitOf (t.get (Reg.EVT (64 + n))) 2 = true) ∧
  (∀ id, (s.opAt n).swapT = none → (s.opAt n).swapDone = some id → ∃ t, exec (.swapReady n id) s = .next t ∧ Says s t n 0x13 [id] ∧ t.regs = s.regs ∧ (t.opAt n).remapTx = (s.opAt n).remapTx) ∧
  (∀ w cause k, (s.opAt n).swapT = some w → w.cancel = false → w.again = false → ((s.freeSpares n).filter fun j => some j != some w.new).head? = some k → ∃ t, exec (.swapNak n w.id cause) s = .next t ∧
    (∃ v, (t.opAt n).swapT = some v ∧ v.lane = w.lane ∧ v.new = k ∧ v.again = true) ∧ (t.opAt n).remapTx = (s.opAt n).remapTx ∧ bitOf (t.get (Reg.EVT (64 + n))) 3 = true ∧
    t.get (Reg.LAM_SWAP_FAILED n) = min (s.get (Reg.LAM_SWAP_FAILED n) + 1) (2 ^ 8 - 1)) ∧
  (∀ w, (s.opAt n).swapT = some w → ∃ t, exec (.swapAnswerTimeout n) s = .next t ∧ Says s t n 0x14 [w.id] ∧ (t.opAt n).swapT = some { w with cancel := true } ∧ t.regs = s.regs) ∧
  (∀ w, (s.opAt n).swapT = some w → w.cancel = true → w.cmd = false → (s.opAt n).swapQ = [] → (s.opAt n).exhausted = false → ∃ t, exec (.swapCancelled n w.id) s = .next t ∧ (t.opAt n).swapT = none ∧
    (t.opAt n).remapTx = (s.opAt n).remapTx ∧ t.get (Reg.LAM_SWAP_FAILED n) = min (s.get (Reg.LAM_SWAP_FAILED n) + 1) (2 ^ 8 - 1)) ∧
  (∀ lane cause k, (s.opAt n).swapQ = [] → s.canMove n lane k → lane < s.laneCount n → ∃ t, exec (.swapAsk n lane cause) s = .next t ∧ SwapBegun s t n lane k) ∧
  (∀ lane cause, s.canSwap n = true → s.get (Reg.LAM_CTL_AUTO_SPARE n) = 1 → (s.opAt n).swapT = none → (s.opAt n).swapQ = [] → s.freeSpares n = [] → lane < s.laneCount n → ∃ t, exec (.swapAsk n lane cause) s = .next t ∧
    bitOf (t.get (Reg.EVT (64 + n))) 4 = true ∧ t.get (Reg.LAM_SWAP_NOSPARE n) = min (s.get (Reg.LAM_SWAP_NOSPARE n) + 1) (2 ^ 8 - 1) ∧
    (cause = 1 → (t.opAt n).exhausted = true ∧ bitOf (t.get (Reg.EVT (64 + n))) 7 = true) ∧ (cause ≠ 1 → t.opAt n = s.opAt n)) ∧
  (∀ lane cause w, (s.opAt n).swapT = some w → w.lane = lane → exec (.swapAsk n lane cause) s = .next s) ∧
  (∃ t, exec (.swapMessageRepeat n) s = .next t ∧ t.regs = s.regs ∧ (t.opAt n).swapT = (s.opAt n).swapT ∧
    (∀ w, (s.opAt n).swapT = some w → if w.cancel then Says s t n 0x14 [w.id] else Says s t n 0x10 [w.id, w.lane, w.new]) ∧
    (∀ r, (s.opAt n).swapR = some r → r.ready = true → Says s t n 0x11 [r.id]) ∧ (∀ a ∈ (s.opAt n).asks, Says s t n 0x16 [a.1, a.2])) ∧
  (s.get (Reg.LAM_CTL_CAL_EN n) = 1 → s.trained n = true → s.brynn n = false → (s.opAt n).cal = none → (s.opAt n).swapT = none → (s.opAt n).swapQ = [] → s.tuneRuns = true → ∀ k, s.calNext n (s.get (Reg.LAM_CAL_NEXT n)) = some k → k < 36 →
    (lineLane (s.opAt n).remapTx k = none → ∃ t, exec (.lineCal n) s = .next t ∧ (t.opAt n).cal = some (k, none) ∧ Says s t n 0x17 [k, 1] ∧ t.get (Reg.LAM_CAL_NEXT n) = k) ∧
    (∀ lane j, lineLane (s.opAt n).remapTx k = some lane → (s.freeSpares n).head? = some j → ∃ t, exec (.lineCal n) s = .next t ∧ SwapBegun s t n lane j) ∧
    (∀ lane, lineLane (s.opAt n).remapTx k = some lane → s.freeSpares n = [] → ∃ t, exec (.lineCal n) s = .next t ∧ bitOf (t.get (Reg.EVT (64 + n))) 8 = true ∧ t.opAt n = s.opAt n)) ∧
  (∀ k, (s.opAt n).cal = some (k, none) → (s.opAt n).exhausted = false → ∃ t, exec (.lineCalEnd n) s = .next t ∧ (t.opAt n).cal = none ∧ Says s t n 0x17 [k, 0] ∧ t.get (Reg.LAM_CAL_NEXT n) = (k + 1) % 36) ∧
  (∀ k lane, (s.opAt n).cal = some (k, some lane) → s.canSwap n = true → (s.opAt n).swapT = none → (s.opAt n).swapQ = [] → (s.ringAt n false k).good = true → lineLane (s.opAt n).remapTx k = none →
    ∃ t, exec (.lineCalEnd n) s = .next t ∧ (t.opAt n).cal = none ∧ SwapBegun s t n lane k)
/-- R204, R205, R209, R210, R211, Table LINK-7: training. Each step that ends well leads to the next: T1's lock, T2's signal, T3's lanes, identified from their markers, within its limits of darkness and skew, and T4's equalisation, which sends TRAIN_ID; T3 builds the receive remap, which in Brynn mode fixes each lane to its line; no signal, too many dark lanes, skew and a step's limit end the attempt with their causes; a port without a node ID holds in T5; in T6 a TRAIN_ACK not answered is sent again. Where it rests on the model's own choices these are assumptions 1 and 29. Completion is stated for: t1Pll, t2Signal, t3Align, t4Eq, trainingTimeout, trainIdRepeat. -/
def Obligations.TrainingStepByStep : Prop := ∀ (s : State) (n : OpId), s.keep.mgmtOn = true →
  (s.inStep n 1 = true → ∃ t, exec (.t1Pll n) s = .next t ∧ t.inStep n 2 = true ∧ bitOf (t.get Reg.CLK_LINE_LOCK) n = true ∧ OnlyRegs s t [Reg.CLK_LINE_LOCK, Reg.OP_STAT_TSTEP n]) ∧
  (∀ lanes, lanes ≠ 0 → s.inStep n 2 = true → ∃ t, exec (.t2Signal n lanes) s = .next t ∧ t.inStep n 3 = true ∧
    SameRegs s t [Reg.OP_STAT_TSTEP n] ∧ t = { s with regs := t.regs, op := t.op, rings := t.rings }) ∧
  (∀ ms, s.inStep n 3 = true → (s.darkLanes n ms).length ≤ 1 → (s.brynn n = true → s.darkLanes n ms = []) → markerSkew ms ≤ 64 → ∃ t, exec (.t3Align n ms) s = .next t ∧
    t.inStep n 4 = true ∧ (∀ l, l < 32 → bitOf (t.opAt n).dark l = decide (l ∈ s.darkLanes n ms)) ∧
    (s.brynn n = true → ∀ l, l < 32 → laneLine (t.opAt n).remapRx l = l) ∧
    (s.brynn n = false → ∀ l k, l < 32 → markedLine ms l = some k → laneLine (t.opAt n).remapRx l = k)) ∧
  (s.inStep n 4 = true → s.get Reg.ROUTE_NODE_VALID = 1 → (s.opAt n).peerId = none → ∃ t, exec (.t4Eq n) s = .next t ∧ t.inStep n 5 = true ∧ (t.opAt n).held = false ∧
    ∃ f, t.sent = .lctl n 0x01 f 0x3FF (s.get Reg.ROUTE_NODE_NODE) :: s.sent ∧ f.head? = some (s.get Reg.ROUTE_NODE_NODE)) ∧
  (s.inStep n 4 = true → s.get Reg.ROUTE_NODE_VALID = 0 → ∃ t, exec (.t4Eq n) s = .next t ∧ t.inStep n 5 = true ∧ (t.opAt n).held = true ∧ t.get (Reg.OP_TRAIN_CAUSE n) = 7 ∧
    ∃ f, .lctl n 0x01 f 0x3FF (s.get Reg.ROUTE_NODE_NODE) ∈ t.sent) ∧
  (s.inStep n 5 = true ∨ s.inStep n 6 = true → ∃ t, exec (.trainIdRepeat n) s = .next t ∧ t.regs = s.regs ∧ t.op = s.op ∧ (∃ f, s.lctlFrame n 0x01 f ∈ t.sent ∧ f.head? = some (s.get Reg.ROUTE_NODE_NODE)) ∧
    (s.inStep n 6 = true → (s.opAt n).ackSent = true → (s.opAt n).ackGot = false → s.lctlFrame n 0x02 ((s.opAt n).rxEpoch :: List.replicate 16 512) ∈ t.sent)) ∧
  (s.get (Reg.LINK_CTL_RETRY n) = 0 →
    (s.inStep n 2 = true → ∃ t, exec (.t2Signal n 0) s = .next t ∧ t.get (Reg.OP_STAT_PSTATE n) = 6 ∧ t.get (Reg.OP_TRAIN_CAUSE n) = 2 ∧ bitOf (t.get (Reg.EVT (48 + n))) 1 = true) ∧
    (∀ ms, s.inStep n 3 = true → 1 < (s.darkLanes n ms).length → ∃ t, exec (.t3Align n ms) s = .next t ∧ t.get (Reg.OP_STAT_PSTATE n) = 6 ∧ t.get (Reg.OP_TRAIN_CAUSE n) = 3) ∧
    (∀ ms, s.inStep n 3 = true → s.darkLanes n ms = [] → 64 < markerSkew ms → ∃ t, exec (.t3Align n ms) s = .next t ∧ t.get (Reg.OP_STAT_PSTATE n) = 6 ∧ t.get (Reg.OP_TRAIN_CAUSE n) = 4) ∧
    (∀ k, s.inStep n k = true → 1 ≤ k → k ≤ 6 → (s.opAt n).held = false → ∃ t, exec (.trainingTimeout n) s = .next t ∧ t.get (Reg.OP_STAT_PSTATE n) = 6 ∧ t.get (Reg.OP_TRAIN_CAUSE n) = [0, 1, 2, 3, 5, 10, 10].getD k 0 ∧
      t.get (Reg.OP_TRAIN_FAIL_CNT n) = min (s.get (Reg.OP_TRAIN_FAIL_CNT n) + 1) (2 ^ 16 - 1))) ∧
  ((s.opAt n).held = true → exec (.trainingTimeout n) s = .next s)

/-- R208, R210, R211, R214, R320: the identity check of T5 and the credits of T6. The checks come in their order: no node ID, another domain, this node's own ID unless the peer reports the other role of a pair, mode or FEC; a peer that passes brings T6, and TRAIN_ACK with 512 credits to every pool goes out once every lane is on a good line; with both acknowledgements passed the port is ACTIVE; CREDIT adds to the pools under the current epoch alone, and freed blocks go back in one message, for which a sleeping port is woken. Where it rests on the model's own choices these are assumptions 1 and 29. Completion is stated for: trainId, trainAck, credit, creditReturn. -/
def Obligations.IdentityAndCredits : Prop := ∀ (s : State) (n : OpId), s.keep.mgmtOn = true →
  (∀ id : TrainId, s.inStep n 5 = true → id.node < 1024 → id.domain < 65536 →
    (∃ t, exec (.trainId n id) s = .next t ∧ t.get (Reg.OP_PEER_NODE n) = id.node ∧ t.get (Reg.OP_PEER_DOM_DOMAIN n) = id.domain ∧ t.get (Reg.OP_PEER_VALID n) = 1) ∧
    (s.get Reg.ROUTE_NODE_VALID = 0 → ∃ t, exec (.trainId n id) s = .next t ∧ t.inStep n 5 = true ∧ (t.opAt n).held = true ∧ t.get (Reg.OP_TRAIN_CAUSE n) = 7 ∧ ((s.opAt n).held = false → bitOf (t.get (Reg.EVT (48 + n))) 5 = true)) ∧
    (s.get Reg.ROUTE_NODE_VALID = 1 → s.get Reg.ROUTE_NODE_DOMAIN ≠ id.domain → ∃ t, exec (.trainId n id) s = .next t ∧ t.inStep n 5 = true ∧ (t.opAt n).held = true ∧ t.get (Reg.OP_TRAIN_CAUSE n) = 8 ∧
      ((s.opAt n).held = false → bitOf (t.get (Reg.EVT (48 + n))) 6 = true)) ∧
    (s.get Reg.ROUTE_NODE_VALID = 1 → s.get Reg.ROUTE_NODE_DOMAIN = id.domain → s.get Reg.ROUTE_NODE_NODE = id.node → (s.get Reg.TWIN_STAT_PAIRED = 0 ∨ id.role = 0 ∨ id.role = s.get Reg.TWIN_STAT_ROLE) →
      ∃ t, exec (.trainId n id) s = .next t ∧ (t.opAt n).held = true ∧ t.get (Reg.OP_TRAIN_CAUSE n) = 9 ∧ ((s.opAt n).held = false → bitOf (t.get (Reg.EVT (48 + n))) 7 = true)) ∧
    (s.get Reg.ROUTE_NODE_VALID = 1 → s.get Reg.ROUTE_NODE_DOMAIN = id.domain → (s.get Reg.ROUTE_NODE_NODE ≠ id.node ∨ s.isTwin id.role = true) → s.brynn n = false → b2n id.nrz ≠ s.get (Reg.LINK_CTL_MODE n) → s.get (Reg.LINK_CTL_RETRY n) = 0 →
      ∃ t, exec (.trainId n id) s = .next t ∧ t.get (Reg.OP_STAT_PSTATE n) = 6 ∧ t.get (Reg.OP_TRAIN_CAUSE n) = 6) ∧
    (s.get Reg.ROUTE_NODE_VALID = 1 → s.get Reg.ROUTE_NODE_DOMAIN = id.domain → (s.get Reg.ROUTE_NODE_NODE ≠ id.node ∨ s.isTwin id.role = true) → s.brynn n = false → b2n id.nrz = s.get (Reg.LINK_CTL_MODE n) → b2n id.far = s.get (Reg.LINK_CTL_FEC n) →
      (∀ l, l < 32 → (s.ringAt n false (laneLine (s.opAt n).remapTx l)).good = true) → (s.opAt n).dark = 0 → (s.opAt n).ackSent = false → (s.opAt n).ackGot = false → (s.opAt n).swapT = none → (s.opAt n).swapQ = [] → (s.opAt n).exhausted = false →
      ∃ t, exec (.trainId n id) s = .next t ∧ t.inStep n 6 = true ∧ (t.opAt n).ackSent = true ∧ t.get (Reg.OP_STAT_CAPS n) = (7 &&& id.caps) % 8 ∧
        t.sent = .lctl n 0x02 (((s.opAt n).rxEpoch + 1) % 16 :: List.replicate 16 512) id.node (s.get Reg.ROUTE_NODE_NODE) :: s.sent ∧ ∀ p, p < 16 → t.get (Reg.OP_CRA_RX_GRANT n p) = 512)) ∧
  (∀ e credits, s.inStep n 6 = true → e < 16 → e ≠ s.get (Reg.OP_STAT_EPOCH n) → (∀ c ∈ credits, c < 65536) → ∃ t, exec (.trainAck n e credits) s = .next t ∧ (t.opAt n).txCr = credits ∧ t.get (Reg.OP_STAT_EPOCH n) = e ∧
    ((s.opAt n).ackSent = true → t.get (Reg.OP_STAT_PSTATE n) = 2 ∧ bitOf (t.get (Reg.EVT (48 + n))) 0 = true) ∧ ((s.opAt n).ackSent = false → t.inStep n 6 = true) ∧
    ∀ p, p < 16 → t.get (Reg.OP_CRA_TX_GRANT n p) = credits.getD p 0) ∧
  (∀ credits, exec (.trainAck n (s.get (Reg.OP_STAT_EPOCH n)) credits) s = .next s ∨ 16 ≤ s.get (Reg.OP_STAT_EPOCH n)) ∧
  (∀ e credits, s.trained n = true → e = s.get (Reg.OP_STAT_EPOCH n) → (s.opAt n).txCr.length = 16 → credits.length = 16 → ∃ t, exec (.credit n e credits) s = .next t ∧ t = { s with op := t.op } ∧
    ∀ p, p < 16 → (t.opAt n).txCr.getD p 0 = (s.opAt n).txCr.getD p 0 + credits.getD p 0) ∧
  (∀ e credits, e ≠ s.get (Reg.OP_STAT_EPOCH n) → exec (.credit n e credits) s = .next s) ∧
  (s.get (Reg.OP_STAT_PSTATE n) = 2 → (∃ c ∈ (s.opAt n).rxFreed, c ≠ 0) → ∃ t, exec (.creditReturn n) s = .next t ∧ (t.opAt n).rxFreed = List.replicate 16 0 ∧ t.regs = s.regs ∧
    Says s t n 0x03 ((s.opAt n).rxEpoch :: (s.opAt n).rxFreed)) ∧
  (s.get (Reg.OP_STAT_PSTATE n) ∈ [3, 4] → (s.opAt n).waking = false → (∃ c ∈ (s.opAt n).rxFreed, c ≠ 0) → ∃ t, exec (.creditReturn n) s = .next t ∧ (t.opAt n).rxFreed = (s.opAt n).rxFreed ∧
    t.sent = .wake n :: s.sent ∧ (t.opAt n).waking = true ∧ t.regs = s.regs)

/-- R36, R37, R206, R212, R213, R216, Table CLK-2: leaving service. A lost LINE PLL, a changed LINK_CTL, a loop-back, a far-end loop and the link-loss timer are link resets of a trained port: credits void and reported, the Pantry kept; the timer and a DOWN notice raise PEER_DOWN with their source; an errored lane, its symbols added up over the window, is asked for once a window. Where it rests on the model's own choices these are assumption 29. Completion is stated for: linePllLoss, linkCtlWrite, opLbMode, loopReq, loopAck, loopReqRepeat, down, linkLossTimer, laneErrorLimit, errorWindow. -/
def Obligations.LinkResetsLoopsAndPeerDown : Prop := ∀ (s : State) (n : OpId), s.keep.mgmtOn = true →
  (s.trained n = true → ∃ t, exec (.linePllLoss n) s = .next t ∧ LinkReset s t n ∧ bitOf (t.get Reg.CLK_LINE_LOCK) n = false ∧ bitOf (t.get (Reg.EVT (48 + n))) 8 = true) ∧
  (∀ p (v : Word), s.trained n = true → s.writable p ((48 + n.val) * 4096 + 0x40) v.toNat = true → v.toNat % 2 = 0 → s.get (Reg.LINK_CTL_EN n) = 1 → ∃ t, exec (.linkCtlWrite p n v) s = .next t ∧ LinkReset s t n ∧
    t.get (Reg.OP_STAT_PSTATE n) = 0 ∧ t.get (Reg.LINK_CTL_EN n) = 0 ∧ Answered t p 0) ∧
  (∀ p (v : Word), s.trained n = true → s.writable p ((48 + n.val) * 4096 + 0x40) v.toNat = true → v.toNat % 2 = 1 → s.get (Reg.LINK_CTL_EN n) = 1 →
    v.toNat / 2 % 8 = s.get (Reg.LINK_CTL_COMPAT n) + 2 * s.get (Reg.LINK_CTL_MODE n) + 4 * s.get (Reg.LINK_CTL_FEC n) → ∃ t, exec (.linkCtlWrite p n v) s = .next t ∧ t.op = s.op ∧
      t.get (Reg.OP_STAT_PSTATE n) = s.get (Reg.OP_STAT_PSTATE n) ∧ t.get (Reg.LINK_CTL_LPS_EN n) = v.toNat / 16 % 2 ∧ t.get (Reg.LINK_CTL_RETRY n) = v.toNat / 32 % 2 ∧ Answered t p 0) ∧
  (∀ p (v : Word), 3 ≤ s.power → s.get (Reg.LINK_CTL_EN n) = 1 → s.writable p ((48 + n.val) * 4096 + 0x70) v.toNat = true → v.toNat % 4 ≠ 0 → s.get (Reg.OP_LB_MODE n) = 0 → ∃ t, exec (.opLbMode p n v) s = .next t ∧
    LinkReset s t n ∧ t.get (Reg.OP_STAT_PSTATE n) = 5 ∧ t.get (Reg.OP_LB_MODE n) = v.toNat % 4 ∧ (v.toNat % 4 = 3 → .lctl n 0x50 [1] 0x3FF (s.get Reg.ROUTE_NODE_NODE) ∈ t.sent ∧ (t.opAt n).loopReq = some true) ∧ Answered t p 0) ∧
  (s.brynn n = false → s.trained n = true → (s.opAt n).farLoop = false → ∃ t, exec (.loopReq n true) s = .next t ∧ LinkReset s t n ∧ t.get (Reg.OP_STAT_PSTATE n) = 5 ∧ (t.opAt n).farLoop = true ∧
    t.sent.head? = some (.lctl n 0x51 [1] 0x3FF (s.get Reg.ROUTE_NODE_NODE)) ∧ bitOf (t.get (Reg.EVT (48 + n))) 4 = true) ∧
  (s.brynn n = true → ∀ enter, exec (.loopReq n enter) s = .next s) ∧
  (∀ enter, (s.opAt n).loopReq = some enter → ∃ t, exec (.loopAck n enter) s = .next t ∧ (t.opAt n).loopReq = none ∧ t.get (Reg.OP_LB_FAR_OK n) = b2n (enter && s.get (Reg.OP_LB_MODE n) == 3)) ∧
  (∀ enter, (s.opAt n).loopReq = some enter → ∃ t, exec (.loopReqRepeat n) s = .next t ∧ Says s t n 0x50 [b2n enter] ∧ t.regs = s.regs ∧ (t.opAt n).loopReq = some enter) ∧
  (∀ node reason, node < 1024 → ∃ t, exec (.down n node reason) s = .next t ∧ t.get (Reg.OP_DOWN_NODE n) = node ∧ t.get (Reg.OP_DOWN_SRC n) = 0 ∧ t.get (Reg.OP_DOWN_VALID n) = 1 ∧
    bitOf (t.get (Reg.EVT (48 + n))) 3 = true ∧ OnlyIrqs s t [48 + n.val] ∧ t.op = s.op) ∧
  ((s.opAt n).lossTimer = true → s.trained n = true → ∃ t, exec (.linkLossTimer n) s = .next t ∧ LinkReset s t n ∧ t.get (Reg.OP_DOWN_SRC n) = 1 ∧ t.get (Reg.OP_DOWN_VALID n) = 1 ∧
    bitOf (t.get (Reg.EVT (48 + n))) 3 = true) ∧
  (∀ lane syms, s.trained n = true → lane < 32 → s.get (Reg.OP_ERR_LIM_SYM n) ≤ tget 0 (s.opAt n).errs lane + syms → bitOf (s.opAt n).errLanes lane = false → lineLane (s.opAt n).remapRx (laneLine (s.opAt n).remapRx lane) = some lane →
    s.canSwap n = true → s.get (Reg.LAM_CTL_AUTO_SPARE n) = 1 → ∃ t, exec (.laneErrorLimit n lane syms) s = .next t ∧ Says s t n 0x16 [lane, 4] ∧ bitOf (t.opAt n).errLanes lane = true ∧
      t.get (Reg.OP_FEC_CORR_SYM n) = min (s.get (Reg.OP_FEC_CORR_SYM n) + syms) (2 ^ 32 - 1)) ∧
  (∀ lane syms, s.trained n = true → (bitOf (s.opAt n).errLanes lane = true ∨ tget 0 (s.opAt n).errs lane + syms < s.get (Reg.OP_ERR_LIM_SYM n)) → ∃ t, exec (.laneErrorLimit n lane syms) s = .next t ∧
    SameRegs s t [Reg.OP_FEC_CORR_SYM n] ∧ t = { s with regs := t.regs, op := t.op } ∧ tget 0 (t.opAt n).errs lane = tget 0 (s.opAt n).errs lane + syms) ∧
  (∃ t, exec (.errorWindow n) s = .next t ∧ (t.opAt n).errLanes = 0 ∧ (t.opAt n).errs = [] ∧ t = { s with op := t.op })

/-- R26, R214, R215: NAP and DOZE. An idle port asks; an agreed request, a crossed one and an answered one lead to the state; a busy transmit side refuses; a refusal or no answer ends the request; waking sends the pattern and brings the port back to ACTIVE with its credits kept, and the messages that waited leave. Completion is stated for: idleToNap, napToDoze, napReq, napAck, napNak, dozeReq, dozeAck, dozeNak, lpsAnswerTimeout, portWake, portWakeDone. -/
def Obligations.LowPowerHandshakes : Prop := ∀ (s : State) (n : OpId),
  (s.get (Reg.OP_STAT_PSTATE n) = 2 → s.lpsOk n = true → s.get (Reg.OP_LPS_IDLE_NAP n) ≠ 0 → (s.opAt n).lps = .none → ∃ t, exec (.idleToNap n) s = .next t ∧ Says s t n 0x20 [] ∧ (t.opAt n).lps = .nap ∧ t.regs = s.regs) ∧
  (s.get (Reg.OP_STAT_PSTATE n) = 3 → s.lpsOk n = true → s.get (Reg.OP_LPS_NAP_DOZE n) ≠ 0 → (s.opAt n).lps = .none → ∃ t, exec (.napToDoze n) s = .next t ∧ t.sent = s.lctlFrame n 0x23 [] :: s.sent ∧ (t.opAt n).lps = .doze ∧ t.regs = s.regs) ∧
  (s.get (Reg.OP_STAT_PSTATE n) = 2 → s.brynn n = false →
    ((s.opAt n).lps = .nap → ∃ t, exec (.napReq n) s = .next t ∧ t.get (Reg.OP_STAT_PSTATE n) = 3 ∧ t.sent = s.sent ∧ (t.opAt n).lps = .none) ∧
    ((s.opAt n).lps ≠ .nap → s.lpsOk n = true → s.txIdle n = true → ∃ t, exec (.napReq n) s = .next t ∧ t.get (Reg.OP_STAT_PSTATE n) = 3 ∧ t.sent = s.lctlFrame n 0x21 [] :: s.sent) ∧
    ((s.opAt n).lps ≠ .nap → (s.lpsOk n = false ∨ s.txIdle n = false) → ∃ t, exec (.napReq n) s = .next t ∧ Says s t n 0x22 [] ∧ t.regs = s.regs)) ∧
  (s.get (Reg.OP_STAT_PSTATE n) = 3 → s.brynn n = false →
    ((s.opAt n).lps = .doze → ∃ t, exec (.dozeReq n) s = .next t ∧ t.get (Reg.OP_STAT_PSTATE n) = 4 ∧ t.sent = s.sent ∧ (t.opAt n).lps = .none) ∧
    ((s.opAt n).lps ≠ .doze → s.lpsOk n = true → s.txIdle n = true → ∃ t, exec (.dozeReq n) s = .next t ∧ t.get (Reg.OP_STAT_PSTATE n) = 4 ∧ t.sent = s.lctlFrame n 0x24 [] :: s.sent) ∧
    ((s.opAt n).lps ≠ .doze → (s.lpsOk n = false ∨ s.txIdle n = false) → exec (.dozeReq n) s = .next { s with sent := s.lctlFrame n 0x25 [] :: s.sent })) ∧
  ((s.opAt n).lps = .nap → s.get (Reg.OP_STAT_PSTATE n) = 2 → ∃ t, exec (.napAck n) s = .next t ∧ t.get (Reg.OP_STAT_PSTATE n) = 3 ∧ OnlyRegs { s with op := t.op } t [Reg.OP_STAT_PSTATE n] ∧ (t.opAt n).txCr = (s.opAt n).txCr) ∧
  ((s.opAt n).lps = .doze → s.get (Reg.OP_STAT_PSTATE n) = 3 → ∃ t, exec (.dozeAck n) s = .next t ∧ t.get (Reg.OP_STAT_PSTATE n) = 4 ∧ OnlyRegs { s with op := t.op } t [Reg.OP_STAT_PSTATE n] ∧ (t.opAt n).txCr = (s.opAt n).txCr) ∧
  ((s.opAt n).lps = .nap → ∃ t, exec (.napNak n) s = .next t ∧ t.opAt n = { s.opAt n with lps := .none } ∧ t = { s with op := t.op }) ∧
  ((s.opAt n).lps = .doze → ∃ t, exec (.dozeNak n) s = .next t ∧ t.opAt n = { s.opAt n with lps := .none } ∧ t = { s with op := t.op }) ∧
  (∃ t, exec (.lpsAnswerTimeout n) s = .next t ∧ t.opAt n = { s.opAt n with lps := .none } ∧ t = { s with op := t.op }) ∧
  (s.get (Reg.OP_STAT_PSTATE n) ∈ [3, 4] → (s.opAt n).waking = false → ∃ t, exec (.portWake n) s = .next t ∧ t.sent = .wake n :: s.sent ∧ t.opAt n = { s.opAt n with waking := true, lps := .none } ∧ t.regs = s.regs) ∧
  ((s.opAt n).waking = true → (s.opAt n).lctlQ = [] → ∃ t, exec (.portWakeDone n) s = .next t ∧ t.get (Reg.OP_STAT_PSTATE n) = 2 ∧ t.opAt n = { s.opAt n with waking := false } ∧ OnlyRegs { s with op := t.op } t [Reg.OP_STAT_PSTATE n]) ∧
  (∀ code fields, s.trained n = true → (s.opAt n).waking = true → (s.opAt n).lctlQ = [(code, fields)] → code ≠ 0x30 → code ≠ 0x31 → ∃ t, exec (.portWakeDone n) s = .next t ∧
    t.get (Reg.OP_STAT_PSTATE n) = 2 ∧ Says s t n code fields ∧ (t.opAt n).waking = false)

/-- R219, R220: fabric time. A node that is not the source asks on every trained port; one whose parent is lost, or has no source itself, takes another or runs free; a request is answered with the node's distance, and a source that hears distance 0 from a lower node ID gives up its role; the parent's answer brings the distance one further, is shown, and steps FTIME by an offset above 1 µs or leaves it to be slewed; a read of TIME_NOW_LO latches the upper half. Where it rests on the model's own choices these are assumptions 1 and 28. Completion is stated for: timeExchange, timeReq, timeRsp, timeNowRead. -/
def Obligations.FabricTime : Prop := ∀ s : State,
  (s.get Reg.TIME_CTL_SRC = 0 → s.coreClocked = true → s.parentLost = false → ∃ t, exec .timeExchange s = .next t ∧ t.regs = s.regs ∧
    ∀ n, n < 16 → s.trained n = true → (s.lctlNow n = true → (t.opAt n).t1 = some s.ftime ∧ s.lctlFrame n 0x30 [s.dist, s.ftime] ∈ t.sent) ∧
      (s.lctlNow n = false → (∃ f, (0x30, f) ∈ (t.opAt n).lctlQ) ∧ (s.get (Reg.OP_STAT_PSTATE n) ≠ 2 → (t.opAt n).waking = true))) ∧
  (s.get Reg.TIME_CTL_SRC = 0 → s.coreClocked = true → s.parentLost = true → s.keep.mgmtOn = true → ∃ t, exec .timeExchange s = .next t ∧ bitOf (t.get (Reg.EVT 11)) 1 = true ∧
    (s.timeParent = none → t.get Reg.TIME_STAT_SYNC = 0 ∧ t.get Reg.TIME_STAT_DIST = 63) ∧
    (∀ m, s.timeParent = some m → t.get Reg.TIME_STAT_PARENT = m ∧ t.get Reg.TIME_STAT_DIST = min ((s.opAt m).peerDist + 1) 62 ∧ t.get Reg.TIME_STAT_SYNC = s.get Reg.TIME_STAT_SYNC)) ∧
  (∀ (n : OpId) d t1, s.trained n = true → ∃ t, exec (.timeReq n d t1) s = .next t ∧ (t.opAt n).peerDist = d ∧ Says s t n 0x31 [t.dist, t1, s.ftime, s.ftime] ∧
    ((s.get Reg.TIME_CTL_SRC = 1 → d ≠ 0 ∨ s.get Reg.ROUTE_NODE_NODE ≤ s.get (Reg.OP_PEER_NODE n)) → (s.get Reg.TIME_CTL_SRC = 0 → s.get Reg.TIME_STAT_SYNC = 0) → t.regs = s.regs)) ∧
  (∀ (n : OpId) t1, s.trained n = true → s.get Reg.TIME_CTL_SRC = 1 → s.get (Reg.OP_PEER_NODE n) < s.get Reg.ROUTE_NODE_NODE → s.keep.mgmtOn = true → ∃ t, exec (.timeReq n 0 t1) s = .next t ∧ t.get Reg.TIME_CTL_SRC = 0 ∧
    t.get Reg.TIME_STAT_PARENT = n ∧ t.get Reg.TIME_STAT_DIST = 1 ∧ t.get Reg.TIME_STAT_SYNC = 1 ∧ bitOf (t.get (Reg.EVT 11)) 2 = true) ∧
  (∀ (n : OpId) (d t1 t2 t3 : Nat) (x : Int), s.get Reg.TIME_CTL_SRC = 0 → s.trained n = true → (s.opAt n).t1 = some t1 → d < 62 → (∀ m, m < 16 → m ≠ n.val → s.trained m = true → d < (s.opAt m).peerDist) → s.keep.mgmtOn = true →
    s.get (Reg.OP_TIME_ASYM_PS n) = 0 → ((t2 : Int) - t1) - ((s.ftime : Int) - t3) = 2 * x → -(2 ^ 31 : Int) ≤ x → x < 2 ^ 31 → ∃ t, exec (.timeRsp n d t1 t2 t3) s = .next t ∧ t.get Reg.TIME_STAT_PARENT = n ∧ t.get Reg.TIME_STAT_DIST = d + 1 ∧
      t.get Reg.TIME_STAT_SYNC ≠ 0 ∧ (t.get Reg.TIME_OFS_NS : Int) = x % 2 ^ 32 ∧ (s.get Reg.TIME_STAT_SYNC = 0 → bitOf (t.get (Reg.EVT 11)) 0 = true) ∧
      (x < -1000 ∨ 1000 < x → (t.ftime : Int) = ((s.ftime : Int) + x) % 2 ^ 64 ∧ t.slew = 0 ∧ bitOf (t.get (Reg.EVT 11)) 3 = true) ∧ (-1000 ≤ x → x ≤ 1000 → t.ftime = s.ftime ∧ t.slew = x)) ∧
  (∀ (n : OpId) d t1 t2 t3, (s.opAt n).t1 ≠ some t1 → exec (.timeRsp n d t1 t2 t3) s = .next s) ∧
  (∀ p, s.readable p 0xB040 = true → s.ftime < 2 ^ 64 → ∃ t, exec (.timeNowRead p) s = .next t ∧ t.get Reg.TIME_NOW_HI_NS = s.ftime / 2 ^ 32 ∧ OnlyRegs { s with sent := t.sent } t [Reg.TIME_NOW_HI_NS] ∧ Answered t p (s.ftime % 2 ^ 32))

/-- R90, R92 to R99, R106, R404, Table PAGE-2: what becomes of a register access. An unserved address answers UNSUPPORTED or NOT_READY, a register only the mailbox's owner writes answers OWNER, a refused value changes nothing and sets ERR [1], a locked one answers LOCKED and sets ERR [0], a parity error answers PARITY and sets ERR [2]; CTL_LOCK locks the page; new thresholds are judged at once. Where it rests on the model's own choices these are assumptions 16 and 17. Completion is stated for: registerWrite, ctlLock, watermarkThresholdWrite, regParity, heatThrWrite. -/
def Obligations.RegisterAccessesAnswerTheirStatus : Prop := ∀ (s : State) (p : Path) (a : RegAddr) (v : Word), s.serves p = true →
  (∀ st, s.accFault a = some st → (∃ t, exec (.registerWrite p a v) s = .next t ∧ t.sent = .access p st 0 :: s.sent ∧
    OnlyRegs { s with sent := t.sent } t [Reg.MBOX_ACC_PAGE, Reg.MBOX_ACC_OFFSET, Reg.MBOX_ACC_STATUS, Reg.MBOX_ACC_PATH, Reg.MBOX_ACC_VALID] ∧
    (s.keep.mgmtOn = true → t.get Reg.MBOX_ACC_VALID = 1 ∧ t.get Reg.MBOX_ACC_PAGE = a / 4096 % 256 ∧ t.get Reg.MBOX_ACC_OFFSET = a % 4096 ∧ t.get Reg.MBOX_ACC_STATUS = st ∧ t.get Reg.MBOX_ACC_PATH = pathCode p)) ∧
    ∀ rd, exec (.regParity a rd) s = .next s) ∧
  (s.accFault a = none →
    (ownerOnly (a / 4096) (a % 4096) = true → s.get Reg.MBOX_OWN_OWNER ≠ pathCode p → ∃ t, exec (.registerWrite p a v) s = .next t ∧ t.sent = .access p 4 0 :: s.sent ∧
      OnlyRegs { s with sent := t.sent } t [Reg.MBOX_ACC_PAGE, Reg.MBOX_ACC_OFFSET, Reg.MBOX_ACC_STATUS, Reg.MBOX_ACC_PATH, Reg.MBOX_ACC_VALID]) ∧
    (ownerOnly (a / 4096) (a % 4096) = false → s.refuses (a / 4096) (a % 4096) v.toNat = true → ∃ t, exec (.registerWrite p a v) s = .next t ∧ Answered t p 0 ∧
      bitOf (t.get (Reg.ERR (a / 4096))) 1 = true ∧ Collected s t (a / 4096) []) ∧
    (s.keep.mgmtOn = true → a / 4096 ≠ 3 → (∃ t, exec (.regParity a (some p)) s = .next t ∧ t.sent.head? = some (.access p 5 0) ∧ bitOf (t.get (Reg.ERR (a / 4096))) 2 = true ∧
        Collected { s with mgmt := t.mgmt } t (a / 4096) [] ∧ a ∈ t.mgmt.parityBad) ∧
      ∃ t, exec (.regParity a none) s = .next t ∧ bitOf (t.get (Reg.ERR (a / 4096))) 2 = true ∧ Collected { s with mgmt := t.mgmt } t (a / 4096) [] ∧ a ∈ t.mgmt.parityBad) ∧
    (s.keep.mgmtOn = true → a / 4096 = 3 → ∃ t, exec (.regParity a none) s = .next t ∧ t.get Reg.FAULT_STAT_PARITY = 1 ∧ t.keep.inTrap = true)) ∧
  (s.keep.mgmtOn = true → s.get (Reg.LOCK 4) ≠ 0 → heatThrOk v.toNat = true → ∃ t, exec (.heatThrWrite p v) s = .next t ∧ t.sent.head? = some (.access p 3 0) ∧ bitOf (t.get (Reg.ERR 4)) 0 = true ∧
    t.mgmt.sensors = s.mgmt.sensors ∧ (∀ c ∈ s.fieldsOf 4 0x4C, t.get c.fld = s.get c.fld) ∧ t.get Reg.MBOX_ACC_STATUS = 3) ∧
  (∀ page : Page, s.writable p (page.val * 4096 + 8) 0 = true → s.get (Reg.IRQ_EN page) < 2 → ∃ t, exec (.ctlLock p page) s = .next t ∧ Answered t p 0 ∧ t.get (Reg.LOCK page) = 1 ∧
    OnlyRegs { s with sent := t.sent, mgmt := t.mgmt } t [Reg.LOCK page] ∧ t.mgmt = { s.mgmt with parityBad := t.mgmt.parityBad }) ∧
  (∀ w : Watermark, (s.accFault (wmAddr w)).isNone = true → s.keep.mgmtOn = true →
    (v.toNat % 65536 ≤ v.toNat / 65536 → ∃ t, exec (.watermarkThresholdWrite p w v) s = .next t ∧ Answered t p 0 ∧ t.get (s.markOf w).1.lo = v.toNat % 65536 ∧ t.get (s.markOf w).1.hi = v.toNat / 65536 ∧
      (s.get (s.markOf w).1.lvl = 0 → v.toNat / 65536 ≤ (s.markOf w).2 → t.get (s.markOf w).1.lvl = 1 ∧ t.get (s.markOf w).1.up = 1 ∧ bitOf (t.get (Reg.EVT (s.markOf w).1.page)) (s.markOf w).1.evUp = true) ∧
      (s.get (s.markOf w).1.lvl = 1 → (s.markOf w).2 < v.toNat % 65536 → t.get (s.markOf w).1.lvl = 0 ∧
        (s.get (s.markOf w).1.dnEn ≠ 0 → t.get (s.markOf w).1.dn = 1 ∧ bitOf (t.get (Reg.EVT (s.markOf w).1.page)) (s.markOf w).1.evDn = true))) ∧
    (v.toNat / 65536 < v.toNat % 65536 → ∃ t, exec (.watermarkThresholdWrite p w v) s = .next t ∧ bitOf (t.get (Reg.ERR (s.markOf w).1.page)) 1 = true ∧ Collected s t (s.markOf w).1.page []))

/-- R101 to R104, R119, R146, Tables PAGE-3, PAGE-4: the access paths. The sideband serves on HP0 and answers UR for a fifth request, another width and a configuration request; the MSP's two commands; a write cut off never happens, and a result cut off is lost; the Hatch's REGACC makes its access at Update-DR and shows the one before at Capture-DR, and an access still pending, which a free value says, keeps another from being made; IDCODE, BYPASS, EXTEST and SAMPLE/PRELOAD; below MGMT the Hatch selects BYPASS for every instruction but IDCODE. Where it rests on the model's own choices these are assumptions 6, 15 and 18. Completion is stated for: registerWrite, sidebandRegisterAccess, mspTransaction, regacc, idcode, bypass, extest, samplePreload. -/
def Obligations.SidebandMspAndHatch : Prop := ∀ s : State,
  (∀ (n : HpId) o (r : SbRequest), n.val ≠ 0 → (s.hpAt n).sbUp = true → exec (.sidebandRegisterAccess n o r) s = .next { s with sent := .sbCpl n false 0 :: s.sent }) ∧
  (∀ (n : HpId) o (r : SbRequest), n.val = 0 → s.serves .sideband = true → (4 ≤ o ∨ r.width ≠ 32 ∨ r.config = true) → ∃ t, exec (.sidebandRegisterAccess n o r) s = .next t ∧ t.get Reg.MBOX_ACC_STATUS = 2 ∧
    t.sent = .sbCpl n false 0 :: .access .sideband 2 0 :: s.sent ∧
    OnlyRegs { s with sent := t.sent } t [Reg.MBOX_ACC_PAGE, Reg.MBOX_ACC_OFFSET, Reg.MBOX_ACC_STATUS, Reg.MBOX_ACC_PATH, Reg.MBOX_ACC_VALID]) ∧
  (∀ (n : HpId) o (r : SbRequest), n.val = 0 → o < 4 → r.width = 32 → r.config = false → r.write = true → s.writable .sideband r.addr r.data.toNat = true →
    ∃ t, exec (.registerWrite .sideband r.addr r.data) s = .next t ∧ exec (.sidebandRegisterAccess n o r) s = .next { t with sent := .sbCpl n true 0 :: t.sent }) ∧
  (∀ (n : HpId) o (r : SbRequest), n.val = 0 → o < 4 → r.width = 32 → r.config = false → r.write = false → s.readable .sideband r.addr = true →
    ∃ t, exec (.sidebandRegisterAccess n o r) s = .next t ∧ t.sent.head? = some (.sbCpl n true (s.word (r.addr / 4096) (r.addr % 4096)))) ∧
  (∀ f : MspFrame, s.keep.vauxGood = true →
    (f.cmd = 2 → ∀ k, f.cut = some k → k < 32 → exec (.mspTransaction f) s = .next s) ∧
    (f.cmd = 2 → f.cut = none → s.writable .msp f.addr.toNat f.data.toNat = true → ∃ t, exec (.registerWrite .msp f.addr.toNat f.data) s = .next t ∧ exec (.mspTransaction f) s = .next { t with sent := .mspOut none 0 :: t.sent }) ∧
    (f.cmd = 2 → ∀ k, f.cut = some k → 32 ≤ k → s.writable .msp f.addr.toNat f.data.toNat = true → ∃ t, exec (.registerWrite .msp f.addr.toNat f.data) s = .next t ∧ exec (.mspTransaction f) s = .next t) ∧
    (f.cmd = 3 → f.cut ≠ none → s.readable .msp f.addr.toNat = true → ∃ t, exec (.mspTransaction f) s = .next t ∧ t.sent.head? = some (.access .msp 0 (s.word (f.addr.toNat / 4096) (f.addr.toNat % 4096)))) ∧
    (f.cmd = 3 → f.cut = none → s.readable .msp f.addr.toNat = true → ∃ t, exec (.mspTransaction f) s = .next t ∧ t.sent.head? = some (.mspOut (some (s.word (f.addr.toNat / 4096) (f.addr.toNat % 4096))) 0)) ∧
    (f.cmd ≠ 2 → f.cmd ≠ 3 → f.cut = none → ∃ t, exec (.mspTransaction f) s = .next t ∧ t.sent = .mspOut none 2 :: .access .msp 2 0 :: s.sent)) ∧
  (s.keep.mgmtOn = true →
    (∀ a d, s.regaccLate = false → s.readable .hatch (a % 1048576) = true → s.accFault a ≠ some 2 → ∃ t due, exec (.regacc false a d) s = .next t ∧
      t.mgmt.regacc = some ⟨0, s.regaccCapture.word (a % 1048576 / 4096) (a % 4096), due, false⟩ ∧
      ∃ l, t.sent = l ++ (.tdo 61 s.regaccOut :: .tdo 8 1 :: s.sent)) ∧
    (s.regaccLate = false → ∀ r, s.mgmt.regacc = some r → s.regaccOut = 1 + r.status * 2 + r.rdata * 512) ∧
    (∀ a d st, s.regaccLate = false → s.accFault (a % 1048576) = some st → ∀ w, ∃ t due, exec (.regacc w a d) s = .next t ∧ t.mgmt.regacc = some ⟨st, 0, due, false⟩ ∧ t.mgmt.hatchIr = .regacc) ∧
    (∀ a d, s.regaccLate = false → s.regaccCapture.writable .hatch (a % 1048576) d.toNat = true → ∃ t due, exec (.registerWrite .hatch (a % 1048576) d) s.regaccCapture = .next t ∧
      exec (.regacc true a d) s = .next { t with mgmt := { t.mgmt with regacc := some ⟨0, 0, due, false⟩ } }) ∧
    (∀ w a d, ∃ t, exec (.regacc w a d) s = .next t ∧ (s.regaccLate = true → t.regs = s.regs ∧ t.mgmt.hatchIr = .regacc ∧ t.mgmt.regacc = s.mgmt.regacc.map fun r => { r with late := true })) ∧
    (∀ d, ∃ t, exec (.extest d) s = .next t ∧ t.mgmt.bscan = d ∧ t.mgmt.extest = true ∧ t.mgmt.hatchIr = .extest ∧ t.regs = s.regs) ∧
    (∀ d, ∃ t, exec (.samplePreload (some d)) s = .next t ∧ t.mgmt.bscan = d ∧ t.mgmt.extest = false ∧ t.mgmt.hatchIr = .samplePreload ∧ t.regs = s.regs) ∧
    (∃ t, exec (.samplePreload none) s = .next t ∧ t.mgmt.bscan = s.mgmt.bscan ∧ t.mgmt.extest = false ∧ t.mgmt.hatchIr = .samplePreload ∧ t.regs = s.regs)) ∧
  (s.keep.vauxGood = true → ∃ t, exec .idcode s = .next t ∧ t.mgmt.hatchIr = .idcode ∧ t.mgmt.extest = false ∧ t.regs = s.regs ∧
    t.sent = .tdo 32 0x10512F6B :: .tdo 8 (if s.keep.mgmtOn then 1 else 5) :: s.sent) ∧
  (s.keep.vauxGood = true → s.keep.mgmtOn = false → ∀ w a d b, ∀ c ∈ [Instr.regacc w a d, .extest b, .samplePreload none, .samplePreload (some b)], ∃ t, exec c s = .next t ∧ t.mgmt.hatchIr = .bypass ∧
    t.mgmt.extest = false ∧ t.regs = s.regs ∧ t.sent = .tdo 1 0 :: .tdo 8 5 :: s.sent) ∧
  (∀ op, s.keep.vauxGood = true → (hatchKnown op.toNat = false ∨ (s.keep.mgmtOn = false ∧ op ≠ 1)) → ∃ t, exec (.bypass op) s = .next t ∧ t.mgmt.hatchIr = .bypass ∧ t.mgmt.extest = false ∧ t.regs = s.regs ∧
    t.sent = .tdo 1 0 :: .tdo 8 (if s.keep.mgmtOn then 1 else 5) :: s.sent)

/-- R105 to R107, R364, R370, R402, Tables MBOX-1, MBOX-2: the mailbox. A free mailbox is claimed, released by its owner while idle and by the Hatch at any time; GO needs the owner and is refused while a command runs; a command meets its checks in their order, and without a housekeeper, or with the clock of the Cellar it needs lost, stays busy; a command that ends, its longest time and an abort show its code, its results and its duration. Where it rests on the model's own choices these are assumptions 1, 10 and 11. Completion is stated for: mboxClaim, mboxRelease, badOpcode, mboxCommandEnd, mboxTimeout, mboxAbort. -/
def Obligations.MailboxOwnershipChecksAndEnds : Prop := ∀ (s : State) (p : Path),
  (s.serves p = true → s.keep.mgmtOn = true →
    (s.get Reg.MBOX_OWN_OWNER = 0 → ∃ t, exec (.mboxClaim p) s = .next t ∧ t.get Reg.MBOX_OWN_OWNER = pathCode p ∧ t.get Reg.MBOX_OWN_CLAIM = 1 ∧ Answered t p 0 ∧
      OnlyRegs { s with sent := t.sent, mgmt := t.mgmt } t [Reg.MBOX_OWN_OWNER, Reg.MBOX_OWN_CLAIM]) ∧
    (s.get Reg.MBOX_OWN_OWNER ≠ 0 → ∃ t, exec (.mboxClaim p) s = .next t ∧ t.regs = s.regs ∧ Answered t p 0) ∧
    (s.get Reg.MBOX_OWN_OWNER = pathCode p → s.get Reg.MBOX_ST_BUSY = 0 → ∃ t, exec (.mboxRelease p) s = .next t ∧ t.get Reg.MBOX_OWN_OWNER = 0 ∧ t.get Reg.MBOX_OWN_CLAIM = 0 ∧ Answered t p 0) ∧
    (p = .hatch → ∃ t, exec (.mboxRelease p) s = .next t ∧ t.get Reg.MBOX_OWN_OWNER = 0 ∧ t.mgmt.mbox = s.mgmt.mbox ∧ Answered t p 0) ∧
    (p ≠ .hatch → (s.get Reg.MBOX_OWN_OWNER ≠ pathCode p ∨ s.get Reg.MBOX_ST_BUSY ≠ 0) → ∃ t, exec (.mboxRelease p) s = .next t ∧ t.regs = s.regs ∧ Answered t p 0)) ∧
  (∀ env, ∀ c ∈ mboxCommands p env,
    (s.writable p 0xE044 (2 ^ 31 + c.2) = true → s.get Reg.MBOX_ST_BUSY ≠ 0 → ∃ t, exec c.1 s = .next t ∧ t.get Reg.MBOX_ST_REFUSED = 1 ∧ Answered t p 0 ∧ OnlyMbox s t [Reg.MBOX_ST_REFUSED] ∧
      t.mgmt.mbox = s.mgmt.mbox ∧ t.get Reg.MBOX_ST_BUSY = s.get Reg.MBOX_ST_BUSY) ∧
    (s.serves p = true → s.keep.mgmtOn = true → s.get Reg.MBOX_OWN_OWNER ≠ pathCode p → ∃ t, exec c.1 s = .next t ∧ t.sent = .access p 4 0 :: s.sent ∧
      OnlyRegs { s with sent := t.sent } t [Reg.MBOX_ACC_PAGE, Reg.MBOX_ACC_OFFSET, Reg.MBOX_ACC_STATUS, Reg.MBOX_ACC_PATH, Reg.MBOX_ACC_VALID]) ∧
    (s.issuable p c.2 = true → s.mboxCheck c.2 ≠ 0 → ∃ t, exec c.1 s = .next t ∧ Runs t c.2 (s.mboxCheck c.2) [] false ∧ Answered t p 0 ∧ OnlyMbox s t []) ∧
    (s.writable p 0xE044 (2 ^ 31 + c.2) = true → s.get Reg.MBOX_ST_BUSY = 0 → s.mgmt.hkRun = false → ∃ t, exec c.1 s = .next t ∧ Runs t (256 + c.2) 0 [] true ∧ OnlyMbox s t []) ∧
    (s.issuable p c.2 = true → s.mboxCheck c.2 = 0 → s.cellStuck c.2 = true → ∃ t, exec c.1 s = .next t ∧ Runs t (256 + c.2) 0 [] true ∧ OnlyMbox s t []) ∧
    (s.keep.inTrap = true → c.2 ∉ [0x01, 0x02, 0x03, 0x10, 0x11, 0x60, 0x61, 0x62] → s.mboxCheck c.2 = 4) ∧
    (s.keep.inTrap = false → s.get Reg.MBOX_ST_ROM ≠ 0 → c.2 ∉ [0x01, 0x02, 0x03, 0x10, 0x11, 0x61] → s.mboxCheck c.2 = 3) ∧
    (s.keep.inTrap = false → s.get Reg.MBOX_ST_ROM = 0 → (c.2 ∈ [0x20, 0x60, 0x62, 0x70] → s.power < 2) → (c.2 ∈ [0x30, 0x31, 0x32, 0x40] → s.power < 3) → (c.2 ∈ [0x71, 0x72] → s.power < 4) →
      (c.2 ∈ [0x01, 0x02, 0x03, 0x10, 0x11, 0x61] → s.power < 1) → s.mboxCheck c.2 = 4) ∧
    (4 ≤ s.power → s.keep.inTrap = false → s.get Reg.MBOX_ST_ROM = 0 → s.get Reg.PWR_STAT_BUSY ≠ 0 → s.get Reg.PWR_STAT_DIR ≠ 0 → s.mboxCheck c.2 = if c.2 = 0x01 ∨ c.2 = 0x02 then 0 else 0x0E)) ∧
  (∀ op : Byte, mboxRow op.toNat = none → s.issuable p op.toNat = true → ∃ t, exec (.badOpcode p op) s = .next t ∧ Runs t op.toNat 1 [] false ∧ OnlyMbox s t [] ∧ Answered t p 0) ∧
  (s.mboxReady = false → exec .mboxCommandEnd s = .next s) ∧
  (∀ r, s.mgmt.mbox = some r → s.keep.mgmtOn = true → r.code < 256 → r.res.length ≤ 8 →
    (s.mboxReady = true → (r.code ≠ 0 ∨ (r.op ≠ 0x30 ∧ r.op ≠ 0x60)) → ∃ t, exec .mboxCommandEnd s = .next t ∧ Ended s t r.code r.res ∧
      SameRegs s t [Reg.MBOX_ST_CODE, Reg.MBOX_TIME_US, Reg.MBOX_ST_BUSY, Reg.MBOX_CMD_GO, Reg.MBOX_CTL_ABORT, Reg.MBOX_ST_DONE, Reg.EVT 14] ∧ t.nv.intents = []) ∧
    (s.mboxReady = true → r.op = 0x30 → r.code = 0 → ∃ t v, exec .mboxCommandEnd s = .next t ∧ Ended s t 0 [v] ∧ t.mgmt.searchPorts = 0 ∧
      ∀ n, n < 16 → bitOf v n = (bitOf s.mgmt.searchPorts n && (s.unserved n false || s.unserved n true))) ∧
    (s.mboxReady = true → r.op = 0x60 → r.code = 0 → (r.res.getD 0 0) < 8 → ∃ t, exec .mboxCommandEnd s = .next t ∧ Ended s t 0 r.res ∧ tget AtticState.free t.nv.attic (r.res.getD 0 0) = .full) ∧
    (∃ t, exec .mboxTimeout s = .next t ∧ Ended s t 5 (if r.op = 0x20 ∧ r.wait = true then [0x17] else [])) ∧
    (s.writable p 0xE04C 1 = true → ∃ t, exec (.mboxAbort p) s = .next t ∧ Ended s t 6 (if r.op = 0x20 ∧ r.wait = true then [0x16] else []) ∧ Answered t p 0 ∧
      (r.op = 0x20 → r.wait = true → s.mgmt.load ≠ none → t.mgmt.load = none ∧ t.get Reg.CFG_LOAD_ERR_CODE = 0x16 ∧ bitOf (t.get (Reg.EVT 5)) 1 = true) ∧
      (r.op = 0x30 → t.mgmt.sweep = [] ∧ t.mgmt.searchPorts = 0)))

/-- R108, R121, R122, R219, R295, R297, R315 to R317, R371, R401, Table MBOX-1: the mailbox's services. What each command of information, of firmware and the Loft, of loading, of the Attic, of FTIME and of checkpoints leaves when it starts, and the code and results it will end with; a closed write window and a bad argument change nothing but their counts. Where it rests on the model's own choices these are assumptions 11, 12 and 13. Completion is stated for: ping, fwInfo, fwReload, loftWrite, loftCommit, persLoad, dumpNow, atticRead, atticFree, ftimeSet, ckptSave, ckptRestore. -/
def Obligations.MailboxServices : Prop := ∀ (s : State) (p : Path), s.mgmt.mbox = none →
  (s.takesUp p 0x01 = true → ∃ t, exec (.ping p) s = .next t ∧ Runs t 0x01 0 [2 ^ 32 - 1 - s.arg 0, b2n (!s.bit Reg.MBOX_ST_ROM)] false ∧ OnlyMbox s t [] ∧ Answered t p 0) ∧
  (s.takesUp p 0x02 = true → ∀ k g, s.mgmt.fwSlot = some (k, g) → s.get Reg.MBOX_ST_ROM = 0 → ∃ t, exec (.fwInfo p) s = .next t ∧ OnlyMbox s t [] ∧
    Runs t 0x02 0 [(Config.firmwareVersion (some (k, g))).toNat, (s.get Reg.CELL_BOOT_COUNT + s.get Reg.CELL_STAT_BOOT_DEFER) % 2 ^ 32, k] false) ∧
  (s.takesUp p 0x03 = true → s.get Reg.CELL_STAT_MOUNTED ≠ 0 →
    (∀ env, 1 < s.arg 0 → ∃ t, exec (.fwReload p env) s = .next t ∧ Runs t 0x03 2 [] false ∧ OnlyMbox s t []) ∧
    (∀ env, cellQuiet env = true → s.arg 0 ≤ 1 → s.fwGood (s.arg 0) = false → ∃ t, exec (.fwReload p env) s = .next t ∧ Runs t 0x03 9 [] false ∧ OnlyMbox s t []) ∧
    (∀ env, cellQuiet env = true → s.arg 0 ≤ 1 → s.fwGood (s.arg 0) = true → ∃ t, exec (.fwReload p env) s = .next t ∧ Runs t 0x03 0 [] false ∧
      t.mgmt.fwSlot = some (s.arg 0, (s.loftAt (s.arg 0)).gen) ∧ t.get Reg.MBOX_ST_ROM = 0 ∧ t.nv = s.nv) ∧
    (∀ env page, s.arg 0 ≤ 1 → (s.loftAt (s.arg 0)).committed = true → s.fwUe (s.arg 0) env = some page → ∃ t, exec (.fwReload p env) s = .next t ∧ Runs t 0x03 8 [] false ∧
      bitOf (t.get (Reg.ERR 6)) 8 = true ∧ t.mgmt.fwSlot = s.mgmt.fwSlot)) ∧
  (s.takesUp p 0x10 = true → s.get Reg.CELL_STAT_MOUNTED ≠ 0 →
    ((17 < s.arg 0 ∨ s.arg 1 % 1024 ≠ 0 ∨ 1024 < s.arg 2 ∨ loftSize (s.arg 0) < s.arg 1 + s.arg 2) → ∀ env, ∃ t, exec (.loftWrite p env) s = .next t ∧ Runs t 0x10 2 [] false ∧ OnlyMbox s t []) ∧
    (s.arg 0 ≤ 17 → s.arg 1 % 1024 = 0 → s.arg 2 ≤ 1024 → s.arg 1 + s.arg 2 ≤ loftSize (s.arg 0) →
      (∀ env, s.get Reg.CELL_STAT_WIN = 0 → ∃ t, exec (.loftWrite p env) s = .next t ∧ Runs t 0x10 7 [] false ∧ OnlyMbox s t [Reg.CELL_CNT_TEMP_REF] ∧
        t.get Reg.CELL_CNT_TEMP_REF = min (s.get Reg.CELL_CNT_TEMP_REF + 1) (2 ^ Reg.CELL_CNT_TEMP_REF.width - 1)) ∧
      (∀ env, env.ue ≠ [] → (pagesOf (loftAddr (s.arg 0) + s.arg 1) (s.arg 2)).any (fun q => decide (q ∈ env.ue)) = true → s.get Reg.CELL_STAT_WIN ≠ 0 → ∃ t, exec (.loftWrite p env) s = .next t ∧
        Runs t 0x10 8 [] false ∧ bitOf (t.get (Reg.ERR 6)) 8 = true ∧ (t.loftAt (s.arg 0)).committed = false ∧ t.nv.mem = s.nv.mem) ∧
      (∀ env, cellQuiet env = true → s.get Reg.CELL_STAT_WIN ≠ 0 → ∃ t, exec (.loftWrite p env) s = .next t ∧ Runs t 0x10 0 [] false ∧ (t.loftAt (s.arg 0)).committed = false ∧ (∀ k, k ≠ s.arg 0 → t.loftAt k = s.loftAt k) ∧
        t.nv.read (loftAddr (s.arg 0) + s.arg 1) (s.arg 2) = s.bufBytes (s.arg 2) ∧
        ∀ a, (a < loftAddr (s.arg 0) + s.arg 1 ∨ loftAddr (s.arg 0) + s.arg 1 + s.arg 2 ≤ a) → tget 0 t.nv.mem a = tget 0 s.nv.mem a))) ∧
  (s.takesUp p 0x11 = true → s.get Reg.CELL_STAT_MOUNTED ≠ 0 → ∀ d, d = toBytes (sha256 (toVals (s.nv.read (loftAddr (s.arg 0)) (s.arg 1)))) →
    ((17 < s.arg 0 ∨ loftSize (s.arg 0) < s.arg 1) → ∀ env, ∃ t, exec (.loftCommit p env) s = .next t ∧ Runs t 0x11 2 [] false ∧ OnlyMbox s t []) ∧
    (s.arg 0 ≤ 17 → s.arg 1 ≤ loftSize (s.arg 0) →
      (∀ env, cellQuiet env = true → d ≠ s.bufBytes 32 → ∃ t, exec (.loftCommit p env) s = .next t ∧ Runs t 0x11 9 [] false ∧ OnlyMbox s t []) ∧
      (∀ env, cellQuiet env = true → d = s.bufBytes 32 → s.get Reg.CELL_STAT_WIN = 0 → ∃ t, exec (.loftCommit p env) s = .next t ∧ Runs t 0x11 7 [] false ∧ OnlyMbox s t [Reg.CELL_CNT_TEMP_REF]) ∧
      (∀ env, cellQuiet env = true → d = s.bufBytes 32 → s.get Reg.CELL_STAT_WIN ≠ 0 → ∃ t, exec (.loftCommit p env) s = .next t ∧ Runs t 0x11 0 [] false ∧ (∀ k, k ≠ s.arg 0 → t.loftAt k = s.loftAt k) ∧ t.nv.mem = s.nv.mem ∧
        t.loftAt (s.arg 0) = { committed := true, len := s.arg 1, digest := d, gen := (s.loftAt (s.arg 0)).gen + 1 }))) ∧
  (s.takesUp p 0x20 = true → s.keep.mgmtOn = true →
    ((2 < s.arg 0 ∨ (s.arg 0 = 0 ∧ 15 < s.arg 1) ∨ (s.arg 0 = 1 ∧ s.get Reg.KEEP_STRAP_CHAIN_FIRST ≠ 0)) → ∃ t, exec (.persLoad p) s = .next t ∧ Runs t 0x20 2 [] false ∧ OnlyMbox s t []) ∧
    (s.arg 0 = 0 → s.arg 1 ≤ 15 → s.slotFull (s.arg 1) = false → ∃ t, exec (.persLoad p) s = .next t ∧ Ended s t 0x0A [0x19] ∧ t.get Reg.CFG_LOAD_ERR_CODE = 0x19 ∧ t.mgmt.load = none ∧ bitOf (t.get (Reg.EVT 5)) 1 = true) ∧
    (s.arg 0 = 0 → s.arg 1 ≤ 15 → s.slotFull (s.arg 1) = true → (s.loftAt (2 + s.arg 1)).len < 20 → ∃ t, exec (.persLoad p) s = .next t ∧ Ended s t 0x0A [0x12] ∧ t.get Reg.CFG_LOAD_ERR_CODE = 0x12 ∧ t.mgmt.load = none) ∧
    (((s.arg 0 = 0 ∧ s.arg 1 ≤ 15 ∧ s.slotFull (s.arg 1) = true ∧ 20 ≤ (s.loftAt (2 + s.arg 1)).len) ∨ (s.arg 0 = 1 ∧ s.get Reg.KEEP_STRAP_CHAIN_FIRST = 0) ∨ s.arg 0 = 2) → ∃ t l, exec (.persLoad p) s = .next t ∧ Runs t 0x20 0 [] true ∧
      t.mgmt.load = some l ∧ srcCode l.src = s.arg 0 ∧ (s.arg 0 = 0 → l.slot = s.arg 1 ∧ l.len = (s.loftAt (2 + s.arg 1)).len ∧ l.gen = (s.loftAt (2 + s.arg 1)).gen) ∧ l.hpMask = s.arg 2 % 2 ^ 24 ∧ l.atS10 = false ∧ t.get Reg.CFG_LOAD_BUSY = 1)) ∧
  (s.takesUp p 0x61 = true → s.get Reg.CELL_STAT_MOUNTED ≠ 0 →
    ((7 < s.arg 0 ∨ s.arg 1 % 1024 ≠ 0 ∨ atticSize ≤ s.arg 1 ∨ tget AtticState.free s.nv.attic (s.arg 0) ∈ [.free, .writing]) → ∀ env, ∃ t, exec (.atticRead p env) s = .next t ∧ Runs t 0x61 2 [] false ∧ OnlyMbox s t []) ∧
    (s.arg 0 ≤ 7 → s.arg 1 % 1024 = 0 → s.arg 1 < atticSize → tget AtticState.free s.nv.attic (s.arg 0) ∉ [.free, .writing] → pageOf (atticBase + s.arg 0 * atticSize + s.arg 1) ∉ s.nv.lost →
      ∀ env, cellQuiet env = true → ∃ t, exec (.atticRead p env) s = .next t ∧ Runs t 0x61 0 [] false ∧ t.nv = s.nv ∧ t.bufBytes 1024 = s.nv.read (atticBase + s.arg 0 * atticSize + s.arg 1) 1024)) ∧
  (s.takesUp p 0x62 = true →
    ((7 < s.arg 0 ∨ tget AtticState.free s.nv.attic (s.arg 0) = .writing) → ∃ t, exec (.atticFree p) s = .next t ∧ Runs t 0x62 2 [] false ∧ OnlyMbox s t []) ∧
    (s.arg 0 ≤ 7 → tget AtticState.free s.nv.attic (s.arg 0) ≠ .writing → s.get Reg.CELL_STAT_WIN = 0 → ∃ t, exec (.atticFree p) s = .next t ∧ Runs t 0x62 7 [] false ∧ OnlyMbox s t [Reg.CELL_CNT_TEMP_REF]) ∧
    (s.arg 0 ≤ 7 → tget AtticState.free s.nv.attic (s.arg 0) ≠ .writing → s.get Reg.CELL_STAT_WIN ≠ 0 → ∃ t, exec (.atticFree p) s = .next t ∧ Runs t 0x62 0 [] false ∧ tget AtticState.free t.nv.attic (s.arg 0) = .free ∧
      (∀ k, k ≠ s.arg 0 → tget AtticState.free t.nv.attic k = tget AtticState.free s.nv.attic k) ∧ t.nv.mem = s.nv.mem)) ∧
  (s.takesUp p 0x60 = true →
    (s.freeSlotOf = none → ∀ env, ∃ t, exec (.dumpNow p env) s = .next t ∧ Runs t 0x60 0x0B [] false ∧ OnlyMbox s t []) ∧
    (∀ k env, s.freeSlotOf = some k → s.get Reg.CELL_STAT_WIN = 0 → ∃ t, exec (.dumpNow p env) s = .next t ∧ Runs t 0x60 7 [] false ∧ OnlyMbox s t [Reg.CELL_CNT_TEMP_REF]) ∧
    (∀ k env, cellQuiet env = true → s.freeSlotOf = some k → s.get Reg.CELL_STAT_WIN ≠ 0 → ∃ t cut, exec (.dumpNow p env) s = .next t ∧ Runs t 0x60 0 [k, cut] false ∧ tget AtticState.free t.nv.attic k = .writing ∧
      (∀ j, j ≠ k → tget AtticState.free t.nv.attic j = tget AtticState.free s.nv.attic j) ∧ t.keep.dumpStart = s.ftime)) ∧
  (s.takesUp p 0x70 = true → ∃ t, exec (.ftimeSet p) s = .next t ∧ Runs t 0x70 0 [] false ∧ t.ftime = s.arg 0 + 2 ^ 32 * s.arg 1 ∧ t.slew = 0 ∧ t.get Reg.TIME_CTL_SRC = s.arg 2 % 2 ∧
    (s.arg 2 % 2 = 1 → t.get Reg.TIME_STAT_DIST = 0 ∧ t.get Reg.TIME_STAT_SYNC = 1) ∧ (s.arg 2 % 2 = 0 → s.get Reg.TIME_CTL_SRC ≠ 0 → t.get Reg.TIME_STAT_DIST = 63 ∧ t.get Reg.TIME_STAT_SYNC = 0)) ∧
  (s.takesUp p 0x71 = true →
    (∀ env, ckptRange (s.arg 0) (s.arg 1) = false → ∃ t, exec (.ckptSave p env) s = .next t ∧ Runs t 0x71 2 [] false ∧ OnlyMbox s t []) ∧
    (∀ env, cellQuiet env = true → ckptRange (s.arg 0) 1 = true → s.arg 1 = 1 → s.ckptFor (s.arg 0) 0 = none → ∃ t, exec (.ckptSave p env) s = .next t ∧ Runs t 0x71 0 [0] false ∧ t.get Reg.CELL_CKPT_SKIP = 1 ∧ t.nv = s.nv) ∧
    (∀ env r x, cellQuiet env = true → ckptRange (s.arg 0) 1 = true → s.arg 1 = 1 → s.ckptFor (s.arg 0) 0 = some r → s.get Reg.CELL_STAT_WIN ≠ 0 → (s.ckptRead {} (s.arg 0) false).1 = some x → (s.ckptRead {} (s.arg 0) true).1 = none →
      ∃ t, exec (.ckptSave p env) s = .next t ∧ Runs t 0x71 0 [1] false ∧ t.get Reg.CELL_CKPT_SKIP = 0 ∧ t.nv.read (ckptAddr (s.arg 0) true) 4096 = { r with no := (x.no + 1) % 2 ^ 32 }.page ∧
        t.nv.read (ckptAddr (s.arg 0) false) 4096 = s.nv.read (ckptAddr (s.arg 0) false) 4096)) ∧
  (s.takesUp p 0x72 = true →
    (∀ env, ckptRange (s.arg 0) (s.arg 1) = false → ∃ t, exec (.ckptRestore p env) s = .next t ∧ Runs t 0x72 2 [] false ∧ OnlyMbox s t []) ∧
    (∀ env r, cellQuiet env = true → ckptRange (s.arg 0) 1 = true → s.arg 1 = 1 → newerCkpt (s.ckptRead {} (s.arg 0) false).1 (s.ckptRead {} (s.arg 0) true).1 = some r → r.kind ≠ 0 →
      ((s.ctxAt (s.arg 0)).state ≠ 0 → ∃ t, exec (.ckptRestore p env) s = .next t ∧ Runs t 0x72 0x0D [0] false ∧ t.strm = s.strm ∧ t.get Reg.CELL_CKPT_SKIP = 1) ∧
      ((s.ctxAt (s.arg 0)).state = 0 → ∃ t, exec (.ckptRestore p env) s = .next t ∧ Runs t 0x72 0 [1] false ∧ OnlyCtx s t (s.arg 0) ∧
        (t.ctxAt (s.arg 0)).state = 1 ∧ (t.ctxAt (s.arg 0)).recv = (r.kind == 2) ∧ (t.ctxAt (s.arg 0)).gen = r.gen ∧ (t.ctxAt (s.arg 0)).seq = r.seq ∧ (t.ctxAt (s.arg 0)).acked = r.seq ∧
        (t.ctxAt (s.arg 0)).peerNode = r.node ∧ (t.ctxAt (s.arg 0)).peerSid = r.peer ∧ (t.ctxAt (s.arg 0)).module < 24)))

/-- R173, R174, R179, R180, R187 to R189, R288, R296, R318, R340, R341: the mailbox's actions on the light path, the tiles and the twin. RING_SEARCH takes its ports dark and unlocks their rings; MAP_SAVE writes the older copy; LINE_SWAP starts the swap; COMB_SWITCH moves a quad onto COMBS and back; CAL_NOW names the next tile; TWIN_CTL enables, disables and hands over. Where it rests on the model's own choices these are assumptions 11 and 12. Completion is stated for: ringSearch, mapSave, lineSwap, combSwitchOntoCombs, combSwitchBack, calNow, twinCtlEnable, twinCtlDisable, twinCtlHandOver. -/
def Obligations.MailboxActions : Prop := ∀ (s : State) (p : Path), s.mgmt.mbox = none → s.keep.mgmtOn = true →
  (s.takesUp p 0x30 = true →
    (65535 < s.arg 0 → ∃ t, exec (.ringSearch p) s = .next t ∧ Runs t 0x30 2 [] false ∧ OnlyMbox s t []) ∧
    (s.arg 0 ≤ 65535 → ∃ t, exec (.ringSearch p) s = .next t ∧ Runs t 0x30 0 [] false ∧ t.mgmt.searchPorts = s.arg 0 ∧ ∀ n, n < 16 →
      (bitOf (s.arg 0) n = true → t.get (Reg.OP_STAT_PSTATE n) = 0 ∧ t.get (Reg.LAM_STAT_SEARCHING n) = 1 ∧ ∀ k, k < 36 → (t.ringAt n false k).lock = false ∧ (t.ringAt n true k).lock = false) ∧
      (bitOf (s.arg 0) n = false → t.get (Reg.OP_STAT_PSTATE n) = s.get (Reg.OP_STAT_PSTATE n) ∧ ∀ rx k, k < 36 → t.ringAt n rx k = s.ringAt n rx k))) ∧
  (s.takesUp p 0x31 = true →
    (∀ env, s.get Reg.CELL_STAT_WIN = 0 → ∃ t, exec (.mapSave p env) s = .next t ∧ Runs t 0x31 7 [] false ∧ t.nv = { s.nv with intents := t.nv.intents }) ∧
    (∀ env, cellQuiet env = true → s.get Reg.CELL_STAT_WIN ≠ 0 → ∃ t, exec (.mapSave p env) s = .next t ∧ s.mapNow.valid = true ∧ s.mapNow.gen = s.nv.nextGen ∧ Runs t 0x31 0 [] false ∧ t.nv.mem = s.nv.mem ∧
      (s.nv.calA = none → t.nv.calA = some s.mapNow ∧ t.nv.calB = s.nv.calB) ∧ (s.nv.calA ≠ none → s.nv.calB = none → t.nv.calB = some s.mapNow ∧ t.nv.calA = s.nv.calA) ∧
      ∀ a b, s.nv.calA = some a → s.nv.calB = some b → (a.gen < b.gen → t.nv.calA = some s.mapNow ∧ t.nv.calB = some b) ∧ (b.gen ≤ a.gen → t.nv.calA = some a ∧ t.nv.calB = some s.mapNow))) ∧
  (s.takesUp p 0x32 = true →
    ((15 < s.arg 0 ∨ s.laneCount (s.arg 0) ≤ s.arg 1 ∨ ¬ (s.arg 2 = 0xFF ∨ (32 ≤ s.arg 2 ∧ s.arg 2 < 36))) → ∃ t, exec (.lineSwap p) s = .next t ∧ Runs t 0x32 2 [] false ∧ OnlyMbox s t []) ∧
    (s.arg 0 ≤ 15 → s.brynn (s.arg 0) = true → s.arg 1 < 16 → s.arg 2 = 0xFF → ∃ t, exec (.lineSwap p) s = .next t ∧ Runs t 0x32 0x0B [] false ∧ OnlyMbox s t []) ∧
    (∀ k, s.arg 0 ≤ 15 → s.canSwap (s.arg 0) = true → s.arg 1 < 32 → (s.opAt (s.arg 0)).swapT = none → (s.opAt (s.arg 0)).swapQ = [] →
      ((s.arg 2 = 0xFF ∧ (s.freeSpares (s.arg 0)).head? = some k) ∨ (s.arg 2 = k ∧ 32 ≤ k ∧ k < 36 ∧ (s.ringAt (s.arg 0) false k).good = true ∧ lineLane (s.opAt (s.arg 0)).remapTx k = none)) →
      ∃ t, exec (.lineSwap p) s = .next t ∧ Runs t 0x32 0 [] true ∧ SwapBegun s t (s.arg 0) (s.arg 1) k) ∧
    (s.arg 0 ≤ 15 → s.canSwap (s.arg 0) = true → s.arg 1 < 32 → (s.opAt (s.arg 0)).swapT = none → (s.opAt (s.arg 0)).swapQ = [] → s.arg 2 = 0xFF → s.freeSpares (s.arg 0) = [] →
      ∃ t, exec (.lineSwap p) s = .next t ∧ Ended s t 0x0B [] ∧ bitOf (t.get (Reg.EVT (64 + s.arg 0))) 4 = true)) ∧
  (∀ q up, s.takesUp p 0x33 = true → s.arg 1 = 0 → s.arg 0 = q → q < 4 →
    (s.get Reg.COMB_STAT_SW_ACTIVE = 0 → bitOf (s.get Reg.COMB_STAT_FAILED) 4 = false → bitOf (s.get Reg.COMB_STAT_LIT) 4 = true → ∃ t, exec (.combSwitchOntoCombs p up) s = .next t ∧ Runs t 0x33 0 [] false ∧
      t.get Reg.COMB_STAT_SW_ACTIVE = 1 ∧ t.get Reg.COMB_STAT_SW_QUAD = q ∧ bitOf (t.get Reg.COMB_STAT_LIT) q = false ∧ bitOf (t.get Reg.COMB_STAT_LIT) 4 = true ∧ bitOf (t.get (Reg.EVT 12)) 1 = true) ∧
    (s.onCombs q = true → ∃ t, exec (.combSwitchOntoCombs p up) s = .next t ∧ Runs t 0x33 0 [] false ∧ OnlyMbox s t []) ∧
    (s.onCombs q = false → (s.get Reg.COMB_STAT_SW_ACTIVE ≠ 0 ∨ bitOf (s.get Reg.COMB_STAT_FAILED) 4 = true) → ∃ t, exec (.combSwitchOntoCombs p up) s = .next t ∧ Runs t 0x33 0x0B [] false ∧ OnlyMbox s t []) ∧
    (s.get Reg.COMB_STAT_SW_ACTIVE = 0 → bitOf (s.get Reg.COMB_STAT_FAILED) 4 = false → bitOf (s.get Reg.COMB_STAT_LIT) 4 = false → up.answers = [] → ∃ t, exec (.combSwitchOntoCombs p up) s = .next t ∧ Runs t 0x33 0x0B [] false ∧
      bitOf (t.get Reg.COMB_STAT_FAILED) 4 = true ∧ t.get Reg.COMB_STAT_SW_ACTIVE = 0 ∧ bitOf (t.get (Reg.EVT 12)) 5 = true) ∧
    (∀ power, s.get Reg.COMB_STAT_SW_ACTIVE = 0 → bitOf (s.get Reg.COMB_STAT_FAILED) 4 = false → bitOf (s.get Reg.COMB_STAT_LIT) 4 = false → power < 2 ^ (Reg.COMB_PWR_REF 4).width →
      ∃ t, exec (.combSwitchOntoCombs p (upLit power)) s = .next t ∧ Runs t 0x33 0 [] false ∧ bitOf (t.get Reg.COMB_STAT_LIT) 4 = true ∧ t.get (Reg.COMB_PWR_REF 4) = power ∧
        t.get Reg.COMB_STAT_SW_ACTIVE = 1 ∧ t.get Reg.COMB_STAT_SW_QUAD = q)) ∧
  (∀ q up, s.takesUp p 0x33 = true → s.arg 1 = 1 → s.arg 0 = q → q < 4 →
    (s.onCombs q = false → ∃ t, exec (.combSwitchBack p up) s = .next t ∧ Runs t 0x33 0 [] false ∧ OnlyMbox s t []) ∧
    (s.onCombs q = true → bitOf (s.get Reg.COMB_STAT_FAILED) q = true → ∃ t, exec (.combSwitchBack p up) s = .next t ∧ Runs t 0x33 0x0B [] false ∧ OnlyMbox s t []) ∧
    (s.onCombs q = true → bitOf (s.get Reg.COMB_STAT_FAILED) q = false → bitOf (s.get Reg.COMB_STAT_LIT) q = true → bitOf (s.get Reg.COMB_STAT_LOL) q = false → s.get Reg.COMB_CTL_AUTO_SW = 0 →
      ∃ t, exec (.combSwitchBack p up) s = .next t ∧ Runs t 0x33 0 [] false ∧ t.get Reg.COMB_STAT_SW_ACTIVE = 0 ∧ bitOf (t.get (Reg.EVT 12)) 2 = true ∧
        (s.get Reg.COMB_CTL_SPARE_HOT = 0 → bitOf (t.get Reg.COMB_STAT_LIT) 4 = false))) ∧
  (s.arg 1 ≠ 0 → ∀ up, exec (.combSwitchOntoCombs p up) s = .next s) ∧ (s.arg 1 ≠ 1 → ∀ up, exec (.combSwitchBack p up) s = .next s) ∧
  (s.takesUp p 0x40 = true →
    ((31 < s.arg 0 ∨ s.tileFailed (s.arg 0) = true) → ∃ t, exec (.calNow p) s = .next t ∧ Runs t 0x40 2 [] false ∧ OnlyMbox s t []) ∧
    (s.arg 0 ≤ 31 → s.tileFailed (s.arg 0) = false → ∃ t, exec (.calNow p) s = .next t ∧ Runs t 0x40 0 [] true ∧ t.te.calCmd = some (s.arg 0) ∧ t.te.tiles = s.te.tiles ∧
      (s.te.outg ≠ some (s.arg 0) → s.te.spare ≠ some (s.arg 0) → t.te.calNow = some (s.arg 0)))) ∧
  (s.takesUp p 0x50 = true → s.arg 0 = 1 →
    (s.get Reg.TWIN_STAT_PAIRED ≠ 0 → ∃ t, exec (.twinCtlEnable p) s = .next t ∧ Runs t 0x50 0 [s.get Reg.TWIN_EPOCH_S_EPOCH] false ∧ OnlyMbox s t []) ∧
    (s.get Reg.TWIN_STAT_PAIRED = 0 → ∃ t, exec (.twinCtlEnable p) s = .next t ∧ Runs t 0x50 0 [] true ∧ t.twin.enabled = true ∧ t.get Reg.TWIN_STAT_STATE = 1 ∧ t.get Reg.TWIN_STAT_PROTECTED = 0 ∧
      (s.get Reg.TWIN_STAT_LINK_UP ≠ 0 → ∃ h, .twinHello h ∈ t.sent ∧ h.enabled = true ∧ h.node = s.get Reg.ROUTE_NODE_NODE ∧ h.domain = s.get Reg.ROUTE_NODE_DOMAIN ∧ h.strap = s.bit Reg.KEEP_STRAP_TWIN_ROLE))) ∧
  (s.takesUp p 0x50 = true → s.arg 0 = 0 → ∃ t, exec (.twinCtlDisable p) s = .next t ∧ Runs t 0x50 0 [s.get Reg.TWIN_EPOCH_S_EPOCH] false ∧ t.twin.enabled = false ∧ t.get Reg.TWIN_STAT_PAIRED = 0 ∧
    t.get Reg.TWIN_STAT_LINK_UP = 0 ∧ t.get Reg.TWIN_STAT_STATE = (if s.get Reg.TWIN_STAT_ROLE = 1 then 4 else 0) ∧ t.get Reg.TWIN_STAT_PROTECTED = 0 ∧ t.get Reg.TWIN_STAT_ROLE = s.get Reg.TWIN_STAT_ROLE) ∧
  (s.takesUp p 0x50 = true → s.arg 0 = 2 →
    (s.get Reg.TWIN_STAT_PAIRED = 0 → ∃ t, exec (.twinCtlHandOver p) s = .next t ∧ Runs t 0x50 0x0C [] false ∧ OnlyMbox s t []) ∧
    (s.get Reg.TWIN_STAT_PAIRED ≠ 0 → (s.get Reg.TWIN_STAT_ROLE ≠ 1 ∨ s.get Reg.TWIN_STAT_STATE ≠ 3) → ∃ t, exec (.twinCtlHandOver p) s = .next t ∧ Runs t 0x50 2 [] false ∧ OnlyMbox s t []) ∧
    (s.get Reg.TWIN_STAT_PAIRED ≠ 0 → s.get Reg.TWIN_STAT_ROLE = 1 → s.get Reg.TWIN_STAT_STATE = 3 → s.twin.recs.length ≤ 255 → s.twin.batches.length < 16 → ∃ t, exec (.twinCtlHandOver p) s = .next t ∧
      Runs t 0x50 0 [] true ∧ t.gates = false ∧ t.twin.hand = some ((s.get Reg.TWIN_EPOCH_S_EPOCH + 1) % 2 ^ 32) ∧ t.get Reg.TWIN_EPOCH_S_EPOCH = (s.get Reg.TWIN_EPOCH_S_EPOCH + 1) % 2 ^ 32 ∧
      t.twin.recs = [] ∧ t.twin.batches = s.twin.batches ++ [⟨(s.get Reg.TWIN_EPOCH_S_EPOCH + 1) % 2 ^ 32, s.twin.recs⟩])) ∧
  ((s.arg 0 ≠ 1 → exec (.twinCtlEnable p) s = .next s) ∧ (s.arg 0 ≠ 0 → exec (.twinCtlDisable p) s = .next s) ∧ (s.arg 0 ≠ 2 → exec (.twinCtlHandOver p) s = .next s))

/-- R267, R270 to R282, R290, R360, Tables TE-3 to TE-6: the transit engine's queues. A submission is queued and enters CORE at the intake, or is denied or stalled; of the queues whose head can be dispatched the one of the highest PRIO has its turn (R278), and its head dispatches as its operation when its input is complete, an MVM only to a tile that holds its set with room and precision, while a head out of its turn is not dispatched; descriptors commit in queue order, FLUSH of an MVM, a REDUCE or a FREEW sends the partial output frame, output for a held module waits (R128), and an error halts the queue; RESUME, FLUSH, bindings, and the engine's memory errors; PREC_WAIT tells once of a head. Where it rests on the model's own choices these are assumptions 1, 42, 43 and 44. Completion is stated for: teSubmission, mvm, reduce, loadw, freew, nop, descriptorComplete, queueBind, resume, flush, queueUe, precWait, weightSlotUe. -/
def Obligations.DescriptorsDispatchAndCommitInOrder : Prop := ∀ (s : State) (q : QueueId), s.keep.mgmtOn = true → s.keep.domainsOn = true →
  (∀ (n : HpId) (ws : List Word) (inl : List Byte) (d : Desc), d = { words := ws.map BitVec.toNat, port := n, inline := inl } → s.gates = true → s.frozen = false → s.held n = false → s.hpIdle n = false →
    (bitOf (s.get (Reg.TEG_Q_OWN_PORTS q)) n = false → ∃ t, exec (.teSubmission n q ws inl) s = .next t ∧ t.te = s.te ∧ SameRegs s t (bufFlds n) ∧
      (t.hpAt n).deliveries = (s.hpAt n).deliveries ++ [.record [q * 2 ^ 26 + 7 * 2 ^ 16 + d.did, 0, 0, s.ftime % 2 ^ 32]]) ∧
    (bitOf (s.get (Reg.TEG_Q_OWN_PORTS q)) n = true → (s.get (Reg.TEG_Q_CFG_EN q) = 0 ∨ 4096 ≤ (s.teqAt q).slots.length ∨ 0x400000 < s.teBuffered + inl.length) →
      exec (.teSubmission n q ws inl) s = .next { s with sent := .stalled n :: s.sent }) ∧
    (bitOf (s.get (Reg.TEG_Q_OWN_PORTS q)) n = true → s.get (Reg.TEG_Q_CFG_EN q) ≠ 0 → (s.teqAt q).slots.length < 4096 → s.teBuffered + inl.length ≤ 0x400000 → ∃ t, exec (.teSubmission n q ws inl) s = .next t ∧
      t.teqAt q = { s.teqAt q with slots := (s.teqAt q).slots ++ [d] } ∧ (∀ j, j ≠ q.val → t.teqAt j = s.teqAt j) ∧ (t.hpAt n).deliveries = (s.hpAt n).deliveries ∧
      ∃ r ∈ (t.point 0).waiting, r.item = .core ∧ r.master = n.val ∧ r.cost = blocksOf (32 + inl.length))) ∧
  (s.teNext ≠ some q.val → ∀ c ∈ [Instr.nop q, .mvm q, .reduce q, .loadw q, .freew q], exec c s = .next s) ∧
  (s.teNext = some q.val → s.dispatchable q = true ∧ ∀ j, j < 64 → s.dispatchable j = true → s.get (Reg.TEG_Q_CFG_PRIO j) ≤ s.get (Reg.TEG_Q_CFG_PRIO q)) ∧
  (∀ d k, s.teNext = some q.val → k = s.teqAt q → k.head = some d →
    (d.ok = true → k.inputReady d = true →
      (d.op = 2 → ∃ t, exec (.reduce q) s = .next t ∧ t.regs = s.regs ∧ t.te.tiles = s.te.tiles ∧
        t.teqAt q = { k.consume d with slots := k.slots.set k.headAt { d with tile := none, ord := s.te.ord, res := some (reduceAll d (k.input d)), inline := [] } }) ∧
      (d.op = 3 → ∃ t, exec (.loadw q) s = .next t ∧ t.regs = s.regs ∧ t.te.tiles = s.te.tiles ∧
        t.teqAt q = { k.consume d with slots := k.slots.set k.headAt { d with tile := none, ord := s.te.ord, res := some (loadAll d (k.input d)), inline := [] } }) ∧
      (d.op = 4 → ∃ t, exec (.freew q) s = .next t ∧ t.regs = s.regs ∧ t.te.tiles = s.te.tiles ∧
        t.teqAt q = { k with slots := k.slots.set k.headAt { d with tile := none, ord := s.te.ord, res := some { status := 0 }, inline := [] } }) ∧
      (d.op = 0 → ∃ t, exec (.nop q) s = .next t ∧ t.regs = s.regs ∧ t.te.tiles = s.te.tiles ∧
        t.teqAt q = { k with slots := k.slots.set k.headAt { d with tile := none, ord := s.te.ord, res := some { status := 0 }, inline := [] } }) ∧
      (d.op = 1 → k.loading d.setid = false →
        (∀ code, ((s.setWidth d.setid = none ∧ code = 2) ∨ (s.setWidth d.setid = some (!d.q8) ∧ code = 1) ∨
            (s.setWidth d.setid = some d.q8 ∧ (∀ t ∈ s.holders d.setid, s.tFigure t d.integ < 10 * d.minEb) ∧ code = 4)) → ∃ t, exec (.mvm q) s = .next t ∧ t.te.tiles = s.te.tiles ∧
          t.teqAt q = { k with slots := k.slots.set k.headAt { d with tile := none, ord := s.te.ord, res := some { status := code }, inline := [] } }) ∧
        (s.setWidth d.setid = some d.q8 → (s.roomTiles d).filter (s.precise d) ≠ [] → ∃ t x w, exec (.mvm q) s = .next t ∧ x ∈ s.roomTiles d ∧ s.precise d x = true ∧
          (∀ y ∈ s.roomTiles d, s.precise d y = true → (s.tileAt y).active = (s.tileAt y).slotOf d.setid →
            (s.tileAt x).active = (s.tileAt x).slotOf d.setid ∧ ((s.tileAt x).win < (s.tileAt y).win ∨ ((s.tileAt x).win = (s.tileAt y).win ∧ x ≤ y))) ∧
          w ∈ (s.tileAt x).sets ∧ w.setid = d.setid ∧ (t.tileAt x).win = (s.tileAt x).win + 1 ∧ (t.tileAt x).active = (s.tileAt x).slotOf d.setid ∧ (∀ y, y ≠ x → t.tileAt y = s.tileAt y) ∧
          t.teqAt q = { k.consume d with slots := k.slots.set k.headAt { d with tile := some x, ord := s.te.ord, inline := [], res := some { mvmAll s.fresh d w (k.input d) with eb := s.effBits x d.integ / 10 } } }))) ∧
    (5 ≤ d.op → ∃ t, exec (.nop q) s = .next t ∧ t.teqAt q = { k with slots := k.slots.set k.headAt { d with tile := none, ord := s.te.ord, res := some { status := 1 }, inline := [] } }) ∧
    (∀ c, (d.op, c) ∈ [(0, Instr.nop q), (1, .mvm q), (2, .reduce q), (3, .loadw q), (4, .freew q)] →
      (d.ok = false → ∃ t, exec c s = .next t ∧ t.teqAt q = { k with slots := k.slots.set k.headAt { d with tile := none, ord := s.te.ord, res := some { status := 1 }, inline := [] } }) ∧
      (d.ok = true → k.inputReady d = false → s.feedLost q d = true →
        ∃ t, exec c s = .next t ∧ t.teqAt q = { k with slots := k.slots.set k.headAt { d with tile := none, ord := s.te.ord, res := some { status := 5 }, inline := [] } }))) ∧
  (∀ d, (s.teqAt q).head = some d → d.ok = true →
    (((s.teqAt q).inputReady d = false ∧ s.feedLost q d = false) ∨ (d.op = 1 ∧ (s.teqAt q).inputReady d = true ∧ s.setWidth d.setid = some d.q8 ∧
      (∃ t ∈ s.holders d.setid, 10 * d.minEb ≤ s.tFigure t d.integ) ∧ (s.roomTiles d).filter (s.precise d) = [])) → s.dispatchable q = false) ∧
  (∀ d c k, s.teRuns = true → k = s.teqAt q → k.slots.head? = some d →
    (d.res = none → exec (.descriptorComplete q) s = .next s) ∧
    (d.res = some c →
      (c.status ≠ 0 → ∃ t, exec (.descriptorComplete q) s = .next t ∧ t.get (Reg.TEG_Q_STAT_HALT q) = 1 ∧ t.get (Reg.TEG_Q_STAT_LAST_ERR q) = c.status % 256 ∧ (t.teqAt q).acc = none ∧
        (t.teqAt q).slots = k.slots.drop 1 ∧ bitOf (t.get (Reg.EVT 13)) 2 = true ∧ (t.hpAt d.port).deliveries = (s.hpAt d.port).deliveries ++ [s.teRecord q d c c.status]) ∧
      (c.status = 0 → d.laid = false → d.usesAcc = true → k.acc ≠ none → (k.accV ≠ d.vcount ∨ k.accN ≠ d.nlen) → ∃ t, exec (.descriptorComplete q) s = .next t ∧
        t.get (Reg.TEG_Q_STAT_HALT q) = 1 ∧ t.get (Reg.TEG_Q_STAT_LAST_ERR q) = 1 ∧ (t.teqAt q).acc = none ∧ (t.teqAt q).slots = k.slots.drop 1) ∧
      (c.status = 0 → d.laid = false → d.op ∈ [1, 2] → d.accMode = 1 → (k.acc = none ∨ (k.accV = d.vcount ∧ k.accN = d.nlen)) → k.out = [] → d.tile = none → ∃ t, exec (.descriptorComplete q) s = .next t ∧
        t.teqAt q = { k with slots := k.slots.drop 1, accV := d.vcount, accN := d.nlen, acc := some (List.zipWith fp32Acc (k.acc.getD (List.replicate c.vals.length 0)) c.vals) }) ∧
      (c.status = 0 → d.laid = false → d.op ∈ [1, 2] → d.accMode = 0 → d.flush = true → d.cmpl = false → k.out = [] → s.get (Reg.TEG_Q_CFG_DST_KIND q) = 0 → s.held (s.get (Reg.TEG_Q_CFG_DST_PORT q)) = false → (d.output c []).1 ≠ [] →
        (d.output c []).1.length ≤ 64 * (s.get (Reg.TEG_Q_CFG_OUT_PAY q) + 1) → ∃ t, exec (.descriptorComplete q) s = .next t ∧ (t.teqAt q).slots = k.slots.drop 1 ∧ (t.teqAt q).out = [] ∧ (t.teqAt q).acc = k.acc ∧
          (t.hpAt (s.get (Reg.TEG_Q_CFG_DST_PORT q))).deliveries = (s.hpAt (s.get (Reg.TEG_Q_CFG_DST_PORT q))).deliveries ++ [.engine q (d.output c []).1]) ∧
      (c.status = 0 → d.laid = false → d.op ∈ [1, 2] → d.accMode = 0 → d.flush = true → k.out = [] → s.get (Reg.TEG_Q_CFG_DST_KIND q) = 0 → s.held (s.get (Reg.TEG_Q_CFG_DST_PORT q)) = true → (d.output c []).1 ≠ [] →
        ∃ t, exec (.descriptorComplete q) s = .next t ∧ (t.teqAt q).slots.length = k.slots.length ∧ (t.teqAt q).out = (d.output c []).1 ∧ t.hp = s.hp ∧ t.sent = s.sent) ∧
      (c.status = 0 → d.laid = false → d.op = 4 → s.setInUse d.setid d.ord = false → d.flush = true → d.cmpl = false → s.get (Reg.TEG_Q_CFG_DST_KIND q) = 0 → s.held (s.get (Reg.TEG_Q_CFG_DST_PORT q)) = false →
        k.out ≠ [] → k.out.length ≤ 64 * (s.get (Reg.TEG_Q_CFG_OUT_PAY q) + 1) → ∃ t, exec (.descriptorComplete q) s = .next t ∧ (t.teqAt q).slots = k.slots.drop 1 ∧ (t.teqAt q).out = [] ∧
          (t.hpAt (s.get (Reg.TEG_Q_CFG_DST_PORT q))).deliveries = (s.hpAt (s.get (Reg.TEG_Q_CFG_DST_PORT q))).deliveries ++ [.engine q k.out]) ∧
      (c.status = 0 → d.laid = false → d.op = 4 → (s.setInUse d.setid d.ord = true → exec (.descriptorComplete q) s = .next s) ∧
        (s.setInUse d.setid d.ord = false → k.out = [] → (∀ x, ((s.tileAt x).sets.filter (·.setid == d.setid)).length ≤ 1) → ∃ t, exec (.descriptorComplete q) s = .next t ∧ t.holders d.setid = [] ∧ (t.teqAt q).slots = k.slots.drop 1)) ∧
      (∀ w, c.status = 0 → d.laid = false → d.op = 3 → c.wset = some w → s.holders w.setid = [] → k.out = [] →
        ((pickTiles (s.roomFor w.setid) d.repl).length < d.repl → ∃ t, exec (.descriptorComplete q) s = .next t ∧ t.get (Reg.TEG_Q_STAT_HALT q) = 1 ∧ t.get (Reg.TEG_Q_STAT_LAST_ERR q) = 3 ∧ t.holders w.setid = []) ∧
        (d.repl ≤ (pickTiles (s.roomFor w.setid) d.repl).length → (∀ x, (s.tileAt x).slots.length = 8) → ∃ t, exec (.descriptorComplete q) s = .next t ∧ (t.teqAt q).slots = k.slots.drop 1 ∧
          ∀ x ∈ pickTiles (s.roomFor w.setid) d.repl, some w ∈ (t.tileAt x).slots)))) ∧
  (∀ p, s.get Reg.TEG_Q_SEL_Q = q.val →
    (s.writable p 0xD09C 1 = true → ∃ t, exec (.resume p) s = .next t ∧ t.get (Reg.TEG_Q_STAT_HALT q) = 0 ∧ t.te = s.te ∧ Answered t p 0) ∧
    (s.writable p 0xD09C 2 = true → ∃ t, exec (.flush p) s = .next t ∧ t.get (Reg.TEG_Q_STAT_HALT q) = 0 ∧ (t.teqAt q).slots = [] ∧ (∀ j, j ≠ q.val → t.teqAt j = s.teqAt j) ∧ Answered t p 0) ∧
    (∀ b (v : Word), s.writable p (bindAddr b) v.toNat = true → ∃ t, exec (.queueBind p b v) s = .next t ∧ Answered t p 0 ∧ (match b with
      | .dsid => t.get (Reg.TEG_Q_DSID_SID q) = v.toNat % 2 ^ 21 ∧ t.get (Reg.TEG_Q_DSID_VALID q) = v.toNat / 2 ^ 31
      | .feed0 => t.get (Reg.TEG_Q_FEED0_SID q) = v.toNat % 2 ^ 21 ∧ t.get (Reg.TEG_Q_FEED0_VALID q) = v.toNat / 2 ^ 31
      | .feed1 => t.get (Reg.TEG_Q_FEED1_SID q) = v.toNat % 2 ^ 21 ∧ t.get (Reg.TEG_Q_FEED1_VALID q) = v.toNat / 2 ^ 31)) ∧
    (∀ b (v : Word), s.serves p = true → (s.get (Reg.TEG_Q_CFG_EN q) ≠ 0 ∨ (2 ^ 31 ≤ v.toNat ∧ s.bindable (v.toNat % 2 ^ 21) (b != .dsid) = false)) → ∃ t, exec (.queueBind p b v) s = .next t ∧
      bitOf (t.get (Reg.ERR 13)) 1 = true ∧ Collected s t 13 [])) ∧
  (∀ slot, ∃ t, exec (.queueUe q slot) s = .next t ∧ t.get (Reg.TEG_Q_STAT_HALT q) = 1 ∧ t.get (Reg.TEG_Q_STAT_LAST_ERR q) = 8 ∧ t.get Reg.TEG_AUD_RECON = (s.teqAt q).slots.length % 8192 ∧
    t.get Reg.TEG_AUD_Q = q % 64 ∧ t.get Reg.TEG_AUD_V = 1 ∧ bitOf (t.get (Reg.EVT 13)) 6 = true ∧ bitOf (t.get (Reg.ERR 13)) 8 = true ∧ (t.teqAt q).slots = (s.teqAt q).slots) ∧
  (∀ (x : TileId) slot, ∃ t, exec (.weightSlotUe x slot) s = .next t ∧ bitOf (t.get (Reg.ERR (96 + x))) 11 = true ∧ Collected s t (96 + x) []) ∧
  (∀ d, (s.teqAt q).head = some d → s.headWaits q true = true → d.told = false → ∃ t, exec (.precWait q) s = .next t ∧ bitOf (t.get (Reg.EVT 13)) 3 = true ∧
    t.teqAt q = { s.teqAt q with slots := (s.teqAt q).slots.set (s.teqAt q).headAt { d with told := true } }) ∧
  (s.headWaits q true = false ∨ (∃ d, (s.teqAt q).head = some d ∧ d.told = true) → exec (.precWait q) s = .next s)

/-- R285 to R289, Table FAULT-1: the tiles' rotation. With the tiles lit and clocked, the start measurement leaves TT31 as the spare and reports the tiles that fail; a boundary takes the next tile out, which drains, hands its sets to the spare, measures, stores its correction in the older copy of its CAL page while the write window is open, and stands as the spare; a correction that reads uncorrectable is an error of the Cellar; CAL_NOW goes first; a failed tile is marked and its sets go to the spare; TEG_FAIL returns it. Where it rests on the model's own choices these are assumptions 1 and 45. Completion is stated for: tegFailReturn, calEnWrite, calBoundary, tileDrainEnd, setCopyEnd, tileMeasurementEnd, startMeasurementEnd, tileFail. -/
def Obligations.TilesRotateMeasureAndFail : Prop := ∀ s : State, s.keep.mgmtOn = true → s.keep.domainsOn = true →
  (s.te.start = true → s.teLit = true → s.get Reg.TEG_FAIL_TILE = 0 → s.get Reg.TEG_CFG_CAL_EN = 1 → (s.tileAt 31).sets = [] → ∃ t, exec (.startMeasurementEnd [] []) s = .next t ∧ t.get Reg.TEG_STAT_READY = 1 ∧ t.te.start = false ∧
    t.te.spare = some 31 ∧ t.get Reg.TEG_CAL_OUT = 31 ∧ t.get Reg.TEG_CAL_MEAS_DONE = 1 ∧ t.get Reg.TEG_CAL_NEXT = 0 ∧ bitOf (t.get (Reg.EVT 13)) 0 = true ∧ ∀ i, i < 32 → (t.tileAt i).meas = some s.now) ∧
  (∀ failed ue : List TileId, s.te.start = true → s.teLit = true → s.get Reg.TEG_FAIL_TILE = 0 → ∃ t, exec (.startMeasurementEnd failed ue) s = .next t ∧ t.get Reg.TEG_STAT_READY = 1 ∧
    ∀ i : TileId, i.val < 32 → (bitOf (t.get Reg.TEG_FAIL_TILE) i = true ↔ i ∈ failed) ∧ (i ∈ failed → bitOf (t.get (Reg.ERR (96 + i))) 8 = true ∧ (t.tileAt i).meas = (s.tileAt i).meas)) ∧
  (s.te.start = false → ∀ failed ue, exec (.startMeasurementEnd failed ue) s = .next s) ∧
  (s.teLit = true → s.get Reg.TEG_STAT_READY = 1 → s.te.phase ∈ [.rest, .none] → s.te.calCmd = none →
    (∀ n sp, s.get Reg.TEG_CFG_CAL_EN ≠ 0 → s.te.calNow = none → s.get Reg.TEG_FAIL_TILE = 0 → s.get Reg.TEG_CAL_NEXT = n → n < 32 → s.te.spare = some sp → sp ≠ n → ∃ t, exec .calBoundary s = .next t ∧
      t.te.phase = .drain ∧ t.te.outg = some n ∧ (t.tileAt n).drain = true ∧ (t.tileAt n).slots = (s.tileAt n).slots ∧ t.get Reg.TEG_CAL_NEXT = (if (n + 1) % 32 = sp then (n + 2) % 32 else (n + 1) % 32)) ∧
    (∀ sp, s.get Reg.TEG_CFG_CAL_EN = 0 → s.te.spare = some sp → ∃ t, exec .calBoundary s = .next t ∧ t.te.spare = none ∧ t.te.phase = .none ∧ t.te.tiles = s.te.tiles ∧ bitOf (t.get (Reg.EVT (96 + sp))) 1 = true)) ∧
  (∀ x, s.teLit = true → s.get Reg.TEG_STAT_READY = 1 → s.te.phase ∈ [.rest, .none] → s.get Reg.TEG_CFG_CAL_EN ≠ 0 → s.te.calNow = some x → s.tileFailed x = false → s.te.spare ≠ some x → ∃ t, exec .calBoundary s = .next t ∧
    t.te.outg = some x ∧ t.te.calNow = none ∧ t.te.phase = .drain ∧ t.get Reg.TEG_CAL_NEXT = s.get Reg.TEG_CAL_NEXT) ∧
  (∀ x r, s.teLit = true → s.get Reg.TEG_STAT_READY = 1 → s.te.phase = .rest → s.te.calCmd = some x → s.te.calNow = none → s.mgmt.mbox = some r → r.op = 0x40 → r.wait = true → ∃ t, exec .calBoundary s = .next t ∧ Ended s t 0 []) ∧
  (s.te.phase ∉ [.rest, .none] → exec .calBoundary s = .next s) ∧
  (∀ x, s.teLit = true → s.te.outg = some x → s.te.phase = .drain →
    ((s.tileAt x).win = 0 → ∃ t, exec .tileDrainEnd s = .next t ∧ t.te.phase = .copy ∧ t.get Reg.TEG_STAT_HANDOVER = 1 ∧ t.te.tiles = s.te.tiles) ∧ ((s.tileAt x).win ≠ 0 → exec .tileDrainEnd s = .next s)) ∧
  (∀ x sp, s.teLit = true → s.te.outg = some x → s.te.phase = .copy → s.te.spare = some sp → sp ≠ x → x < 32 → ∃ t, exec .setCopyEnd s = .next t ∧ (t.tileAt sp).slots = (s.tileAt x).slots ∧ (t.tileAt sp).active = (s.tileAt x).active ∧
    (t.tileAt x).slots = List.replicate 8 none ∧ (t.tileAt x).drain = false ∧ t.te.phase = .measure ∧ t.te.spare = none ∧ t.get Reg.TEG_CAL_OUT = x ∧ t.get Reg.TEG_CAL_MEAS_DONE = 0 ∧ t.get Reg.TEG_STAT_HANDOVER = 0 ∧
    (∀ y, y ≠ x → y ≠ sp → t.tileAt y = s.tileAt y) ∧ bitOf (t.get (Reg.EVT (96 + sp))) 1 = true) ∧
  (∀ x, s.teLit = true → s.te.outg = some x → s.te.phase = .measure → x < 32 →
    (s.te.failWait = none → (s.tileAt x).sets = [] → ∃ t, exec (.tileMeasurementEnd true false) s = .next t ∧ t.te.spare = some x ∧ t.te.outg = none ∧ t.te.phase = .rest ∧ t.get Reg.TEG_CAL_MEAS_DONE = 1 ∧
      (t.tileAt x).meas = some s.now ∧
      (s.get Reg.CELL_STAT_MOUNTED = 1 → s.cellClocked = true → tget none t.nv.tileCorr x = (if s.get Reg.CELL_STAT_WIN = 1 then some (!(tget none s.nv.tileCorr x).getD true) else tget none s.nv.tileCorr x)) ∧ bitOf (t.get (Reg.EVT (96 + x))) 0 = true) ∧
    (∀ ok b, tget none s.nv.tileCorr x = some b → ∃ t, exec (.tileMeasurementEnd ok true) s = .next t ∧ bitOf (t.get (Reg.ERR 6)) 8 = true ∧ t.get Reg.CELL_UE_PAGE = corrPage x b ∧ t.get Reg.CELL_UE_VALID = 1) ∧
    (∀ f, s.te.failWait = some f → f ≠ x → ∃ t, exec (.tileMeasurementEnd true false) s = .next t ∧ (t.tileAt x).slots = (s.tileAt f).slots ∧ (t.tileAt f).slots = List.replicate 8 none ∧ t.te.failWait = none ∧ (t.tileAt x).meas = some s.now) ∧
    (∃ t, exec (.tileMeasurementEnd false false) s = .next t ∧ bitOf (t.get Reg.TEG_FAIL_TILE) x = true ∧ (s.tileFailed x = false → bitOf (t.get (Reg.ERR (96 + x))) 8 = true) ∧ (t.tileAt x).slots = List.replicate 8 none ∧
      t.te.phase = .rest ∧ t.te.outg = none)) ∧
  (∀ p (v : Word), s.writable p 0xD040 v.toNat = true → ∃ t, exec (.calEnWrite p v) s = .next t ∧ t.get Reg.TEG_CFG_CAL_EN = v.toNat % 2 ∧ t.te = s.te ∧ OnlyRegs { s with mgmt := t.mgmt, sent := t.sent } t [Reg.TEG_CFG_CAL_EN] ∧ Answered t p 0) ∧
  (∀ p (v : Word), s.writable p 0xD04C v.toNat = true → ∃ t, exec (.tegFailReturn p v) s = .next t ∧ Answered t p 0 ∧ ∀ i, i < 32 → bitOf (t.get Reg.TEG_FAIL_TILE) i = (bitOf (s.get Reg.TEG_FAIL_TILE) i && !bitOf v.toNat i) ∧
    (bitOf (s.get Reg.TEG_FAIL_TILE) i = true → bitOf v.toNat i = true → (t.tileAt i).due = true)) ∧
  (∀ (x : TileId) (why : TileFault), s.tileFailed x = true → exec (.tileFail x why) s = .next s) ∧
  (∀ (x : TileId) (why : TileFault), s.tileFailed x = false → s.tileState x = 0 → s.te.outg ≠ some x.toNat →
    (∀ sp, s.te.spare = some sp → ∃ t, exec (.tileFail x why) s = .next t ∧ bitOf (t.get Reg.TEG_FAIL_TILE) x = true ∧ bitOf (t.get (Reg.EVT 13)) 1 = true ∧ (∀ b ∈ tileErrBits why, bitOf (t.get (Reg.ERR (96 + x))) b = true) ∧
      (t.tileAt sp).slots = (s.tileAt x).slots ∧ (t.tileAt sp).active = (s.tileAt x).active ∧ (t.tileAt x).slots = List.replicate 8 none ∧ t.te.spare = none) ∧
    (s.te.spare = none → s.te.phase = .measure → s.te.failWait = none → ∃ t, exec (.tileFail x why) s = .next t ∧ bitOf (t.get Reg.TEG_FAIL_TILE) x = true ∧ t.te.failWait = some x.toNat ∧ (t.tileAt x).slots = (s.tileAt x).slots)) ∧
  (∀ (x : TileId) (why : TileFault), s.tileFailed x = false → s.tileState x = 2 → ∃ t, exec (.tileFail x why) s = .next t ∧ bitOf (t.get Reg.TEG_FAIL_TILE) x = true ∧ t.te.spare = none ∧ bitOf (t.get (Reg.EVT 13)) 1 = true)

/-- R318 to R327, R331, R340, Tables TWIN-1, MBOX-2: pairing and the sealed copy. HELLO settles the roles or fails; batches close with the next epoch and the sweep's records, unless 16 wait; the standby buffers records until their SEAL, applies a good batch and refuses a bad one once; every record that enters CORE is charged to M26 at the intake and ends silence; CONFIRM releases, NAK and the 2 µs timer send again; a record of a KIND that Table TWIN-1 does not have is counted; a confirmed first pass makes the pair WARM. Where it rests on the model's own choices these are assumptions 1, 46, 47 and 48. Completion is stated for: twinLinkTrained, hello, pairingTimeout, twinBatchClose, ctx, route, chan, seal, confirm, nak, heartbeat, heartbeatSend, batchResend, sweepPass. -/
def Obligations.TwinsPairAndCopyUnderSeal : Prop := ∀ s : State, s.keep.mgmtOn = true →
  (2 ≤ s.power → s.twin.enabled = true → s.twin.hello = none → ∃ t, exec .twinLinkTrained s = .next t ∧ t.get Reg.TWIN_STAT_LINK_UP = 1 ∧ t.twin.sent = true ∧ OnlyRegs { s with twin := t.twin, sent := t.sent } t [Reg.TWIN_STAT_LINK_UP] ∧
    (s.twin.sent = false → t.sent = .twinHello s.ownHello :: s.sent)) ∧
  (s.twin.enabled = false ∨ s.power < 2 → exec .twinLinkTrained s = .next s) ∧ (s.twin.enabled = false → ∀ h, exec (.hello h) s = .next s) ∧
  (∀ h : Hello, s.twin.enabled = true → s.get Reg.TWIN_STAT_STATE = 1 →
    (s.get Reg.TWIN_STAT_LINK_UP = 0 → exec (.hello h) s = .next { s with twin := { s.twin with hello := some h } }) ∧
    (s.get Reg.TWIN_STAT_LINK_UP ≠ 0 → h.enabled = true →
      ((h.node ≠ s.get Reg.ROUTE_NODE_NODE ∨ h.domain ≠ s.get Reg.ROUTE_NODE_DOMAIN ∨ h.nodeValid = false ∨ s.get Reg.ROUTE_NODE_VALID = 0) → ∃ t, exec (.hello h) s = .next t ∧ t.twin.enabled = false ∧
        t.get Reg.TWIN_STAT_STATE = (if s.get Reg.TWIN_STAT_ROLE = 1 then 4 else 0) ∧ t.get Reg.TWIN_STAT_PAIRED = s.get Reg.TWIN_STAT_PAIRED ∧ (∀ r, s.mgmt.mbox = some r → r.op = 0x50 → r.wait = true → Ended s t 0x0C [])) ∧
      (h.node = s.get Reg.ROUTE_NODE_NODE → h.domain = s.get Reg.ROUTE_NODE_DOMAIN → h.nodeValid = true → s.get Reg.ROUTE_NODE_VALID ≠ 0 →
        (∀ role, ((s.carries = true ∧ h.traffic = false ∧ role = 1) ∨ (s.carries = false ∧ h.traffic = true ∧ role = 2) ∨
            (s.carries = false ∧ h.traffic = false ∧ h.strap ≠ s.bit Reg.KEEP_STRAP_TWIN_ROLE ∧ role = if s.bit Reg.KEEP_STRAP_TWIN_ROLE then 2 else 1)) →
          ∃ t, exec (.hello h) s = .next t ∧ t.get Reg.TWIN_STAT_ROLE = role ∧ t.get Reg.TWIN_STAT_PAIRED = 1 ∧ t.get Reg.TWIN_STAT_STATE = 2 ∧ t.get Reg.TWIN_STAT_PROTECTED = 0 ∧ t.get Reg.TWIN_EPOCH_S_EPOCH = 0 ∧
            t.get Reg.TWIN_EPOCH_C_EPOCH = 0 ∧ t.twin.recs = [] ∧ t.twin.batches = [] ∧ t.twin.sweep = 0 ∧ bitOf (t.get (Reg.EVT 7)) 0 = true ∧ (role = 2 → t.gates = false) ∧ t.strm = s.strm ∧
            (∀ r, s.mgmt.mbox = some r → r.op = 0x50 → r.wait = true → Ended s t 0 [0])) ∧
        (((s.carries = true ∧ h.traffic = true) ∨ (s.carries = false ∧ h.traffic = false ∧ h.strap = s.bit Reg.KEEP_STRAP_TWIN_ROLE)) → ∃ t, exec (.hello h) s = .next t ∧ t.get Reg.TWIN_STAT_CLASH = 1 ∧
          bitOf (t.get (Reg.EVT 7)) 5 = true ∧ t.twin.enabled = false ∧ (∀ r, s.mgmt.mbox = some r → r.op = 0x50 → r.wait = true → Ended s t 0x0C []))))) ∧
  ((s.get Reg.TWIN_STAT_STATE = 1 → ∃ t, exec .pairingTimeout s = .next t ∧ t.twin.enabled = false ∧ t.get Reg.TWIN_STAT_STATE = (if s.get Reg.TWIN_STAT_ROLE = 1 then 4 else 0) ∧
      (∀ r, s.mgmt.mbox = some r → r.op = 0x50 → r.wait = true → Ended s t 0x0C [])) ∧ (s.get Reg.TWIN_STAT_STATE ≠ 1 → exec .pairingTimeout s = .next s)) ∧
  (∀ e, s.copying = true → s.get Reg.TWIN_STAT_LINK_UP ≠ 0 → s.twin.hand = none → s.twin.recs.length ≤ 255 → e = (s.get Reg.TWIN_EPOCH_S_EPOCH + 1) % 2 ^ 32 →
    (16 ≤ s.twin.batches.length → exec .twinBatchClose s = .next s) ∧
    (s.twin.batches.length < 16 → ∃ t l, exec .twinBatchClose s = .next t ∧ l = (List.range (min (255 - s.twin.recs.length) (sweepLen - s.twin.sweep))).map (fun i => s.sweepRec (s.twin.sweep + i)) ∧ t.twin.recs = [] ∧
      t.twin.batches = s.twin.batches ++ [⟨e, s.twin.recs ++ l⟩] ∧ t.get Reg.TWIN_EPOCH_S_EPOCH = e ∧ OnlyRegs { s with twin := t.twin, sent := t.sent } t [Reg.TWIN_EPOCH_S_EPOCH] ∧
      t.sent.head? = some (.twinSeal e (s.twin.recs.length + l.length) (crc32c ((s.twin.recs ++ l).map recBytes).flatten)))) ∧
  (s.copies = true → ∀ c r, ((∃ x, c = .ctx x ∧ r = .ctx x) ∨ (∃ x, c = .route x ∧ r = .route x) ∨ (∃ n, c = .chan n ∧ r = .chan n)) → ∃ t, exec c s = .next t ∧ t.twin = { s.twin with rx := s.twin.rx ++ [r], quiet := false } ∧ t.strm = s.strm ∧ t.routes = s.routes ∧
    (s.gates = false → t = { s with twin := t.twin }) ∧ (s.gates = true → s.frozen = false → ∃ q ∈ (t.point 0).waiting, q.master = 26 ∧ q.cost = 1)) ∧
  (s.copies = false → (∀ r, exec (.ctx r) s = .next s) ∧ (∀ r, exec (.route r) s = .next s) ∧ (∀ n, exec (.chan n) s = .next s) ∧ ∀ e k c, exec (.seal e k c) s = .next s) ∧
  (∀ e k (crc : Word), s.copies = true →
    (e = (s.get Reg.TWIN_EPOCH_S_EPOCH + 1) % 2 ^ 32 → k = s.twin.rx.length → crc.toNat = crc32c (s.twin.rx.map recBytes).flatten → ∃ t, exec (.seal e k crc) s = .next t ∧ t.get Reg.TWIN_EPOCH_S_EPOCH = e ∧
      t.get Reg.TWIN_EPOCH_C_EPOCH = e ∧ t.twin.rx = [] ∧ t.twin.quiet = false ∧ t.sent.head? = some (.twinConfirm e) ∧
      (∀ r : CtxRec, s.twin.rx = [.ctx r] → r.state ≠ 0 → OnlyCtx s t r.sid ∧ (t.ctxAt r.sid).state = r.state ∧ (t.ctxAt r.sid).recv = r.recv ∧ (t.ctxAt r.sid).gen = r.gen ∧ (t.ctxAt r.sid).seq = r.seq ∧
        (t.ctxAt r.sid).peerNode = r.peerNode ∧ (t.ctxAt r.sid).peerSid = r.peerSid) ∧
      (∀ b i d, s.twin.rx = [.route (.entry b i d)] → tget 0 t.routes (1024 * b2n b + i % 1024) = d.toNat ∧ t.strm = s.strm)) ∧
    ((e ≠ (s.get Reg.TWIN_EPOCH_S_EPOCH + 1) % 2 ^ 32 ∨ k ≠ s.twin.rx.length ∨ crc.toNat ≠ crc32c (s.twin.rx.map recBytes).flatten) → ∃ t, exec (.seal e k crc) s = .next t ∧ t.twin = { s.twin with rx := [], naked := true, quiet := false } ∧
      t.get Reg.TWIN_CNT_TORN = min (s.get Reg.TWIN_CNT_TORN + 1) 4095 ∧ t.strm = s.strm ∧ t.routes = s.routes ∧ (s.gates = false → OnlyRegs { s with twin := t.twin, sent := t.sent } t [Reg.TWIN_CNT_TORN]) ∧
      (s.twin.naked = false → t.sent.head? = some (.twinNak e)) ∧ (s.gates = false → s.twin.naked = true → e ≠ (s.get Reg.TWIN_EPOCH_S_EPOCH + 1) % 2 ^ 32 → t.sent = s.sent))) ∧
  (∀ b rest, s.copying = true → s.twin.batches = b :: rest → b.epoch < 2 ^ 32 →
    (s.twin.hand ≠ some b.epoch → ∃ t, exec (.confirm b.epoch) s = .next t ∧ t.get Reg.TWIN_EPOCH_C_EPOCH = b.epoch ∧ (b.recs = [] → t.twin.batches = rest ∧ t.strm = s.strm) ∧
      ∀ r : CtxRec, b.recs = [.ctx r] → (s.ctxAt r.sid).state ≠ 0 → (s.ctxAt r.sid).brynn = false → (s.ctxAt r.sid).recv = true → r.recv = true → (s.ctxAt r.sid).gen = r.gen → (t.ctxAt r.sid).conf = r.seq ∧
        (s.get Reg.TWIN_STAT_STATE = 3 → r.seq ≠ (s.ctxAt r.sid).acked → r.state = 1 → (s.ctxAt r.sid).peerNode ≠ s.get Reg.ROUTE_NODE_NODE → r.sid ∈ t.strm.due)) ∧
    (s.twin.hand = some b.epoch → b.recs = [] → rest = [] → ∃ t, exec (.confirm b.epoch) s = .next t ∧ t.get Reg.TWIN_STAT_ROLE = 2 ∧ .twinHand b.epoch ∈ t.sent ∧ t.twin.hand = none ∧ bitOf (t.get (Reg.EVT 7)) 6 = true ∧
      t.strm.chans = [] ∧ (∀ r, s.mgmt.mbox = some r → r.op = 0x50 → r.wait = true → Ended s t 0 [b.epoch])) ∧
    (∃ t, exec (.nak b.epoch) s = .next t ∧ t.twin = { s.twin with quiet := false } ∧ t.get Reg.TWIN_CNT_RESEND = min (s.get Reg.TWIN_CNT_RESEND + (rest.length + 1)) 4095 ∧
      (rest = [] → ∃ l, t.sent = .twinSeal b.epoch b.recs.length (crc32c (b.recs.map recBytes).flatten) :: ((b.recs.map Out.twinRec).reverse ++ l))) ∧
    (∃ t, exec .batchResend s = .next t ∧ t.twin = s.twin ∧ t.get Reg.TWIN_CNT_RESEND = min (s.get Reg.TWIN_CNT_RESEND + (rest.length + 1)) 4095)) ∧
  (∀ e, (∀ b ∈ s.twin.batches, b.epoch ≠ e) → exec (.confirm e) s = .next s) ∧ (s.twin.batches = [] → exec .batchResend s = .next s) ∧
  ((s.twin.enabled = true → s.get Reg.TWIN_STAT_LINK_UP ≠ 0 → exec .heartbeatSend s = .next { s with sent := .twinBeat :: s.sent }) ∧ (s.twin.enabled = false → exec .heartbeatSend s = .next s)) ∧
  (∀ kind : Byte, (s.get Reg.TWIN_STAT_LINK_UP = 0 → exec (.heartbeat kind) s = .next s) ∧
    (s.get Reg.TWIN_STAT_LINK_UP ≠ 0 → (kind = 0x12 → exec (.heartbeat kind) s = .next { s with twin := { s.twin with quiet := false } }) ∧
      (kind ∉ [0x01, 0x02, 0x03, 0x0F, 0x10, 0x11, 0x12, 0x13, 0x14, 0x15] → ∃ t, exec (.heartbeat kind) s = .next t ∧ t.get Reg.TWIN_CNT_BAD = min (s.get Reg.TWIN_CNT_BAD + 1) 255 ∧ OnlyRegs s t [Reg.TWIN_CNT_BAD]))) ∧
  (s.get Reg.TWIN_STAT_PAIRED ≠ 0 → s.get Reg.TWIN_STAT_STATE = 2 →
    ((s.get Reg.TWIN_STAT_ROLE = 2 ∨ ∃ e, s.get Reg.TWIN_STAT_ROLE ≠ 2 ∧ s.twin.sweepEnd = some e ∧ (∀ b ∈ s.twin.batches, b.epoch ≠ e) ∧ e ≠ (s.get Reg.TWIN_EPOCH_S_EPOCH + 1) % 2 ^ 32) → ∃ t, exec .sweepPass s = .next t ∧
      t.get Reg.TWIN_STAT_STATE = 3 ∧ t.get Reg.TWIN_STAT_PROTECTED = 1 ∧ bitOf (t.get (Reg.EVT 7)) 1 = true ∧ t.twin = s.twin) ∧
    (s.get Reg.TWIN_STAT_ROLE ≠ 2 → s.twin.sweepEnd = none → exec .sweepPass s = .next s)) ∧
  (s.get Reg.TWIN_STAT_STATE ≠ 2 → exec .sweepPass s = .next s)

/-- R321, R329 to R340, Table TWIN-3: silence, promotion and hand-over. One failed lane of the twin link in each direction is repaired, a second one or the loss of the link is silence; an active that meets silence runs alone; a WARM standby claims the node from its peers and a COLD one is LOST; the claim's answers decide in its window, and without an answer the claim is sent again while the silence lasts; the commit makes it active, opens its gates and resumes its streams; a peer wakes the ports of a claimed node and answers by their light. Where it rests on the model's own choices these are assumptions 1, 46, 47 and 48. Completion is stated for: twinLinkLost, twinDown, twinSilence, handover, role, roleAnswer, roleAck, roleNak, roleClaimRepeat, roleClaimWindow, resumeRecvAnswer. -/
def Obligations.SilencePromotionAndHandOver : Prop := ∀ s : State, s.keep.mgmtOn = true →
  (s.get Reg.TWIN_STAT_LINK_UP = 0 → ∀ lane, exec (.twinLinkLost lane) s = .next s) ∧
  (s.get Reg.TWIN_STAT_LINK_UP ≠ 0 → (s.twin.laneRx = false → exec (.twinLinkLost (some true)) s = .next { s with twin := { s.twin with laneRx := true } }) ∧
    (s.twin.laneTx = false → exec (.twinLinkLost (some false)) s = .next { s with twin := { s.twin with laneTx := true } })) ∧
  (∀ lane : Option Bool, s.get Reg.TWIN_STAT_LINK_UP ≠ 0 → (lane = some true → s.twin.laneRx = true) → (lane = some false → s.twin.laneTx = true) →
    (s.get Reg.TWIN_STAT_PAIRED = 0 → ∃ t, exec (.twinLinkLost lane) s = .next t ∧ t.get Reg.TWIN_STAT_LINK_UP = 0 ∧ t.twin = { s.twin with sent := false } ∧ OnlyRegs { s with twin := t.twin } t [Reg.TWIN_STAT_LINK_UP]) ∧
    (s.get Reg.TWIN_STAT_PAIRED ≠ 0 → ∃ t, exec (.twinLinkLost lane) s = .next t ∧ t.twin.quiet = true ∧ t.get Reg.TWIN_STAT_LINK_UP = 0 ∧ bitOf (t.get (Reg.ERR 7)) 8 = true ∧ (s.get Reg.TWIN_STAT_ROLE = 1 → t.get Reg.TWIN_STAT_STATE = 4 ∧ t.get Reg.TWIN_STAT_PAIRED = 0))) ∧
  (∀ c cause, ((c = .twinSilence ∧ cause = 1) ∨ ∃ reason, c = .twinDown reason ∧ cause = 2) →
    (s.get Reg.TWIN_STAT_PAIRED = 0 → exec c s = .next { s with twin := { s.twin with quiet := true } }) ∧
    (s.get Reg.TWIN_STAT_PAIRED ≠ 0 →
      (s.get Reg.TWIN_STAT_ROLE = 1 → ∃ t, exec c s = .next t ∧ t.get Reg.TWIN_STAT_STATE = 4 ∧ t.get Reg.TWIN_STAT_PAIRED = 0 ∧ t.get Reg.TWIN_STAT_PROTECTED = 0 ∧ t.get Reg.TWIN_STAT_ROLE = 1 ∧ t.twin.recs = [] ∧ t.twin.batches = [] ∧
        bitOf (t.get (Reg.EVT 7)) 2 = true ∧ ∀ sid, ∀ u ∈ (t.ctxAt sid).unack, u.ranged = false) ∧
      (s.get Reg.TWIN_STAT_ROLE ≠ 1 → s.get Reg.TWIN_STAT_STATE = 3 → ∃ t, exec c s = .next t ∧ t.get Reg.TWIN_STAT_STATE = 5 ∧ t.get Reg.TWIN_STAT_PROTECTED = 0 ∧ t.twin.claim = some (s.now, cause, false, false) ∧ t.twin.rx = [] ∧
        t.get Reg.TWIN_PROM_COUNT = (s.get Reg.TWIN_PROM_COUNT + 1) % 256 ∧ t.get Reg.TWIN_PROM_CAUSE = cause ∧ t.get Reg.TWIN_CNT_TORN = (if s.twin.rx = [] then s.get Reg.TWIN_CNT_TORN else min (s.get Reg.TWIN_CNT_TORN + 1) 4095) ∧
        t.twin.quiet = true ∧ ∀ n ∈ s.rolePorts, Says s t n 0x60 [s.get Reg.ROUTE_NODE_NODE, 0, (s.get Reg.TWIN_PROM_COUNT + 1) % 256]) ∧
      (s.get Reg.TWIN_STAT_ROLE ≠ 1 → s.get Reg.TWIN_STAT_STATE = 2 → ∃ t, exec c s = .next t ∧ t.get Reg.TWIN_STAT_STATE = 7 ∧ bitOf (t.get (Reg.EVT 7)) 2 = true ∧ t.twin = { s.twin with quiet := true }))) ∧
  ((s.get Reg.TWIN_STAT_STATE = 5 → s.twin.claim ≠ none → ∃ t, exec .roleClaimRepeat s = .next t ∧ t = { s with sent := t.sent, op := t.op } ∧ ∀ n ∈ s.rolePorts, Says s t n 0x60 [s.get Reg.ROUTE_NODE_NODE, 0, s.get Reg.TWIN_PROM_COUNT]) ∧
    (s.twin.claim = none → exec .roleClaimRepeat s = .next s ∧ exec .roleClaimWindow s = .next s)) ∧
  (∀ b c a k, s.twin.claim = some (b, c, a, k) →
    (∀ n, exec (.roleAck n (s.get Reg.ROUTE_NODE_NODE) (s.get Reg.TWIN_PROM_COUNT)) s = .next { s with twin := { s.twin with claim := some (b, c, true, k) } } ∧
      exec (.roleNak n (s.get Reg.ROUTE_NODE_NODE) (s.get Reg.TWIN_PROM_COUNT)) s = .next { s with twin := { s.twin with claim := some (b, c, a, true) } }) ∧
    (∀ n node count, (node ≠ s.get Reg.ROUTE_NODE_NODE ∨ count ≠ s.get Reg.TWIN_PROM_COUNT) → exec (.roleAck n node count) s = .next s ∧ exec (.roleNak n node count) s = .next s) ∧
    (k = true → ∃ t, exec .roleClaimWindow s = .next t ∧ t.get Reg.TWIN_STAT_STATE = 6 ∧ t.twin.claim = none ∧ t.get Reg.TWIN_STAT_ROLE = s.get Reg.TWIN_STAT_ROLE ∧ bitOf (t.get (Reg.EVT 7)) 4 = true) ∧
    (k = false → a = false → s.twin.quiet = true → ∃ t, exec .roleClaimWindow s = .next t ∧ t = { s with sent := t.sent, op := t.op } ∧ ∀ n ∈ s.rolePorts, Says s t n 0x60 [s.get Reg.ROUTE_NODE_NODE, 0, s.get Reg.TWIN_PROM_COUNT]) ∧
    (k = false → a = false → s.twin.quiet = false → ∃ t, exec .roleClaimWindow s = .next t ∧ t.get Reg.TWIN_STAT_STATE = 3 ∧ t.twin = { s.twin with claim := none } ∧ t.sent = s.sent ∧ SameRegs s t [Reg.TWIN_STAT_STATE, Reg.TWIN_STAT_PROTECTED]) ∧
    (k = false → a = true → ∃ t, exec .roleClaimWindow s = .next t ∧ t.get Reg.TWIN_STAT_ROLE = 1 ∧ t.get Reg.TWIN_STAT_STATE = 4 ∧ t.get Reg.TWIN_STAT_PAIRED = 0 ∧ t.twin.claim = none ∧ bitOf (t.get (Reg.EVT 7)) 3 = true ∧
      t.get Reg.TWIN_PROM_US = min ((s.now - b) / 1000) (2 ^ 22 - 1) ∧ (s.power = 4 → s.frozen = false → t.gates = true) ∧
      (∀ n ∈ s.rolePorts, Says s t n 0x60 [s.get Reg.ROUTE_NODE_NODE, 1, s.get Reg.TWIN_PROM_COUNT]) ∧
      ∀ sid, (s.ctxAt sid).state ∉ [0, 4] → ((s.ctxAt sid).recv = true → (t.ctxAt sid).resume = 1 ∧ (t.ctxAt sid).seq = (s.ctxAt sid).seq) ∧
        ((s.ctxAt sid).recv = false → (t.ctxAt sid).seq = (s.ctxAt sid).acked ∧ .resumeSend sid (s.ctxAt sid).gen (s.ctxAt sid).acked ∈ (t.hpAt (s.ctxAt sid).module).deliveries))) ∧
  (∀ (n : OpId) node phase count, (s.trained n = false ∨ s.brynn n = true → exec (.role n node phase count) s = .next s) ∧
    (s.trained n = true → s.brynn n = false → (phase = 1 → ∃ t, exec (.role n node phase count) s = .next t ∧ t.get (Reg.OP_PEER_ROLE n) = 1 ∧ OnlyRegs s t [Reg.OP_PEER_ROLE n]) ∧
      (phase ≠ 1 → ∃ t, exec (.role n node phase count) s = .next t ∧ (t.opAt n).claim = some (node, count) ∧ t.regs = s.regs ∧
        ∀ m ∈ s.activePorts node, s.get (Reg.OP_STAT_PSTATE m) ∈ [3, 4] → (s.opAt m).waking = false → .wake m ∈ t.sent ∧ (t.opAt m).waking = true))) ∧
  (∀ n : OpId, ((s.opAt n).claim = none → exec (.roleAnswer n) s = .next s) ∧ ∀ node count, (s.opAt n).claim = some (node, count) → ∃ t, exec (.roleAnswer n) s = .next t ∧ (t.opAt n).claim = none ∧ t.regs = s.regs ∧
    ((∃ m ∈ s.activePorts node, s.cdrLocked m = true) → Says s t n 0x62 [node, count] ∧ (s.lctlNow n = true → t.sent = s.lctlFrame n 0x62 [node, count] :: s.sent)) ∧
    ((∀ m ∈ s.activePorts node, s.cdrLocked m = false) → Says s t n 0x61 [node, count] ∧ (s.lctlNow n = true → t.sent = s.lctlFrame n 0x61 [node, count] :: s.sent))) ∧
  (∀ e, (s.copies = true → s.get Reg.TWIN_STAT_STATE = 3 → ∃ t, exec (.handover e) s = .next t ∧ t.get Reg.TWIN_STAT_ROLE = 1 ∧ t.get Reg.TWIN_STAT_STATE = 3 ∧ t.get Reg.TWIN_STAT_PAIRED = s.get Reg.TWIN_STAT_PAIRED ∧
      t.get Reg.TWIN_PROM_CAUSE = 3 ∧ t.get Reg.TWIN_PROM_COUNT = (s.get Reg.TWIN_PROM_COUNT + 1) % 256 ∧ (s.power = 4 → s.frozen = false → t.gates = true) ∧ bitOf (t.get (Reg.EVT 7)) 3 = true) ∧
    (s.copies = false ∨ s.get Reg.TWIN_STAT_STATE ≠ 3 → exec (.handover e) s = .next s)) ∧
  (∀ sid gen seq c, c = s.ctxAt sid → c.state ≠ 0 → c.recv = true → c.resume = 2 → ∃ t, exec (.resumeRecvAnswer sid gen seq) s = .next t ∧ OnlyCtx s t sid ∧ (t.ctxAt sid).resume = 0 ∧
    ((gen = c.gen ∧ behind (seqMod c.brynn) c.seq seq = true) ∨ gen = (c.gen + 1) % 256 → (t.ctxAt sid).seq = seq ∧ (t.ctxAt sid).accepted = seq ∧ (t.ctxAt sid).gen = gen) ∧
    (gen ≠ (c.gen + 1) % 256 → (gen ≠ c.gen ∨ behind (seqMod c.brynn) c.seq seq = false) → (t.ctxAt sid).seq = c.seq ∧ (t.ctxAt sid).gen = c.gen)) ∧
  (∀ sid gen seq, (s.ctxAt sid).resume ≠ 2 → exec (.resumeRecvAnswer sid gen seq) s = .next s)

/-- R358 to R362, R365, R366, R369, R371, Tables FAULT-1, FAULT-2: errors, the Trapdoor and the fatal dump. A first error is captured and pulses FAULT_N, any other is merged; ERR_SUM clears only where the cause is gone; the Trapdoor follows ERR_SUM, FAULT_TRAP and PARITY; PARITY clears after ERR [2] and is raised whatever ERR_MSK holds; the dump takes the lowest free slot, or its outcome is recorded. Where it rests on the model's own choices these are assumptions 1, 17, 34, 37 and 50. Completion is stated for: errSumWrite, faultTrapWrite, parityClear, collectorParity, fatalDump, fatalDumpEnd, hkDead, fwFatal. -/
def Obligations.ErrorsTrapdoorAndFatalDump : Prop := ∀ s : State,
  (∀ (p : Path) (hi : Bool) (v : Word), s.writable p (if hi then 0x3044 else 0x3040) v.toNat = true → ∃ t, exec (.errSumWrite p hi v) s = .next t ∧ Answered t p 0 ∧
    (∀ i, i < 32 → bitOf (t.get (if hi then Reg.ERR_SUM_HI_SUM else Reg.ERR_SUM_LO_SUM)) i =
      (bitOf (s.get (if hi then Reg.ERR_SUM_HI_SUM else Reg.ERR_SUM_LO_SUM)) i && !(bitOf v.toNat i && s.causeGone (if hi then 32 + i else i)))) ∧
    t.get (if hi then Reg.ERR_SUM_LO_SUM else Reg.ERR_SUM_HI_SUM) = s.get (if hi then Reg.ERR_SUM_LO_SUM else Reg.ERR_SUM_HI_SUM) ∧ t.keep.inTrap = t.trapCond ∧
    (s.errSum ≠ 0 → t.errSum = 0 → bitOf (t.get (Reg.EVT 3)) 3 = true ∧ ∃ e ∈ t.keep.shelf, e.code = 4 ∧ e.time = s.stamp)) ∧
  (∀ (p : Path) (hi : Bool) (v : Word), s.writable p (if hi then 0x304C else 0x3048) v.toNat = true → ∃ t, exec (.faultTrapWrite p hi v) s = .next t ∧ Answered t p 0 ∧
    t.get (if hi then Reg.FAULT_TRAP_HI_EN else Reg.FAULT_TRAP_LO_EN) = v.toNat ∧ t.errSum = s.errSum ∧ t.keep.inTrap = t.trapCond) ∧
  (∀ p : Path, s.writable p 0x3058 4 = true →
    (bitOf (s.get (Reg.ERR 3)) 2 = false → ∃ t, exec (.parityClear p) s = .next t ∧ t.get Reg.FAULT_STAT_PARITY = 0 ∧ t.keep.inTrap = t.trapCond ∧ Answered t p 0) ∧
    (bitOf (s.get (Reg.ERR 3)) 2 = true → ∃ t, exec (.parityClear p) s = .next t ∧ t.regs = s.regs ∧ t.keep = s.keep ∧ Answered t p 0)) ∧
  (s.keep.vauxGood = false → exec .collectorParity s = .next s) ∧
  (s.keep.vauxGood = true → ∃ t, exec .collectorParity s = .next t ∧ t.get Reg.FAULT_STAT_PARITY = 1 ∧ bitOf (t.get (Reg.ERR 3)) 2 = true ∧ t.keep.inTrap = true ∧
    (bitOf (s.get (Reg.ERR 3)) 2 = false → bitOf t.errSum 3 = true ∧
      (s.errSum = 0 → t.get Reg.FAULT_FIRST_SRC_BIT = 3 ∧ t.get Reg.FAULT_FIRST_SRC_ERRBIT = 2 ∧ t.get Reg.FAULT_FIRST_SRC_PAGE = 3 ∧ t.get Reg.FAULT_FIRST_SRC_SUSPECT = 1 ∧ t.get Reg.FAULT_FIRST_SRC_VALID = 1))) ∧
  (s.mgmt.hkRun = false → exec .fwFatal s = .next s) ∧
  (s.mgmt.hkRun = true → s.keep.mgmtOn = true → ∃ t, exec .fwFatal s = .next t ∧ bitOf (t.get (Reg.ERR 14)) 9 = true ∧ Collected { s with fresh := s.fresh + 1 } t 14 [] ∧
    (bitOf (s.get (Reg.ERR 14)) 9 = false → bitOf (s.get (Reg.ERR_MSK 14)) 9 = false → bitOf t.errSum 14 = true ∧
      (s.errSum = 0 → t.get Reg.FAULT_FIRST_SRC_BIT = 14 ∧ t.get Reg.FAULT_FIRST_SRC_ERRBIT = 9 ∧ t.get Reg.FAULT_FIRST_SRC_PAGE = 14 ∧ t.get Reg.FAULT_FIRST_SRC_MASTER = 31 ∧ t.get Reg.FAULT_FIRST_SRC_ACC = 0 ∧
        t.get Reg.FAULT_FIRST_SRC_VALID = 1 ∧ t.get Reg.FAULT_FIRST_TIME_LO_FTIME = s.stamp % 2 ^ 32 ∧ t.get Reg.FAULT_MERGE_COUNT = 0 ∧ t.get Reg.FAULT_MERGE_FAULTS = min (s.get Reg.FAULT_MERGE_FAULTS + 1) 65535 ∧
        t.keep.pulse = true ∧ bitOf (t.get (Reg.EVT 3)) 0 = true ∧ ∃ e ∈ t.keep.shelf, e.code = 1 ∧ e.bit = 14 ∧ e.errbit = 9 ∧ e.page = 14) ∧
      (s.errSum ≠ 0 → t.get Reg.FAULT_FIRST_SRC_BIT = s.get Reg.FAULT_FIRST_SRC_BIT ∧ t.get Reg.FAULT_FIRST_SRC_PAGE = s.get Reg.FAULT_FIRST_SRC_PAGE ∧ t.keep.pulse = s.keep.pulse ∧
        t.get Reg.FAULT_MERGE_COUNT = min (s.get Reg.FAULT_MERGE_COUNT + 1) 65535 ∧ bitOf (t.get (Reg.EVT 3)) 1 = true ∧ ∃ e ∈ t.keep.shelf, e.code = 2 ∧ e.bit = 14 ∧ e.errbit = 9 ∧ e.page = 14) ∧
      (bitOf s.faultTrap 14 = true → s.keep.inTrap = false → t.keep.inTrap = true ∧ ∃ e ∈ t.keep.shelf, e.code = 3))) ∧
  (s.keep.dump ≠ .due → (∀ env, exec (.fatalDump env) s = .next s) ∧ exec .hkDead s = .next s) ∧
  (s.keep.dump = .due →
    (∃ t, exec .hkDead s = .next t ∧ t.get Reg.FAULT_DUMP_RESULT = 6 ∧ t.get Reg.FAULT_DUMP_VALID = 1 ∧ t.keep.dump = .idle ∧ t.nv = s.nv) ∧
    (s.mgmt.hkRun = true → s.get Reg.CELL_STAT_MOUNTED ≠ 0 → s.cellClocked = true → ∀ env : CellEnv,
      (s.freeSlotOf = none → ∃ t, exec (.fatalDump env) s = .next t ∧ t.get Reg.FAULT_DUMP_RESULT = 2 ∧ t.get Reg.FAULT_DUMP_VALID = 1 ∧ t.get Reg.FAULT_DUMP_SLOT = s.get Reg.FAULT_DUMP_SLOT ∧ t.keep.dump = .idle ∧ t.nv = s.nv) ∧
      (∀ k, s.freeSlotOf = some k → (s.get Reg.CELL_STAT_WIN = 0 ∨ env.winCloses = some 0) → ∃ t, exec (.fatalDump env) s = .next t ∧ t.get Reg.FAULT_DUMP_RESULT = 3 ∧ t.get Reg.FAULT_DUMP_VALID = 1 ∧ t.get Reg.FAULT_DUMP_SLOT = s.get Reg.FAULT_DUMP_SLOT ∧
        t.keep.dump = .idle ∧ t.nv = s.nv) ∧
      (∀ k, s.freeSlotOf = some k → s.get Reg.CELL_STAT_WIN ≠ 0 → env.winCloses ≠ some 0 → env.bootFails = true → ∃ t, exec (.fatalDump env) s = .next t ∧ t.get Reg.FAULT_DUMP_RESULT = 4 ∧ t.get Reg.FAULT_DUMP_VALID = 1 ∧
        t.get Reg.FAULT_DUMP_SLOT = s.get Reg.FAULT_DUMP_SLOT ∧ t.keep.dump = .idle ∧ t.nv = s.nv) ∧
      (∀ k, s.freeSlotOf = some k → s.get Reg.CELL_STAT_WIN ≠ 0 → env.winCloses ≠ some 0 → env.bootFails = false → ∃ t, exec (.fatalDump env) s = .next t ∧ t.get Reg.FAULT_DUMP_RESULT = 0 ∧ t.get Reg.FAULT_DUMP_VALID = 1 ∧ t.get Reg.FAULT_DUMP_SLOT = k ∧ t.keep.dump = .running ∧
        tget AtticState.free t.nv.attic k = .writing ∧ OnlyRegs { s with keep := t.keep, nv := t.nv } t [Reg.FAULT_DUMP_RESULT, Reg.FAULT_DUMP_VALID, Reg.FAULT_DUMP_SLOT]))) ∧
  (s.keep.dump ≠ .running → ∀ r, exec (.fatalDumpEnd r) s = .next s) ∧
  (s.keep.dump = .running → s.keep.mgmtOn = true →
    (∀ r code, (r, code) ∈ [(DumpResult.windowClosed, 3), (.cellErr, 4), (.aborted, 5)] → ∃ t, exec (.fatalDumpEnd r) s = .next t ∧ t.get Reg.FAULT_DUMP_RESULT = code ∧ t.get Reg.FAULT_DUMP_VALID = 1 ∧ t.keep.dump = .idle ∧ t.nv = s.nv) ∧
    (∀ r ∈ [DumpResult.whole, .truncated], ∃ t, exec (.fatalDumpEnd r) s = .next t ∧ t.get Reg.FAULT_DUMP_RESULT ∈ [1, 7] ∧ t.get Reg.FAULT_DUMP_VALID = 1 ∧ t.keep.dump = .idle ∧ tget AtticState.free t.nv.attic (s.get Reg.FAULT_DUMP_SLOT) = .full ∧
      (t.get Reg.FAULT_DUMP_RESULT = 1 → bitOf (t.get (Reg.EVT 3)) 4 = true ∧ ∃ e ∈ t.keep.shelf, e.code = 6)))

/-- The queue is the model's own: a step runs the front command. With `c` at the front of the queue a step is `exec c` on the state with the queue's rest; on an empty queue the block idles for one nanosecond of the model's clock, which is the model's choice (assumption 2). -/
def Obligations.StepRunsTheFrontCommand : Prop :=
  (∀ (c : Instr) (rest : List Instr) (s : State), s.pending = c :: rest → step s = exec c { s with pending := rest }) ∧
  (∀ s : State, s.pending = [] → ∃ t, step s = .next t ∧ t.now = s.now + 1 ∧ t.pending = [] ∧ t.nv = s.nv ∧ t.keep = s.keep ∧ (s.coreClocked = false → t.ftime = s.ftime ∧ t.regs = s.regs) ∧
    (s.coreClocked = true → s.slew = 0 → t.ftime = (s.ftime + 1) % 2 ^ 64))

/-- R51, R56, R58, R366, Table KEEP-1: the state after the power-on reset. The block is in KEEP with VAUX good and every other domain off, every register field reads its reset value, no command waits, the Cellar lists nothing, and the invariants of the claims hold: every table in its canonical form, every token in balance. Where it rests on the model's own choices these are assumptions 4 and 6. -/
def Obligations.ResetLeavesKeepAndTheInvariants : Prop :=
  (∀ f : Fld, State.reset.get f = f.dflt) ∧ State.reset.get Reg.FAULT_TRAP_LO_EN = 0x8000 ∧ State.reset.get Reg.PWR_TGT_STATE = 2 ∧
  State.reset.keep.vauxGood = true ∧ State.reset.keep.mgmtOn = false ∧ State.reset.keep.domainsOn = false ∧ State.reset.keep.inTrap = false ∧ Isolated State.reset ∧
  State.reset.keep.shelf = [] ∧ State.reset.nv.mem = [] ∧ State.reset.routes = [] ∧ State.reset.pending = [] ∧ State.reset.canon = true ∧ State.reset.tokensBalance
end

