-- ==== Sys2Proof/Laws/Store.lean ====
section
/-! SUPPORT. The laws of the sparse tables: a read after a write, and that every operation keeps the canonical form. -/

namespace Sys2Proof.Machine

variable {α : Type}

theorem tget_tdel_self (d : α) (m : Table α) (k : Nat) : tget d (tdel m k) k = d := by
  induction m with
  | nil => rfl
  | cons p t ih =>
    obtain ⟨a, v⟩ := p
    by_cases h : a = k <;> simp [tdel, tget, h, ih]

theorem tget_tdel_ne (d : α) (m : Table α) {k j : Nat} (h : j ≠ k) :
    tget d (tdel m k) j = tget d m j := by
  induction m with
  | nil => rfl
  | cons p t ih =>
    obtain ⟨a, v⟩ := p
    by_cases ha : a = k
    · subst ha
      simp [tdel, tget, Ne.symm h, ih]
    · by_cases hj : a = j
      · subst hj; simp [tdel, tget, ha]
      · simp [tdel, tget, ha, hj, ih]

theorem tget_tins_self (d : α) (m : Table α) (k : Nat) (v : α) :
    tget d (tins k v (tdel m k)) k = v := by
  induction m with
  | nil => simp [tdel, tins, tget]
  | cons p t ih =>
    obtain ⟨a, w⟩ := p
    by_cases ha : a = k
    · simpa [tdel, ha] using ih
    · by_cases hl : k < a <;> simp [tdel, tins, tget, ha, hl, ih]

theorem tget_tins_ne (d : α) (m : Table α) {k j : Nat} (v : α) (h : j ≠ k) :
    tget d (tins k v m) j = tget d m j := by
  induction m with
  | nil => simp [tins, tget, Ne.symm h]
  | cons p t ih =>
    obtain ⟨a, w⟩ := p
    by_cases hl : k < a
    · simp [tins, tget, hl, Ne.symm h]
    · by_cases hj : a = j
      · subst hj; simp [tins, tget, hl]
      · simp [tins, tget, hl, hj, ih]

/-- A read after a write of the same key gives the value written. -/
@[simp] theorem tget_tset_self [DecidableEq α] (d : α) (m : Table α) (k : Nat) (v : α) :
    tget d (tset d m k v) k = v := by
  unfold tset
  split
  · next h => rw [tget_tdel_self, h]
  · exact tget_tins_self d m k v

/-- A write leaves every other key alone. -/
theorem tget_tset_ne [DecidableEq α] (d : α) (m : Table α) {k j : Nat} (v : α) (h : j ≠ k) :
    tget d (tset d m k v) j = tget d m j := by
  unfold tset
  split
  · exact tget_tdel_ne d m h
  · rw [tget_tins_ne d _ v h, tget_tdel_ne d m h]

/-- Every key of a table. -/
def Table.above (b : Nat) (m : Table α) : Prop := ∀ p ∈ m, b < p.1

theorem sorted_cons (a : Nat) (v : α) (t : Table α) :
    Table.sorted ((a, v) :: t) = true ↔ Table.above a t ∧ Table.sorted t = true := by
  induction t generalizing a v with
  | nil => simp [Table.sorted, Table.above]
  | cons p t ih =>
    obtain ⟨b, w⟩ := p
    rw [Table.sorted, Bool.and_eq_true, decide_eq_true_iff, ih]
    constructor
    · rintro ⟨hab, hb, ht⟩
      refine ⟨?_, hb, ht⟩
      intro q hq
      rcases List.mem_cons.mp hq with rfl | hq
      · exact hab
      · exact Nat.lt_trans hab (hb q hq)
    · rintro ⟨ha, hb, ht⟩
      exact ⟨ha (b, w) (List.mem_cons_self ..), hb, ht⟩

theorem above_tdel {b k : Nat} {m : Table α} (h : Table.above b m) : Table.above b (tdel m k) := by
  induction m with
  | nil => exact h
  | cons p t ih =>
    obtain ⟨a, v⟩ := p
    have ht : Table.above b t := fun q hq => h q (List.mem_cons_of_mem _ hq)
    by_cases ha : a = k
    · simpa [tdel, ha] using ih ht
    · simp only [tdel, ha, if_false]
      intro q hq
      rcases List.mem_cons.mp hq with rfl | hq
      · exact h _ (List.mem_cons_self ..)
      · exact ih ht q hq

theorem sorted_tdel {k : Nat} {m : Table α} (h : Table.sorted m = true) : Table.sorted (tdel m k) = true := by
  induction m with
  | nil => exact h
  | cons p t ih =>
    obtain ⟨a, v⟩ := p
    obtain ⟨h1, h2⟩ := (sorted_cons a v t).mp h
    by_cases ha : a = k
    · simpa [tdel, ha] using ih h2
    · simp only [tdel, ha, if_false]
      exact (sorted_cons a v _).mpr ⟨above_tdel h1, ih h2⟩

theorem not_mem_tdel (m : Table α) (k : Nat) : ∀ p ∈ tdel m k, p.1 ≠ k := by
  induction m with
  | nil => simp [tdel]
  | cons p t ih =>
    obtain ⟨a, v⟩ := p
    by_cases ha : a = k
    · simpa [tdel, ha] using ih
    · simp only [tdel, ha, if_false]
      intro q hq
      rcases List.mem_cons.mp hq with rfl | hq
      · exact ha
      · exact ih q hq

theorem mem_tins {k : Nat} {v : α} {m : Table α} {q : Nat × α} (h : q ∈ tins k v m) : q = (k, v) ∨ q ∈ m := by
  induction m with
  | nil => simpa [tins] using h
  | cons p t ih =>
    obtain ⟨a, w⟩ := p
    by_cases hl : k < a
    · simpa [tins, hl] using h
    · simp only [tins, hl, if_false, List.mem_cons] at h
      rcases h with rfl | h
      · exact .inr (List.mem_cons_self ..)
      · rcases ih h with h | h
        · exact .inl h
        · exact .inr (List.mem_cons_of_mem _ h)

theorem sorted_tins {k : Nat} {v : α} {m : Table α} (h : Table.sorted m = true) (hk : ∀ p ∈ m, p.1 ≠ k) :
    Table.sorted (tins k v m) = true := by
  induction m with
  | nil => rfl
  | cons p t ih =>
    obtain ⟨a, w⟩ := p
    obtain ⟨h1, h2⟩ := (sorted_cons a w t).mp h
    have hak : a ≠ k := hk (a, w) (List.mem_cons_self ..)
    by_cases hl : k < a
    · simp only [tins, hl, if_true]
      refine (sorted_cons k v _).mpr ⟨?_, h⟩
      intro q hq
      rcases List.mem_cons.mp hq with rfl | hq
      · exact hl
      · exact Nat.lt_trans hl (h1 q hq)
    · simp only [tins, hl, if_false]
      refine (sorted_cons a w _).mpr ⟨?_, ih h2 fun p hp => hk p (List.mem_cons_of_mem _ hp)⟩
      intro q hq
      rcases mem_tins hq with rfl | hq
      · show a < k; omega
      · exact h1 q hq

theorem mem_tdel {k : Nat} {m : Table α} {q : Nat × α} (h : q ∈ tdel m k) : q ∈ m := by
  induction m with
  | nil => exact h
  | cons p t ih =>
    obtain ⟨a, v⟩ := p
    by_cases ha : a = k
    · simp only [tdel, ha, if_true] at h
      exact List.mem_cons_of_mem _ (ih h)
    · simp only [tdel, ha, if_false, List.mem_cons] at h
      rcases h with rfl | h
      · exact List.mem_cons_self ..
      · exact List.mem_cons_of_mem _ (ih h)

/-- A write keeps the canonical form. -/
theorem wf_tset [DecidableEq α] {d : α} {m : Table α} (k : Nat) (v : α) (h : Table.wf d m = true) :
    Table.wf d (tset d m k v) = true := by
  unfold Table.wf at *
  rw [Bool.and_eq_true, List.all_eq_true] at *
  obtain ⟨hs, hd⟩ := h
  unfold tset
  split
  · exact ⟨sorted_tdel hs, fun p hp => hd p (mem_tdel hp)⟩
  · next hv =>
    refine ⟨sorted_tins (sorted_tdel hs) (not_mem_tdel m k), fun p hp => ?_⟩
    rcases mem_tins hp with rfl | hp
    · exact decide_eq_true hv
    · exact hd p (mem_tdel hp)

theorem above_tmap [DecidableEq α] {d : α} {f : Nat → α → α} {b : Nat} {m : Table α} (h : Table.above b m) :
    Table.above b (tmap d f m) := by
  induction m with
  | nil => exact h
  | cons p t ih =>
    obtain ⟨a, v⟩ := p
    have ht : Table.above b t := fun q hq => h q (List.mem_cons_of_mem _ hq)
    by_cases ha : f a v = d
    · simpa [tmap, ha] using ih ht
    · simp only [tmap, ha, if_false]
      intro q hq
      rcases List.mem_cons.mp hq with rfl | hq
      · exact h (a, v) (List.mem_cons_self ..)
      · exact ih ht q hq

/-- Changing every value keeps the canonical form. -/
theorem wf_tmap [DecidableEq α] {d : α} {m : Table α} (f : Nat → α → α) (h : Table.wf d m = true) :
    Table.wf d (tmap d f m) = true := by
  unfold Table.wf at *
  rw [Bool.and_eq_true, List.all_eq_true] at *
  obtain ⟨hs, -⟩ := h
  induction m with
  | nil => simp [tmap, Table.sorted]
  | cons p t ih =>
    obtain ⟨a, v⟩ := p
    obtain ⟨h1, h2⟩ := (sorted_cons a v t).mp hs
    by_cases ha : f a v = d
    · simpa [tmap, ha] using ih h2
    · simp only [tmap, ha, if_false]
      refine ⟨(sorted_cons a _ _).mpr ⟨above_tmap h1, (ih h2).1⟩, fun q hq => ?_⟩
      rcases List.mem_cons.mp hq with rfl | hq
      · exact decide_eq_true ha
      · exact (ih h2).2 q hq

/-- A key's value after every value is changed, where `f` keeps the value of an absent key. -/
theorem tget_tmap [DecidableEq α] {d : α} {f : Nat → α → α} (m : Table α) (k : Nat) (hd : f k d = d)
    (hs : Table.sorted m = true) : tget d (tmap d f m) k = f k (tget d m k) := by
  induction m with
  | nil => simp [tmap, tget, hd]
  | cons p t ih =>
    obtain ⟨a, v⟩ := p
    obtain ⟨h1, h2⟩ := (sorted_cons a v t).mp hs
    by_cases hk : a = k
    · subst hk
      by_cases ha : f a v = d
      · have hn : ∀ (u : Table α), Table.above a u → tget d u a = d := by
          intro u hu
          induction u with
          | nil => rfl
          | cons q u ihu =>
            obtain ⟨b, w⟩ := q
            have hb : a < b := hu (b, w) (List.mem_cons_self ..)
            have : b ≠ a := by omega
            simp only [tget, this, if_false]
            exact ihu fun q hq => hu q (List.mem_cons_of_mem _ hq)
        simp [tmap, tget, ha, hn _ (above_tmap h1)]
      · simp [tmap, tget, ha]
    · by_cases ha : f a v = d
      · simp [tmap, tget, ha, hk, ih h2]
      · simp [tmap, tget, ha, hk, ih h2]

end Sys2Proof.Machine
end

