-- ==== Sys2Proof/Laws/State.lean ====
section
/-! SUPPORT. What each plain update of the state leaves and sets, field by field; and a register field read after a write. -/

namespace Sys2Proof.Machine

/-! put. -/

@[simp] theorem State.put_regs (s : State) (f : Fld) (v : Nat) : (s.put f v).regs = tset f.dflt s.regs f.key (v % 2 ^ f.width) := rfl
@[simp] theorem State.put_keep (s : State) (f : Fld) (v : Nat) : (s.put f v).keep = s.keep := rfl
@[simp] theorem State.put_nv (s : State) (f : Fld) (v : Nat) : (s.put f v).nv = s.nv := rfl
@[simp] theorem State.put_mgmt (s : State) (f : Fld) (v : Nat) : (s.put f v).mgmt = s.mgmt := rfl
@[simp] theorem State.put_gates (s : State) (f : Fld) (v : Nat) : (s.put f v).gates = s.gates := rfl
@[simp] theorem State.put_hp (s : State) (f : Fld) (v : Nat) : (s.put f v).hp = s.hp := rfl
@[simp] theorem State.put_op (s : State) (f : Fld) (v : Nat) : (s.put f v).op = s.op := rfl
@[simp] theorem State.put_rings (s : State) (f : Fld) (v : Nat) : (s.put f v).rings = s.rings := rfl
@[simp] theorem State.put_strm (s : State) (f : Fld) (v : Nat) : (s.put f v).strm = s.strm := rfl
@[simp] theorem State.put_routes (s : State) (f : Fld) (v : Nat) : (s.put f v).routes = s.routes := rfl
@[simp] theorem State.put_qos (s : State) (f : Fld) (v : Nat) : (s.put f v).qos = s.qos := rfl
@[simp] theorem State.put_te (s : State) (f : Fld) (v : Nat) : (s.put f v).te = s.te := rfl
@[simp] theorem State.put_twin (s : State) (f : Fld) (v : Nat) : (s.put f v).twin = s.twin := rfl
@[simp] theorem State.put_hostPower (s : State) (f : Fld) (v : Nat) : (s.put f v).hostPower = s.hostPower := rfl
@[simp] theorem State.put_ftime (s : State) (f : Fld) (v : Nat) : (s.put f v).ftime = s.ftime := rfl
@[simp] theorem State.put_slew (s : State) (f : Fld) (v : Nat) : (s.put f v).slew = s.slew := rfl
@[simp] theorem State.put_now (s : State) (f : Fld) (v : Nat) : (s.put f v).now = s.now := rfl
@[simp] theorem State.put_fresh (s : State) (f : Fld) (v : Nat) : (s.put f v).fresh = s.fresh := rfl
@[simp] theorem State.put_sent (s : State) (f : Fld) (v : Nat) : (s.put f v).sent = s.sent := rfl
@[simp] theorem State.put_pending (s : State) (f : Fld) (v : Nat) : (s.put f v).pending = s.pending := rfl

/-! onKeep. -/

@[simp] theorem State.onKeep_regs (s : State) (f : Keep → Keep) : (s.onKeep f).regs = s.regs := rfl
@[simp] theorem State.onKeep_keep (s : State) (f : Keep → Keep) : (s.onKeep f).keep = f s.keep := rfl
@[simp] theorem State.onKeep_nv (s : State) (f : Keep → Keep) : (s.onKeep f).nv = s.nv := rfl
@[simp] theorem State.onKeep_mgmt (s : State) (f : Keep → Keep) : (s.onKeep f).mgmt = s.mgmt := rfl
@[simp] theorem State.onKeep_gates (s : State) (f : Keep → Keep) : (s.onKeep f).gates = s.gates := rfl
@[simp] theorem State.onKeep_hp (s : State) (f : Keep → Keep) : (s.onKeep f).hp = s.hp := rfl
@[simp] theorem State.onKeep_op (s : State) (f : Keep → Keep) : (s.onKeep f).op = s.op := rfl
@[simp] theorem State.onKeep_rings (s : State) (f : Keep → Keep) : (s.onKeep f).rings = s.rings := rfl
@[simp] theorem State.onKeep_strm (s : State) (f : Keep → Keep) : (s.onKeep f).strm = s.strm := rfl
@[simp] theorem State.onKeep_routes (s : State) (f : Keep → Keep) : (s.onKeep f).routes = s.routes := rfl
@[simp] theorem State.onKeep_qos (s : State) (f : Keep → Keep) : (s.onKeep f).qos = s.qos := rfl
@[simp] theorem State.onKeep_te (s : State) (f : Keep → Keep) : (s.onKeep f).te = s.te := rfl
@[simp] theorem State.onKeep_twin (s : State) (f : Keep → Keep) : (s.onKeep f).twin = s.twin := rfl
@[simp] theorem State.onKeep_hostPower (s : State) (f : Keep → Keep) : (s.onKeep f).hostPower = s.hostPower := rfl
@[simp] theorem State.onKeep_ftime (s : State) (f : Keep → Keep) : (s.onKeep f).ftime = s.ftime := rfl
@[simp] theorem State.onKeep_slew (s : State) (f : Keep → Keep) : (s.onKeep f).slew = s.slew := rfl
@[simp] theorem State.onKeep_now (s : State) (f : Keep → Keep) : (s.onKeep f).now = s.now := rfl
@[simp] theorem State.onKeep_fresh (s : State) (f : Keep → Keep) : (s.onKeep f).fresh = s.fresh := rfl
@[simp] theorem State.onKeep_sent (s : State) (f : Keep → Keep) : (s.onKeep f).sent = s.sent := rfl
@[simp] theorem State.onKeep_pending (s : State) (f : Keep → Keep) : (s.onKeep f).pending = s.pending := rfl

/-! onNv. -/

@[simp] theorem State.onNv_regs (s : State) (f : Nv → Nv) : (s.onNv f).regs = s.regs := rfl
@[simp] theorem State.onNv_keep (s : State) (f : Nv → Nv) : (s.onNv f).keep = s.keep := rfl
@[simp] theorem State.onNv_nv (s : State) (f : Nv → Nv) : (s.onNv f).nv = f s.nv := rfl
@[simp] theorem State.onNv_mgmt (s : State) (f : Nv → Nv) : (s.onNv f).mgmt = s.mgmt := rfl
@[simp] theorem State.onNv_gates (s : State) (f : Nv → Nv) : (s.onNv f).gates = s.gates := rfl
@[simp] theorem State.onNv_hp (s : State) (f : Nv → Nv) : (s.onNv f).hp = s.hp := rfl
@[simp] theorem State.onNv_op (s : State) (f : Nv → Nv) : (s.onNv f).op = s.op := rfl
@[simp] theorem State.onNv_rings (s : State) (f : Nv → Nv) : (s.onNv f).rings = s.rings := rfl
@[simp] theorem State.onNv_strm (s : State) (f : Nv → Nv) : (s.onNv f).strm = s.strm := rfl
@[simp] theorem State.onNv_routes (s : State) (f : Nv → Nv) : (s.onNv f).routes = s.routes := rfl
@[simp] theorem State.onNv_qos (s : State) (f : Nv → Nv) : (s.onNv f).qos = s.qos := rfl
@[simp] theorem State.onNv_te (s : State) (f : Nv → Nv) : (s.onNv f).te = s.te := rfl
@[simp] theorem State.onNv_twin (s : State) (f : Nv → Nv) : (s.onNv f).twin = s.twin := rfl
@[simp] theorem State.onNv_hostPower (s : State) (f : Nv → Nv) : (s.onNv f).hostPower = s.hostPower := rfl
@[simp] theorem State.onNv_ftime (s : State) (f : Nv → Nv) : (s.onNv f).ftime = s.ftime := rfl
@[simp] theorem State.onNv_slew (s : State) (f : Nv → Nv) : (s.onNv f).slew = s.slew := rfl
@[simp] theorem State.onNv_now (s : State) (f : Nv → Nv) : (s.onNv f).now = s.now := rfl
@[simp] theorem State.onNv_fresh (s : State) (f : Nv → Nv) : (s.onNv f).fresh = s.fresh := rfl
@[simp] theorem State.onNv_sent (s : State) (f : Nv → Nv) : (s.onNv f).sent = s.sent := rfl
@[simp] theorem State.onNv_pending (s : State) (f : Nv → Nv) : (s.onNv f).pending = s.pending := rfl

/-! onMgmt. -/

@[simp] theorem State.onMgmt_regs (s : State) (f : Mgmt → Mgmt) : (s.onMgmt f).regs = s.regs := rfl
@[simp] theorem State.onMgmt_keep (s : State) (f : Mgmt → Mgmt) : (s.onMgmt f).keep = s.keep := rfl
@[simp] theorem State.onMgmt_nv (s : State) (f : Mgmt → Mgmt) : (s.onMgmt f).nv = s.nv := rfl
@[simp] theorem State.onMgmt_mgmt (s : State) (f : Mgmt → Mgmt) : (s.onMgmt f).mgmt = f s.mgmt := rfl
@[simp] theorem State.onMgmt_gates (s : State) (f : Mgmt → Mgmt) : (s.onMgmt f).gates = s.gates := rfl
@[simp] theorem State.onMgmt_hp (s : State) (f : Mgmt → Mgmt) : (s.onMgmt f).hp = s.hp := rfl
@[simp] theorem State.onMgmt_op (s : State) (f : Mgmt → Mgmt) : (s.onMgmt f).op = s.op := rfl
@[simp] theorem State.onMgmt_rings (s : State) (f : Mgmt → Mgmt) : (s.onMgmt f).rings = s.rings := rfl
@[simp] theorem State.onMgmt_strm (s : State) (f : Mgmt → Mgmt) : (s.onMgmt f).strm = s.strm := rfl
@[simp] theorem State.onMgmt_routes (s : State) (f : Mgmt → Mgmt) : (s.onMgmt f).routes = s.routes := rfl
@[simp] theorem State.onMgmt_qos (s : State) (f : Mgmt → Mgmt) : (s.onMgmt f).qos = s.qos := rfl
@[simp] theorem State.onMgmt_te (s : State) (f : Mgmt → Mgmt) : (s.onMgmt f).te = s.te := rfl
@[simp] theorem State.onMgmt_twin (s : State) (f : Mgmt → Mgmt) : (s.onMgmt f).twin = s.twin := rfl
@[simp] theorem State.onMgmt_hostPower (s : State) (f : Mgmt → Mgmt) : (s.onMgmt f).hostPower = s.hostPower := rfl
@[simp] theorem State.onMgmt_ftime (s : State) (f : Mgmt → Mgmt) : (s.onMgmt f).ftime = s.ftime := rfl
@[simp] theorem State.onMgmt_slew (s : State) (f : Mgmt → Mgmt) : (s.onMgmt f).slew = s.slew := rfl
@[simp] theorem State.onMgmt_now (s : State) (f : Mgmt → Mgmt) : (s.onMgmt f).now = s.now := rfl
@[simp] theorem State.onMgmt_fresh (s : State) (f : Mgmt → Mgmt) : (s.onMgmt f).fresh = s.fresh := rfl
@[simp] theorem State.onMgmt_sent (s : State) (f : Mgmt → Mgmt) : (s.onMgmt f).sent = s.sent := rfl
@[simp] theorem State.onMgmt_pending (s : State) (f : Mgmt → Mgmt) : (s.onMgmt f).pending = s.pending := rfl

/-! onStrm. -/

@[simp] theorem State.onStrm_regs (s : State) (f : Strm → Strm) : (s.onStrm f).regs = s.regs := rfl
@[simp] theorem State.onStrm_keep (s : State) (f : Strm → Strm) : (s.onStrm f).keep = s.keep := rfl
@[simp] theorem State.onStrm_nv (s : State) (f : Strm → Strm) : (s.onStrm f).nv = s.nv := rfl
@[simp] theorem State.onStrm_mgmt (s : State) (f : Strm → Strm) : (s.onStrm f).mgmt = s.mgmt := rfl
@[simp] theorem State.onStrm_gates (s : State) (f : Strm → Strm) : (s.onStrm f).gates = s.gates := rfl
@[simp] theorem State.onStrm_hp (s : State) (f : Strm → Strm) : (s.onStrm f).hp = s.hp := rfl
@[simp] theorem State.onStrm_op (s : State) (f : Strm → Strm) : (s.onStrm f).op = s.op := rfl
@[simp] theorem State.onStrm_rings (s : State) (f : Strm → Strm) : (s.onStrm f).rings = s.rings := rfl
@[simp] theorem State.onStrm_strm (s : State) (f : Strm → Strm) : (s.onStrm f).strm = f s.strm := rfl
@[simp] theorem State.onStrm_routes (s : State) (f : Strm → Strm) : (s.onStrm f).routes = s.routes := rfl
@[simp] theorem State.onStrm_qos (s : State) (f : Strm → Strm) : (s.onStrm f).qos = s.qos := rfl
@[simp] theorem State.onStrm_te (s : State) (f : Strm → Strm) : (s.onStrm f).te = s.te := rfl
@[simp] theorem State.onStrm_twin (s : State) (f : Strm → Strm) : (s.onStrm f).twin = s.twin := rfl
@[simp] theorem State.onStrm_hostPower (s : State) (f : Strm → Strm) : (s.onStrm f).hostPower = s.hostPower := rfl
@[simp] theorem State.onStrm_ftime (s : State) (f : Strm → Strm) : (s.onStrm f).ftime = s.ftime := rfl
@[simp] theorem State.onStrm_slew (s : State) (f : Strm → Strm) : (s.onStrm f).slew = s.slew := rfl
@[simp] theorem State.onStrm_now (s : State) (f : Strm → Strm) : (s.onStrm f).now = s.now := rfl
@[simp] theorem State.onStrm_fresh (s : State) (f : Strm → Strm) : (s.onStrm f).fresh = s.fresh := rfl
@[simp] theorem State.onStrm_sent (s : State) (f : Strm → Strm) : (s.onStrm f).sent = s.sent := rfl
@[simp] theorem State.onStrm_pending (s : State) (f : Strm → Strm) : (s.onStrm f).pending = s.pending := rfl

/-! onTe. -/

@[simp] theorem State.onTe_regs (s : State) (f : Te → Te) : (s.onTe f).regs = s.regs := rfl
@[simp] theorem State.onTe_keep (s : State) (f : Te → Te) : (s.onTe f).keep = s.keep := rfl
@[simp] theorem State.onTe_nv (s : State) (f : Te → Te) : (s.onTe f).nv = s.nv := rfl
@[simp] theorem State.onTe_mgmt (s : State) (f : Te → Te) : (s.onTe f).mgmt = s.mgmt := rfl
@[simp] theorem State.onTe_gates (s : State) (f : Te → Te) : (s.onTe f).gates = s.gates := rfl
@[simp] theorem State.onTe_hp (s : State) (f : Te → Te) : (s.onTe f).hp = s.hp := rfl
@[simp] theorem State.onTe_op (s : State) (f : Te → Te) : (s.onTe f).op = s.op := rfl
@[simp] theorem State.onTe_rings (s : State) (f : Te → Te) : (s.onTe f).rings = s.rings := rfl
@[simp] theorem State.onTe_strm (s : State) (f : Te → Te) : (s.onTe f).strm = s.strm := rfl
@[simp] theorem State.onTe_routes (s : State) (f : Te → Te) : (s.onTe f).routes = s.routes := rfl
@[simp] theorem State.onTe_qos (s : State) (f : Te → Te) : (s.onTe f).qos = s.qos := rfl
@[simp] theorem State.onTe_te (s : State) (f : Te → Te) : (s.onTe f).te = f s.te := rfl
@[simp] theorem State.onTe_twin (s : State) (f : Te → Te) : (s.onTe f).twin = s.twin := rfl
@[simp] theorem State.onTe_hostPower (s : State) (f : Te → Te) : (s.onTe f).hostPower = s.hostPower := rfl
@[simp] theorem State.onTe_ftime (s : State) (f : Te → Te) : (s.onTe f).ftime = s.ftime := rfl
@[simp] theorem State.onTe_slew (s : State) (f : Te → Te) : (s.onTe f).slew = s.slew := rfl
@[simp] theorem State.onTe_now (s : State) (f : Te → Te) : (s.onTe f).now = s.now := rfl
@[simp] theorem State.onTe_fresh (s : State) (f : Te → Te) : (s.onTe f).fresh = s.fresh := rfl
@[simp] theorem State.onTe_sent (s : State) (f : Te → Te) : (s.onTe f).sent = s.sent := rfl
@[simp] theorem State.onTe_pending (s : State) (f : Te → Te) : (s.onTe f).pending = s.pending := rfl

/-! onTwin. -/

@[simp] theorem State.onTwin_regs (s : State) (f : Twin → Twin) : (s.onTwin f).regs = s.regs := rfl
@[simp] theorem State.onTwin_keep (s : State) (f : Twin → Twin) : (s.onTwin f).keep = s.keep := rfl
@[simp] theorem State.onTwin_nv (s : State) (f : Twin → Twin) : (s.onTwin f).nv = s.nv := rfl
@[simp] theorem State.onTwin_mgmt (s : State) (f : Twin → Twin) : (s.onTwin f).mgmt = s.mgmt := rfl
@[simp] theorem State.onTwin_gates (s : State) (f : Twin → Twin) : (s.onTwin f).gates = s.gates := rfl
@[simp] theorem State.onTwin_hp (s : State) (f : Twin → Twin) : (s.onTwin f).hp = s.hp := rfl
@[simp] theorem State.onTwin_op (s : State) (f : Twin → Twin) : (s.onTwin f).op = s.op := rfl
@[simp] theorem State.onTwin_rings (s : State) (f : Twin → Twin) : (s.onTwin f).rings = s.rings := rfl
@[simp] theorem State.onTwin_strm (s : State) (f : Twin → Twin) : (s.onTwin f).strm = s.strm := rfl
@[simp] theorem State.onTwin_routes (s : State) (f : Twin → Twin) : (s.onTwin f).routes = s.routes := rfl
@[simp] theorem State.onTwin_qos (s : State) (f : Twin → Twin) : (s.onTwin f).qos = s.qos := rfl
@[simp] theorem State.onTwin_te (s : State) (f : Twin → Twin) : (s.onTwin f).te = s.te := rfl
@[simp] theorem State.onTwin_twin (s : State) (f : Twin → Twin) : (s.onTwin f).twin = f s.twin := rfl
@[simp] theorem State.onTwin_hostPower (s : State) (f : Twin → Twin) : (s.onTwin f).hostPower = s.hostPower := rfl
@[simp] theorem State.onTwin_ftime (s : State) (f : Twin → Twin) : (s.onTwin f).ftime = s.ftime := rfl
@[simp] theorem State.onTwin_slew (s : State) (f : Twin → Twin) : (s.onTwin f).slew = s.slew := rfl
@[simp] theorem State.onTwin_now (s : State) (f : Twin → Twin) : (s.onTwin f).now = s.now := rfl
@[simp] theorem State.onTwin_fresh (s : State) (f : Twin → Twin) : (s.onTwin f).fresh = s.fresh := rfl
@[simp] theorem State.onTwin_sent (s : State) (f : Twin → Twin) : (s.onTwin f).sent = s.sent := rfl
@[simp] theorem State.onTwin_pending (s : State) (f : Twin → Twin) : (s.onTwin f).pending = s.pending := rfl

/-! onHp. -/

@[simp] theorem State.onHp_regs (s : State) (n : Nat) (f : Hp → Hp) : (s.onHp n f).regs = s.regs := rfl
@[simp] theorem State.onHp_keep (s : State) (n : Nat) (f : Hp → Hp) : (s.onHp n f).keep = s.keep := rfl
@[simp] theorem State.onHp_nv (s : State) (n : Nat) (f : Hp → Hp) : (s.onHp n f).nv = s.nv := rfl
@[simp] theorem State.onHp_mgmt (s : State) (n : Nat) (f : Hp → Hp) : (s.onHp n f).mgmt = s.mgmt := rfl
@[simp] theorem State.onHp_gates (s : State) (n : Nat) (f : Hp → Hp) : (s.onHp n f).gates = s.gates := rfl
@[simp] theorem State.onHp_hp (s : State) (n : Nat) (f : Hp → Hp) : (s.onHp n f).hp = tset {} s.hp n (f (s.hpAt n)) := rfl
@[simp] theorem State.onHp_op (s : State) (n : Nat) (f : Hp → Hp) : (s.onHp n f).op = s.op := rfl
@[simp] theorem State.onHp_rings (s : State) (n : Nat) (f : Hp → Hp) : (s.onHp n f).rings = s.rings := rfl
@[simp] theorem State.onHp_strm (s : State) (n : Nat) (f : Hp → Hp) : (s.onHp n f).strm = s.strm := rfl
@[simp] theorem State.onHp_routes (s : State) (n : Nat) (f : Hp → Hp) : (s.onHp n f).routes = s.routes := rfl
@[simp] theorem State.onHp_qos (s : State) (n : Nat) (f : Hp → Hp) : (s.onHp n f).qos = s.qos := rfl
@[simp] theorem State.onHp_te (s : State) (n : Nat) (f : Hp → Hp) : (s.onHp n f).te = s.te := rfl
@[simp] theorem State.onHp_twin (s : State) (n : Nat) (f : Hp → Hp) : (s.onHp n f).twin = s.twin := rfl
@[simp] theorem State.onHp_hostPower (s : State) (n : Nat) (f : Hp → Hp) : (s.onHp n f).hostPower = s.hostPower := rfl
@[simp] theorem State.onHp_ftime (s : State) (n : Nat) (f : Hp → Hp) : (s.onHp n f).ftime = s.ftime := rfl
@[simp] theorem State.onHp_slew (s : State) (n : Nat) (f : Hp → Hp) : (s.onHp n f).slew = s.slew := rfl
@[simp] theorem State.onHp_now (s : State) (n : Nat) (f : Hp → Hp) : (s.onHp n f).now = s.now := rfl
@[simp] theorem State.onHp_fresh (s : State) (n : Nat) (f : Hp → Hp) : (s.onHp n f).fresh = s.fresh := rfl
@[simp] theorem State.onHp_sent (s : State) (n : Nat) (f : Hp → Hp) : (s.onHp n f).sent = s.sent := rfl
@[simp] theorem State.onHp_pending (s : State) (n : Nat) (f : Hp → Hp) : (s.onHp n f).pending = s.pending := rfl

/-! onOp. -/

@[simp] theorem State.onOp_regs (s : State) (n : Nat) (f : Op → Op) : (s.onOp n f).regs = s.regs := rfl
@[simp] theorem State.onOp_keep (s : State) (n : Nat) (f : Op → Op) : (s.onOp n f).keep = s.keep := rfl
@[simp] theorem State.onOp_nv (s : State) (n : Nat) (f : Op → Op) : (s.onOp n f).nv = s.nv := rfl
@[simp] theorem State.onOp_mgmt (s : State) (n : Nat) (f : Op → Op) : (s.onOp n f).mgmt = s.mgmt := rfl
@[simp] theorem State.onOp_gates (s : State) (n : Nat) (f : Op → Op) : (s.onOp n f).gates = s.gates := rfl
@[simp] theorem State.onOp_hp (s : State) (n : Nat) (f : Op → Op) : (s.onOp n f).hp = s.hp := rfl
@[simp] theorem State.onOp_op (s : State) (n : Nat) (f : Op → Op) : (s.onOp n f).op = tset {} s.op n (f (s.opAt n)) := rfl
@[simp] theorem State.onOp_rings (s : State) (n : Nat) (f : Op → Op) : (s.onOp n f).rings = s.rings := rfl
@[simp] theorem State.onOp_strm (s : State) (n : Nat) (f : Op → Op) : (s.onOp n f).strm = s.strm := rfl
@[simp] theorem State.onOp_routes (s : State) (n : Nat) (f : Op → Op) : (s.onOp n f).routes = s.routes := rfl
@[simp] theorem State.onOp_qos (s : State) (n : Nat) (f : Op → Op) : (s.onOp n f).qos = s.qos := rfl
@[simp] theorem State.onOp_te (s : State) (n : Nat) (f : Op → Op) : (s.onOp n f).te = s.te := rfl
@[simp] theorem State.onOp_twin (s : State) (n : Nat) (f : Op → Op) : (s.onOp n f).twin = s.twin := rfl
@[simp] theorem State.onOp_hostPower (s : State) (n : Nat) (f : Op → Op) : (s.onOp n f).hostPower = s.hostPower := rfl
@[simp] theorem State.onOp_ftime (s : State) (n : Nat) (f : Op → Op) : (s.onOp n f).ftime = s.ftime := rfl
@[simp] theorem State.onOp_slew (s : State) (n : Nat) (f : Op → Op) : (s.onOp n f).slew = s.slew := rfl
@[simp] theorem State.onOp_now (s : State) (n : Nat) (f : Op → Op) : (s.onOp n f).now = s.now := rfl
@[simp] theorem State.onOp_fresh (s : State) (n : Nat) (f : Op → Op) : (s.onOp n f).fresh = s.fresh := rfl
@[simp] theorem State.onOp_sent (s : State) (n : Nat) (f : Op → Op) : (s.onOp n f).sent = s.sent := rfl
@[simp] theorem State.onOp_pending (s : State) (n : Nat) (f : Op → Op) : (s.onOp n f).pending = s.pending := rfl

/-! emit. -/

@[simp] theorem State.emit_regs (s : State) (o : Out) : (s.emit o).regs = s.regs := rfl
@[simp] theorem State.emit_keep (s : State) (o : Out) : (s.emit o).keep = s.keep := rfl
@[simp] theorem State.emit_nv (s : State) (o : Out) : (s.emit o).nv = s.nv := rfl
@[simp] theorem State.emit_mgmt (s : State) (o : Out) : (s.emit o).mgmt = s.mgmt := rfl
@[simp] theorem State.emit_gates (s : State) (o : Out) : (s.emit o).gates = s.gates := rfl
@[simp] theorem State.emit_hp (s : State) (o : Out) : (s.emit o).hp = s.hp := rfl
@[simp] theorem State.emit_op (s : State) (o : Out) : (s.emit o).op = s.op := rfl
@[simp] theorem State.emit_rings (s : State) (o : Out) : (s.emit o).rings = s.rings := rfl
@[simp] theorem State.emit_strm (s : State) (o : Out) : (s.emit o).strm = s.strm := rfl
@[simp] theorem State.emit_routes (s : State) (o : Out) : (s.emit o).routes = s.routes := rfl
@[simp] theorem State.emit_qos (s : State) (o : Out) : (s.emit o).qos = s.qos := rfl
@[simp] theorem State.emit_te (s : State) (o : Out) : (s.emit o).te = s.te := rfl
@[simp] theorem State.emit_twin (s : State) (o : Out) : (s.emit o).twin = s.twin := rfl
@[simp] theorem State.emit_hostPower (s : State) (o : Out) : (s.emit o).hostPower = s.hostPower := rfl
@[simp] theorem State.emit_ftime (s : State) (o : Out) : (s.emit o).ftime = s.ftime := rfl
@[simp] theorem State.emit_slew (s : State) (o : Out) : (s.emit o).slew = s.slew := rfl
@[simp] theorem State.emit_now (s : State) (o : Out) : (s.emit o).now = s.now := rfl
@[simp] theorem State.emit_fresh (s : State) (o : Out) : (s.emit o).fresh = s.fresh := rfl
@[simp] theorem State.emit_sent (s : State) (o : Out) : (s.emit o).sent = o :: s.sent := rfl
@[simp] theorem State.emit_pending (s : State) (o : Out) : (s.emit o).pending = s.pending := rfl

/-! Registers. -/

/-- A field read back after a write holds the value, cut to its width. -/
@[simp] theorem State.get_put_self (s : State) (f : Fld) (v : Nat) : (s.put f v).get f = v % 2 ^ f.width := by
  simp [State.get]

/-- A write leaves every field at another place alone. -/
theorem State.get_put_ne (s : State) {f g : Fld} (v : Nat) (h : g.key ≠ f.key) : (s.put f v).get g = s.get g := by
  simp only [State.get, State.put_regs, tset]
  split
  · exact tget_tdel_ne _ _ h
  · rw [tget_tins_ne _ _ _ h, tget_tdel_ne _ _ h]

/-- Updates of the other parts leave every register field alone. -/
@[simp] theorem State.get_onKeep (s : State) (f : Keep → Keep) (g : Fld) : (s.onKeep f).get g = s.get g := rfl
@[simp] theorem State.get_onNv (s : State) (f : Nv → Nv) (g : Fld) : (s.onNv f).get g = s.get g := rfl
@[simp] theorem State.get_onMgmt (s : State) (f : Mgmt → Mgmt) (g : Fld) : (s.onMgmt f).get g = s.get g := rfl
@[simp] theorem State.get_onStrm (s : State) (f : Strm → Strm) (g : Fld) : (s.onStrm f).get g = s.get g := rfl
@[simp] theorem State.get_onTe (s : State) (f : Te → Te) (g : Fld) : (s.onTe f).get g = s.get g := rfl
@[simp] theorem State.get_onTwin (s : State) (f : Twin → Twin) (g : Fld) : (s.onTwin f).get g = s.get g := rfl
@[simp] theorem State.get_onHp (s : State) (n : Nat) (f : Hp → Hp) (g : Fld) : (s.onHp n f).get g = s.get g := rfl
@[simp] theorem State.get_onOp (s : State) (n : Nat) (f : Op → Op) (g : Fld) : (s.onOp n f).get g = s.get g := rfl
@[simp] theorem State.get_emit (s : State) (o : Out) (g : Fld) : (s.emit o).get g = s.get g := rfl

/-- A module, and a port, read after an update of it or of another. -/
@[simp] theorem State.hpAt_onHp_self (s : State) (n : Nat) (f : Hp → Hp) : (s.onHp n f).hpAt n = f (s.hpAt n) := by
  simp [State.hpAt]
theorem State.hpAt_onHp_ne (s : State) {n m : Nat} (f : Hp → Hp) (h : m ≠ n) : (s.onHp n f).hpAt m = s.hpAt m := by
  simp [State.hpAt, tget_tset_ne _ _ _ h]
@[simp] theorem State.opAt_onOp_self (s : State) (n : Nat) (f : Op → Op) : (s.onOp n f).opAt n = f (s.opAt n) := by
  simp [State.opAt]
theorem State.opAt_onOp_ne (s : State) {n m : Nat} (f : Op → Op) (h : m ≠ n) : (s.onOp n f).opAt m = s.opAt m := by
  simp [State.opAt, tget_tset_ne _ _ _ h]

/-- The register store stays sorted under a write. -/
theorem State.sorted_put {s : State} (f : Fld) (v : Nat) (h : Table.sorted s.regs = true) : Table.sorted (s.put f v).regs = true := by
  simp only [State.put_regs, tset]
  split
  · exact sorted_tdel h
  · exact sorted_tins (sorted_tdel h) (not_mem_tdel _ _)

/-- The tables of modules and ports keep their canonical form under an update. -/
theorem State.wf_onHp {s : State} (n : Nat) (f : Hp → Hp) (h : Table.wf {} s.hp = true) : Table.wf {} (s.onHp n f).hp = true :=
  wf_tset n _ h
theorem State.wf_onOp {s : State} (n : Nat) (f : Op → Op) (h : Table.wf {} s.op = true) : Table.wf {} (s.onOp n f).op = true :=
  wf_tset n _ h

end Sys2Proof.Machine
end

