-- ==== Sys2Proof/Laws/Ops.lean ====
section
/-! SUPPORT. What the shared operations can do: an event touches its page's EVT and what is sent; errors, the Trapdoor and the mailbox's end leave the modules, rings, streams, routes, tokens, clocks and the queue alone. -/

namespace Sys2Proof.Machine

/-- The parts of the state that no event, error, Trapdoor entry or mailbox end touches. -/
def Calm (s t : State) : Prop :=
  t.hp = s.hp ∧ t.rings = s.rings ∧ t.strm = s.strm ∧ t.routes = s.routes ∧ t.qos = s.qos ∧ t.hostPower = s.hostPower ∧
    t.ftime = s.ftime ∧ t.slew = s.slew ∧ t.now = s.now ∧ t.pending = s.pending

theorem Calm.rfl {s : State} : Calm s s := by simp [Calm]

theorem Calm.trans {s t u : State} (h : Calm s t) (k : Calm t u) : Calm s u := by
  obtain ⟨a, b, c, d, e, f, g, i, j, l⟩ := h
  obtain ⟨a', b', c', d', e', f', g', i', j', l'⟩ := k
  exact ⟨a'.trans a, b'.trans b, c'.trans c, d'.trans d, e'.trans e, f'.trans f, g'.trans g, i'.trans i, j'.trans j, l'.trans l⟩

theorem Calm.put {s t : State} (h : Calm s t) (f : Fld) (v : Nat) : Calm s (t.put f v) := h
theorem Calm.putB {s t : State} (h : Calm s t) (f : Fld) (b : Bool) : Calm s (t.putB f b) := h
theorem Calm.bump {s t : State} (h : Calm s t) (f : Fld) (n : Nat) : Calm s (t.bump f n) := h
theorem Calm.onKeep {s t : State} (h : Calm s t) (f : Keep → Keep) : Calm s (t.onKeep f) := h
theorem Calm.onNv {s t : State} (h : Calm s t) (f : Nv → Nv) : Calm s (t.onNv f) := h
theorem Calm.onMgmt {s t : State} (h : Calm s t) (f : Mgmt → Mgmt) : Calm s (t.onMgmt f) := h
theorem Calm.onTe {s t : State} (h : Calm s t) (f : Te → Te) : Calm s (t.onTe f) := h
theorem Calm.onTwin {s t : State} (h : Calm s t) (f : Twin → Twin) : Calm s (t.onTwin f) := h
theorem Calm.onOp {s t : State} (h : Calm s t) (n : Nat) (f : Op → Op) : Calm s (t.onOp n f) := h
theorem Calm.emit {s t : State} (h : Calm s t) (o : Out) : Calm s (t.emit o) := h

theorem Calm.cond {s t : State} (h : Calm s t) (c : Bool) {f : State → State} (hf : ∀ u, Calm s u → Calm s (f u)) : Calm s (t.cond c f) := by
  unfold State.cond
  split
  · exact hf t h
  · exact h

theorem Calm.forAll {α : Type} {s t : State} (h : Calm s t) (l : List α) {f : α → State → State}
    (hf : ∀ a u, Calm s u → Calm s (f a u)) : Calm s (t.forAll l f) := by
  induction l generalizing t with
  | nil => exact h
  | cons a l ih => exact ih (hf a t h)

/-- A rise of an interrupt line sends at most its message. -/
theorem irqRise_eq (s : State) (p : Nat) (b : Bool) : s.irqRise p b = s ∨ s.irqRise p b = s.emit (.sbMsg 0 0x20 p) := by
  unfold State.irqRise
  split
  · exact .inr rfl
  · exact .inl rfl

/-- An event of a page without power is lost; of another it sets its EVT bit and sends at most the interrupt's message (R96). -/
theorem raiseEvt_eq (s : State) (p b : Nat) :
    s.pageLive p = false ∧ s.raiseEvt p b = s ∨
    s.pageLive p = true ∧ (s.raiseEvt p b = s.put (Reg.EVT p) (setBitOf (s.get (Reg.EVT p)) b) ∨
      s.raiseEvt p b = (s.put (Reg.EVT p) (setBitOf (s.get (Reg.EVT p)) b)).emit (.sbMsg 0 0x20 p)) := by
  unfold State.raiseEvt
  split
  · exact .inr ⟨‹_›, irqRise_eq _ _ _⟩
  · exact .inl ⟨Bool.eq_false_iff.mpr ‹_›, rfl⟩

/-- An event leaves every other register field alone. -/
theorem get_raiseEvt_ne (s : State) (p b : Nat) {f : Fld} (h : f.key ≠ (Reg.EVT p).key) : (s.raiseEvt p b).get f = s.get f := by
  obtain ⟨-, e⟩ | ⟨-, e | e⟩ := raiseEvt_eq s p b <;> rw [e]
  · exact State.get_put_ne s _ h
  · exact State.get_put_ne s _ h

theorem Calm.raiseEvt {s t : State} (h : Calm s t) (p b : Nat) : Calm s (t.raiseEvt p b) := by
  obtain ⟨-, e⟩ | ⟨-, e | e⟩ := raiseEvt_eq t p b <;> rw [e] <;> exact h

theorem Calm.shelve {s t : State} (h : Calm s t) (c b e p : Nat) : Calm s (t.shelve c b e p) := h
theorem Calm.capture {s t : State} (h : Calm s t) (b e p : Nat) (c : Capture) : Calm s (t.capture b e p c) := h

theorem Calm.sumSet {s t : State} (h : Calm s t) (b : Nat) : Calm s (t.sumSet b) := by
  unfold State.sumSet
  split <;> exact h

/-- A mailbox command's end. -/
theorem Calm.mboxFinish {s t : State} (h : Calm s t) (c : Nat) (r : List Nat) : Calm s (t.mboxFinish c r) := by
  unfold State.mboxFinish
  split
  · exact h
  · exact Calm.raiseEvt (by exact h) 14 0

theorem Calm.mboxEnd {s t : State} (h : Calm s t) (o c : Nat) (r : List Nat) : Calm s (t.mboxEnd o c r) := by
  unfold State.mboxEnd
  split
  · split
    · exact h.mboxFinish c r
    · exact h
  · exact h

/-- The end of a load without release (R131). -/
theorem Calm.loadHalt {s t : State} (h : Calm s t) (c : Nat) (r : Option (Nat × Nat)) : Calm s (t.loadHalt c r) := by
  unfold State.loadHalt
  split
  · exact h
  · refine Calm.raiseEvt ?_ 5 1
    cases r <;> exact h

theorem Calm.mboxDrop {s t : State} (h : Calm s t) : Calm s t.mboxDrop := by
  unfold State.mboxDrop
  split
  · exact h
  · split
    · exact h.loadHalt _ _
    · split
      · exact Calm.forAll (by exact h) _ fun _ _ k => k.put _ _
      · split
        · exact h
        · split
          · exact h
          · split
            · split <;> exact h
            · exact h

theorem Calm.mboxAbandon {s t : State} (h : Calm s t) : Calm s t.mboxAbandon := by
  unfold State.mboxAbandon
  split
  · exact h
  · exact h.mboxDrop.mboxFinish _ _

theorem Calm.sendDown {s t : State} (h : Calm s t) (r : Nat) : Calm s (t.sendDown r) :=
  Calm.forAll h _ fun _ _ k => ((k.cond _ fun _ j => j.emit _).put _ _).emit _

theorem Calm.sendTwinDown {s t : State} (h : Calm s t) (r : Nat) : Calm s (t.sendTwinDown r) := by
  unfold State.sendTwinDown
  split <;> exact h

theorem Calm.closeGates {s t : State} (h : Calm s t) (r : Nat) : Calm s (t.closeGates r) :=
  (Calm.sendDown (t := { t with gates := false }) h r).sendTwinDown r

/-- Closing the gates closes them (R85). -/
theorem gates_closeGates (s : State) (r : Nat) : (s.closeGates r).gates = false := by
  have k : ∀ (l : List Nat) (f : Nat → State → State), (∀ n t, (f n t).gates = t.gates) → ∀ t : State, t.gates = false → (t.forAll l f).gates = false := by
    intro l f hf
    induction l with
    | nil => exact fun _ h => h
    | cons a l ih => exact fun t h => ih _ ((hf a t).trans h)
  have c : ∀ n t, (((State.cond t (t.get (Reg.OP_STAT_PSTATE n) != 2) fun u => u.emit (.wake n)).put (Reg.OP_STAT_PSTATE n) 2).lctl n 0x40
      [t.get Reg.ROUTE_NODE_NODE, r]).gates = t.gates := by
    intro n t
    unfold State.cond
    split <;> rfl
  unfold State.closeGates State.sendTwinDown State.sendDown
  split <;> exact k _ _ c _ rfl

theorem Calm.enterTrap {s t : State} (h : Calm s t) : Calm s t.enterTrap := by
  unfold State.enterTrap
  have a : Calm s (((t.onKeep fun k =>
      { k with inTrap := true, trapStop := t.bit Reg.PWR_STAT_BUSY && !t.bit Reg.PWR_STAT_DIR }).shelve 3 0 0 0).raiseEvt 3 2) :=
    Calm.raiseEvt (by exact h) 3 2
  simp only
  split
  · split
    · exact a.cond _ fun u k => k.mboxAbandon
    · exact a
  · have b := (a.closeGates 1).onTe fun e => { e with
      queues := tmap {} (fun _ k => { k with slots := k.slots.map fun d => { d with tile := none, res := none, laid := false } }) e.queues
      tiles := tmap {} (fun _ x => { x with win := 0 }) e.tiles }
    split
    · split
      · exact ((b.cond _ fun u k => k.mboxAbandon).put _ _).put _ _
      · exact (b.cond _ fun u k => k.mboxAbandon).onKeep _
    · split
      · exact (b.put _ _).put _ _
      · exact b.onKeep _

theorem Calm.powerDown {s t : State} (h : Calm s t) : Calm s t.powerDown :=
  ((((((h.closeGates 0).onKeep _).put _ _).put _ _).put _ _).put _ _)

theorem Calm.trapPowerDown {s t : State} (h : Calm s t) : Calm s t.trapPowerDown := by
  unfold State.trapPowerDown
  split
  · exact h.powerDown
  · exact h

theorem Calm.exitTrap {s t : State} (h : Calm s t) : Calm s t.exitTrap := by
  unfold State.exitTrap
  simp only
  split
  · exact Calm.trapPowerDown (by exact h)
  · exact h

theorem Calm.evalTrap {s t : State} (h : Calm s t) : Calm s t.evalTrap := by
  unfold State.evalTrap
  split
  · exact h.enterTrap
  · split
    · exact h.exitTrap
    · exact h

/-- What reaches the collector leaves the rest of the block alone (R359 to R361, R366 to R371). -/
theorem Calm.latchError {s t : State} (h : Calm s t) (b e p : Nat) (c : Capture) : Calm s (t.latchError b e p c) := by
  unfold State.latchError
  split
  · exact Calm.evalTrap (Calm.raiseEvt (by exact h.sumSet b) 3 0)
  · exact Calm.evalTrap (Calm.raiseEvt (by exact h.sumSet b) 3 1)

/-- An error bit that is set already stays; one that is set anew is masked or reaches the collector (R359). -/
theorem raiseErr_eq (s : State) (p b : Nat) (c : Capture) :
    bitOf (s.get (Reg.ERR p)) b = true ∧ s.raiseErr p b c = s ∨
    bitOf (s.get (Reg.ERR p)) b = false ∧ ∃ t, t = s.put (Reg.ERR p) (setBitOf (s.get (Reg.ERR p)) b) ∧
      (bitOf (s.get (Reg.ERR_MSK p)) b = true ∧ s.raiseErr p b c = t ∨
        bitOf (s.get (Reg.ERR_MSK p)) b = false ∧ s.raiseErr p b c = t.latchError (errBitOfPage p) b p c) := by
  unfold State.raiseErr
  split
  · exact .inl ⟨‹_›, rfl⟩
  · refine .inr ⟨Bool.eq_false_iff.mpr ‹_›, _, rfl, ?_⟩
    simp only
    split
    · exact .inl ⟨‹_›, rfl⟩
    · exact .inr ⟨Bool.eq_false_iff.mpr ‹_›, rfl⟩

theorem Calm.raiseErr {s t : State} (h : Calm s t) (p b : Nat) (c : Capture) : Calm s (t.raiseErr p b c) := by
  obtain ⟨-, e⟩ | ⟨-, u, hu, ⟨-, e⟩ | ⟨-, e⟩⟩ := raiseErr_eq t p b c <;> rw [e]
  · exact h
  · rw [hu]; exact h.put _ _
  · rw [hu]; exact (h.put _ _).latchError _ _ _ _

theorem Calm.raiseErrFree {s t : State} (h : Calm s t) (p b : Nat) : Calm s (t.raiseErrFree p b) :=
  Calm.raiseErr (t := t.takeFree.2) h p b _

/-- A watermark's judgement (R98). -/
theorem Calm.judge {s t : State} (h : Calm s t) (w : Wm) (l : Nat) : Calm s (t.judge w l) := by
  unfold State.judge
  split
  · exact Calm.raiseEvt (by exact h) _ _
  · split
    · exact Calm.cond (by exact h) _ fun u k => Calm.raiseEvt (by exact k) _ _
    · exact h

end Sys2Proof.Machine
end

