-- ==== Sys2Proof/Laws/Cellar.lean ====
section
/-! SUPPORT. The laws of the Cellar's bytes: a read after a write, and that every write keeps the memory's canonical form; page programs touch no byte themselves. -/

namespace Sys2Proof.Machine

/-- Bytes put one after another, in the table itself. -/
theorem write_fold (bs : List Byte) (a : Nat) (m : List Host.Cell) :
    (bs.foldl (fun (x : Nat × List Host.Cell) b => (x.1 + 1, tset 0 x.2 x.1 b)) (a, m)).1 = a + bs.length := by
  induction bs generalizing a m with
  | nil => rfl
  | cons b bs ih => simp only [List.foldl_cons, ih, List.length_cons]; omega

/-- A write leaves every byte below its address alone. -/
theorem write_below (bs : List Byte) (a k : Nat) (m : List Host.Cell) (h : k < a) :
    tget 0 (bs.foldl (fun (x : Nat × List Host.Cell) b => (x.1 + 1, tset 0 x.2 x.1 b)) (a, m)).2 k = tget 0 m k := by
  induction bs generalizing a m with
  | nil => rfl
  | cons b bs ih =>
    simp only [List.foldl_cons]
    rw [ih (a + 1) _ (by omega), tget_tset_ne _ _ _ (by omega)]

/-- A byte read after a write: the byte written where the address is inside, the byte before it elsewhere. -/
theorem tget_write (v : Nv) (a k : Nat) (bs : List Byte) :
    tget 0 (v.write a bs).mem k = if a ≤ k ∧ k < a + bs.length then bs.getD (k - a) 0 else tget 0 v.mem k := by
  have key : ∀ (bs : List Byte) (a : Nat) (m : List Host.Cell),
      tget 0 (bs.foldl (fun (x : Nat × List Host.Cell) b => (x.1 + 1, tset 0 x.2 x.1 b)) (a, m)).2 k =
        if a ≤ k ∧ k < a + bs.length then bs.getD (k - a) 0 else tget 0 m k := by
    intro bs
    induction bs with
    | nil => intro a m; simp <;> omega
    | cons b bs ih =>
      intro a m
      simp only [List.foldl_cons, List.length_cons]
      by_cases hk : k = a
      · subst hk
        rw [write_below _ _ _ _ (by omega)]
        simp
      · rw [ih, tget_tset_ne _ _ _ hk]
        by_cases hl : a ≤ k ∧ k < a + (bs.length + 1)
        · obtain ⟨n, hn⟩ : ∃ n, k - a = n + 1 := ⟨k - a - 1, by omega⟩
          rw [if_pos (by omega), if_pos hl, hn, show k - (a + 1) = n by omega]
          rfl
        · rw [if_neg (by omega), if_neg hl]
  exact key bs a v.mem

/-- A write keeps the memory's canonical form. -/
theorem memory_wf_write {v : Nv} (a : Nat) (bs : List Byte) (h : Memory.wf v.mem = true) : Memory.wf (v.write a bs).mem = true := by
  have key : ∀ (bs : List Byte) (a : Nat) (m : List Host.Cell), Table.wf 0 m = true →
      Table.wf 0 (bs.foldl (fun (x : Nat × List Host.Cell) b => (x.1 + 1, tset 0 x.2 x.1 b)) (a, m)).2 = true := by
    intro bs
    induction bs with
    | nil => exact fun _ _ h => h
    | cons b bs ih => exact fun a m h => ih _ _ (wf_tset _ _ h)
  exact key bs a v.mem h

/-- The reset memory has the canonical form. -/
theorem memory_wf_reset : Memory.wf State.reset.nv.mem = true := rfl

/-- What is read back from the place just written is what was written. -/
theorem read_write (v : Nv) (a : Nat) (bs : List Byte) : (v.write a bs).read a bs.length = bs := by
  apply List.ext_getElem
  · simp [Nv.read]
  · intro i h1 h2
    simp only [Nv.read, List.getElem_map, List.getElem_range, tget_write]
    rw [if_pos ⟨by omega, by omega⟩]
    simp [h2]

/-- A read elsewhere is as before. -/
theorem read_write_ne (v : Nv) (a b n : Nat) (bs : List Byte) (h : b + n ≤ a ∨ a + bs.length ≤ b) :
    (v.write a bs).read b n = v.read b n := by
  simp only [Nv.read]
  apply List.map_congr_left
  intro i hi
  rw [List.mem_range] at hi
  rw [tget_write, if_neg (by omega)]

/-- A write changes nothing of the Cellar but its bytes. -/
theorem write_frame (v : Nv) (a : Nat) (bs : List Byte) : v.write a bs = { v with mem := (v.write a bs).mem } := rfl

theorem Calm.winClose {s t : State} (h : Calm s t) : Calm s t.winClose := by
  unfold State.winClose
  split
  · exact Calm.raiseEvt (by exact h) _ _
  · exact h

theorem Calm.retirePage {s t : State} (h : Calm s t) (p : Nat) : Calm s (t.retirePage p).2 := by
  unfold State.retirePage
  split
  · exact Calm.raiseEvt (by exact h) _ _
  · exact Calm.raiseErrFree (by exact h) _ _

theorem Calm.program1 {s t : State} (h : Calm s t) (p : Nat) (r : Bool) : Calm s (t.program1 p r).2 := by
  unfold State.program1
  simp only
  split
  · exact Calm.retirePage (by exact h) p
  · exact h

/-- A run of page programs touches only the Cellar, its registers and what its errors touch. -/
theorem Calm.programs {s : State} (env : CellEnv) (ps : List Nat) : ∀ (n : Nat) (t : State), Calm s t → Calm s (State.programs env n t ps).st := by
  induction ps with
  | nil => exact fun _ _ h => h
  | cons p ps ih =>
    intro n t h
    have hw : Calm s (if env.winCloses = some n then t.winClose else t) := by
      split
      · exact h.winClose
      · exact h
    simp only [State.programs]
    generalize (if env.winCloses = some n then t.winClose else t) = w at hw ⊢
    split
    · exact hw.bump _ _
    · split
      · exact hw.program1 _ _
      · exact ih _ _ (hw.program1 _ _)

end Sys2Proof.Machine
end

