-- ==== Sys2Proof/Laws/Crypto.lean ====
section
/-! SUPPORT. CRC-32C stays within 32 bits, and byte lists hold bytes. -/

namespace Sys2Proof.Machine

theorem crc32cBit_lt {c : Nat} (h : c < 2 ^ 32) : crc32cBit c < 2 ^ 32 := by
  unfold crc32cBit
  split
  · exact Nat.xor_lt_two_pow (by omega) (by omega)
  · omega

theorem crc32cByte_lt {c b : Nat} (h : c < 2 ^ 32) (hb : b < 2 ^ 32) : crc32cByte c b < 2 ^ 32 := by
  unfold crc32cByte
  iterate 8 apply crc32cBit_lt
  exact Nat.xor_lt_two_pow h hb

/-- A CRC-32C of bytes is a 32-bit number (R112). -/
theorem crc32c_lt {l : List Nat} (h : ∀ b ∈ l, b < 256) : crc32c l < 2 ^ 32 := by
  unfold crc32c
  refine Nat.xor_lt_two_pow ?_ (by decide)
  have k : ∀ (l : List Nat) (c : Nat), c < 2 ^ 32 → (∀ b ∈ l, b < 256) → l.foldl crc32cByte c < 2 ^ 32 := by
    intro l
    induction l with
    | nil => exact fun c hc _ => hc
    | cons b l ih =>
      exact fun c hc hl => ih _ (crc32cByte_lt hc (by have := hl b (List.mem_cons_self ..); omega)) fun x hx => hl x (List.mem_cons_of_mem _ hx)
  exact k l _ (by decide) h

theorem toVals_lt {l : List Byte} : ∀ b ∈ toVals l, b < 256 := by
  intro b hb
  obtain ⟨x, -, rfl⟩ := List.mem_map.mp hb
  exact x.isLt

theorem natBe_lt {n v : Nat} : ∀ b ∈ natBe n v, b < 256 := by
  intro b hb
  obtain ⟨i, -, rfl⟩ := List.mem_map.mp hb
  omega

end Sys2Proof.Machine
end

