-- ==== Sys2Proof/Laws/Frames.lean ====
section
/-! SUPPORT. What the arrival of a frame touches: a kept frame occupies its blocks at its port and nothing else. -/

namespace Sys2Proof.Machine

/-- A frame that is kept occupies its blocks in its pool, and that is all (R208). -/
theorem arrive_kept {s : State} {n : Nat} {f : Frame} (h : s.intake n f = true) :
    ∃ g, s.arrive n f = (true, s.onOp n g) := by
  simp only [State.intake, Bool.and_eq_true, Bool.not_eq_true', decide_eq_true_eq] at h
  obtain ⟨⟨⟨⟨⟨⟨⟨a, b⟩, c⟩, d⟩, e⟩, i⟩, j⟩, k⟩ := h
  refine ⟨fun o => { o with rxOcc := setAt o.rxOcc (poolOf f.tc f.rl) (o.rxOcc.getD (poolOf f.tc f.rl) 0 + frameBlocks f) }, ?_⟩
  have r : s.rxTake n f = (true, s.onOp n fun o => { o with rxOcc := setAt o.rxOcc (poolOf f.tc f.rl) (o.rxOcc.getD (poolOf f.tc f.rl) 0 + frameBlocks f) }) := by
    unfold State.rxTake
    simp only
    rw [if_neg (by omega)]
  have e' : (!crcGood (s.brynn n) f || f.ftype == 3 || f.ftype == 6 || f.ftype == 7) = false := by
    simpa only [d, Bool.not_true, Bool.false_or] using e
  unfold State.arrive
  simp only [a, r, c, e', i, j, k, Bool.not_true, Bool.false_eq_true, if_false, Bool.or_self]

/-- A kept frame for this node that carries no acknowledgement changes nothing but the ports. -/
theorem taken_plain {s : State} {n : Nat} {f : Frame} (h : s.intake n f = true) (k : f.ackV = false) : ∃ o, s.taken n f = { s with op := o } := by
  obtain ⟨g, e⟩ := arrive_kept h
  exact ⟨(s.taken n f).op, by simp only [State.taken, e, State.local, k]; rfl⟩

end Sys2Proof.Machine
end

