-- ==== Sys2Proof/Laws/Tokens.lean ====
section
/-! SUPPORT. The tokens of the arbitration points: every operation that deals, draws, presents, holds or withdraws keeps each point in balance. -/

namespace Sys2Proof.Machine

/-- The fresh point balances. -/
theorem balanced_fresh : ({} : QosPoint).balanced := rfl

/-- What a balanced point's waiting requests have drawn is within the 1024 tokens. -/
theorem QosPoint.balanced.drawn_le {p : QosPoint} (h : p.balanced) : p.drawn ≤ 1024 := by
  unfold QosPoint.balanced at h
  omega

/-- The points of a state, where nothing is listed and after an update. -/
@[simp] theorem point_onPoint_self (s : State) (pt : Nat) (f : QosPoint → QosPoint) : (s.onPoint pt f).point pt = f (s.point pt) := by
  simp [State.point, State.onPoint]
theorem point_onPoint_ne (s : State) {pt k : Nat} (f : QosPoint → QosPoint) (h : k ≠ pt) : (s.onPoint pt f).point k = s.point k := by
  simp [State.point, State.onPoint, tget_tset_ne _ _ _ h]
@[simp] theorem get_onPoint (s : State) (pt : Nat) (f : QosPoint → QosPoint) (g : Fld) : (s.onPoint pt f).get g = s.get g := rfl

theorem wf_onPoint {s : State} (pt : Nat) (f : QosPoint → QosPoint) (h : Table.wf {} s.qos = true) : Table.wf {} (s.onPoint pt f).qos = true :=
  wf_tset pt _ h

/-- An update of one point that keeps it in balance keeps all in balance. -/
theorem tokens_onPoint {s : State} (h : s.tokensBalance) (pt : Nat) (f : QosPoint → QosPoint) (hf : (f (s.point pt)).balanced) :
    (s.onPoint pt f).tokensBalance := by
  refine ⟨wf_tset _ _ h.1, fun k => ?_⟩
  by_cases e : k = pt
  · rw [e, point_onPoint_self]; exact hf
  · rw [point_onPoint_ne s f e]; exact h.2 k

/-- What leaves the points alone keeps them in balance. -/
theorem tokens_of_qos_eq {s t : State} (h : s.tokensBalance) (e : t.qos = s.qos) : t.tokensBalance := by
  simpa [State.tokensBalance, State.point, e] using h

theorem tokens_of_calm {s t : State} (h : s.tokensBalance) (c : Calm s t) : t.tokensBalance :=
  tokens_of_qos_eq h c.2.2.2.2.1

/-- A deal hands out no more than there is. -/
theorem dealOut_le (n : Nat) (l : List Nat) : (dealOut n l).sum ≤ n := by
  induction l generalizing n with
  | nil => simp [dealOut]
  | cons d l ih => have := ih (n - min n d); simp only [dealOut, List.sum_cons]; omega

/-- A deal balances a point whose waiting requests hold no more than 1024 tokens (R252). -/
theorem balanced_deal (s : State) (pt : Nat) (h : (s.point pt).drawn ≤ 1024) : ((s.deal pt).point pt).balanced := by
  simp only [State.deal, point_onPoint_self]
  have := dealOut_le (1024 - (s.point pt).drawn - min (1024 - (s.point pt).drawn) (s.get Reg.QOS_CFG_TC0_RSV))
    ((List.range 29).map (s.shareOf pt))
  simp only [QosPoint.balanced]
  show _ + _ + _ + (s.point pt).drawn + 0 = 1024
  omega

theorem tokens_deal {s : State} (h : s.tokensBalance) (pt : Nat) : (s.deal pt).tokensBalance := by
  have := balanced_deal s pt (h.2 pt).drawn_le
  rw [State.deal, point_onPoint_self] at this
  exact tokens_onPoint h pt _ this

/-- A presented request has drawn nothing yet (R252). -/
theorem tokens_present {s : State} (h : s.tokensBalance) (pt m tc cost : Nat) (item : QItem) (ing : Nat) :
    (s.present pt m tc cost item ing).tokensBalance := by
  have hp := h.2 pt
  simp only [State.present]
  split
  · rename_i c
    refine tokens_onPoint h pt _ ?_
    simpa [QosPoint.balanced, QosPoint.drawn] using hp
  · simp only [State.deal]
    have d : ((s.point pt).waiting.map (·.got)).sum ≤ 1024 := hp.drawn_le
    refine ⟨wf_onPoint _ _ (wf_onPoint _ _ h.1), fun k => ?_⟩
    by_cases e : k = pt
    · subst e
      exact balanced_deal _ k (by simpa [QosPoint.drawn] using d)
    · rw [point_onPoint_ne _ _ e, point_onPoint_ne _ _ e]; exact h.2 k

/-- Requests of one point with new marks hold what they held. -/
theorem balanced_map {p : QosPoint} (h : p.balanced) (f : QReq → QReq) (hf : ∀ q, (f q).got = q.got) :
    ({ p with waiting := p.waiting.map f } : QosPoint).balanced := by
  simpa [QosPoint.balanced, QosPoint.drawn, Function.comp_def, hf] using h

/-- A change of the heads' marks leaves what the requests hold. -/
theorem got_mapHeads (f : QReq → QReq) (hf : ∀ q, (f q).got = q.got) : ∀ (l : List QReq) (seen : List (Nat × Nat)),
    ((mapHeads f seen l).map (·.got)) = l.map (·.got) := by
  intro l
  induction l with
  | nil => exact fun _ => rfl
  | cons q l ih =>
    intro seen
    simp only [mapHeads]
    split <;> simp [ih, hf]

theorem tokens_holdHeads {s : State} (h : s.tokensBalance) (pt : Nat) : (s.holdHeads pt).tokensBalance := by
  refine tokens_onPoint h pt _ ?_
  have k := h.2 pt
  unfold QosPoint.balanced QosPoint.drawn at k ⊢
  rw [got_mapHeads]
  · exact k
  · exact fun _ => rfl

/-- What is left whole says nothing of the tokens. -/
@[simp] theorem balanced_keepWhole (p : QosPoint) : p.keepWhole.balanced ↔ p.balanced := Iff.rfl

theorem tokens_tc0Over {s : State} (h : s.tokensBalance) (pt : Nat) : (s.tc0Over pt).tokensBalance := by
  simp only [State.tc0Over]
  split
  · exact h
  · generalize (List.filter _ _).length = n
    have k : ((s.bump Reg.QOS_CNT_TC0_OVER n).raiseEvt 8 2).tokensBalance :=
      tokens_of_calm h (Calm.raiseEvt (by exact Calm.rfl) 8 2)
    apply tokens_onPoint k pt
    refine balanced_map (k.2 pt) _ fun q => ?_
    split <;> rfl

theorem calm_miss (s : State) (k pt m tc c v : Nat) : Calm s (s.miss k pt m tc c v) := by
  simp only [State.miss]
  apply Calm.raiseEvt
  split
  · exact Calm.rfl
  · exact Calm.rfl

theorem calm_judgeShares (s : State) (pt : Nat) : Calm s (s.judgeShares pt) := by
  unfold State.judgeShares
  refine Calm.forAll Calm.rfl _ fun k u h => ?_
  split
  · exact h.trans (calm_miss _ _ _ _ _ _ _)
  · exact h

/-- The end of a round (R252). -/
theorem tokens_roundEnd {s : State} (h : s.tokensBalance) (pt : Nat) : (s.roundEnd pt).tokensBalance := by
  simp only [State.roundEnd]
  split
  · exact h
  · split
    · rename_i w
      refine tokens_onPoint h pt _ ?_
      exact h.2 pt
    · split
      · exact tokens_deal (tokens_of_calm h (calm_judgeShares s pt)) pt
      · exact h

/-- Requests withdrawn give back what they hold (R261). -/
theorem balanced_withdraw {p : QosPoint} (h : p.balanced) (test : QReq → Bool) : (p.withdraw test).balanced := by
  have part : ∀ l : List QReq, ((l.filter test).map (·.got)).sum + ((l.filter fun q => !test q).map (·.got)).sum = (l.map (·.got)).sum := by
    intro l
    induction l with
    | nil => rfl
    | cons q l ih =>
      by_cases e : test q = true
      · simp [e]; omega
      · simp [e]; omega
  have := part p.waiting
  simp only [QosPoint.balanced, QosPoint.withdraw, QosPoint.drawn, QosPoint.keepWhole] at h ⊢
  omega

/-- What the requests of a point have drawn returns to its pool (R261). -/
theorem balanced_regain {p : QosPoint} (h : p.balanced) : p.regain.balanced := by
  have z : ∀ l : List QReq, ((l.map fun q => { q with got := 0 }).map (·.got)).sum = 0 := by
    intro l
    induction l with
    | nil => rfl
    | cons _ _ ih => simpa using ih
  have := z p.waiting
  simp only [QosPoint.balanced, QosPoint.regain, QosPoint.drawn] at h ⊢
  omega

theorem tokens_withdraw {s : State} (h : s.tokensBalance) (test : QReq → Bool) : (s.withdraw test).tokensBalance := by
  refine ⟨wf_tmap _ h.1, fun k => ?_⟩
  have e : (s.withdraw test).point k = (s.point k).withdraw test := by
    simp only [State.point, State.withdraw]
    exact tget_tmap (f := fun _ (p : QosPoint) => p.withdraw test) _ _ rfl (Bool.and_eq_true_iff.mp h.1).1
  rw [e]
  exact balanced_withdraw (h.2 k) test

/-- A list with one element lowered loses exactly that much. -/
theorem sum_setAt_sub (l : List Nat) (i a : Nat) (h : a ≤ l.getD i 0) : (setAt l i (l.getD i 0 - a)).sum + a = l.sum := by
  induction l generalizing i with
  | nil => simp at h; simp [setAt, h]
  | cons b l ih =>
    cases i with
    | zero => simp [setAt] at h ⊢; omega
    | succ i =>
      simp only [List.getD_cons_succ] at h ⊢
      have := ih i h
      simp only [setAt, List.set_cons_succ, List.sum_cons] at this ⊢
      omega

/-- What the buckets from place `i` on, where a test allows it, hold together. -/
def lentFrom (ok : Nat → Bool) : Nat → List Nat → Nat
  | _, [] => 0
  | i, b :: bs => (if ok i then b else 0) + lentFrom ok (i + 1) bs

/-- Tokens taken from the buckets are gone from them, and no others. -/
theorem sum_takeFrom (ok : Nat → Bool) (i n : Nat) (l : List Nat) (h : n ≤ lentFrom ok i l) : (takeFrom ok i n l).sum + n = l.sum := by
  induction l generalizing i n with
  | nil => simp [lentFrom] at h; simp [takeFrom, h]
  | cons b l ih =>
    simp only [lentFrom] at h
    by_cases e : ok i = true
    · simp only [e, if_true] at h
      have := ih (i + 1) (n - b) (by omega)
      simp only [takeFrom, e, if_true, List.sum_cons]
      omega
    · simp only [e] at h
      have := ih (i + 1) n (by simpa using h)
      simp only [takeFrom, e, List.sum_cons, Bool.false_eq_true, if_false]
      omega

/-- The buckets' tokens that a test allows, summed over any range of owners, are among what the buckets hold. -/
theorem foldl_le_lentFrom (ok : Nat → Bool) (l : List Nat) : ∀ (n i a : Nat),
    ((List.range' i n).filter ok).foldl (fun x k => x + l.getD (k - i) 0) a ≤ a + lentFrom ok i l := by
  induction l with
  | nil =>
    have z : ∀ (ks : List Nat) (i a : Nat), ks.foldl (fun x k => x + ([] : List Nat).getD (k - i) 0) a = a := by
      intro ks
      induction ks with
      | nil => exact fun _ _ => rfl
      | cons k ks ih => exact fun i a => ih i _
    intro n i a
    rw [z]
    omega
  | cons b l ih =>
    intro n i a
    cases n with
    | zero => simp
    | succ n =>
      have step : ∀ (m j c : Nat), i < j → ((List.range' j m).filter ok).foldl (fun x k => x + (b :: l).getD (k - i) 0) c =
          ((List.range' j m).filter ok).foldl (fun x k => x + l.getD (k - (i + 1)) 0) c := by
        intro m
        induction m with
        | zero => exact fun _ _ _ => rfl
        | succ m im =>
          intro j c hj
          obtain ⟨d, hd⟩ : ∃ d, j - i = d + 1 := ⟨j - i - 1, by omega⟩
          have e : (b :: l).getD (j - i) 0 = l.getD (j - (i + 1)) 0 := by rw [hd, show j - (i + 1) = d by omega]; rfl
          by_cases o : ok j = true
          · simp only [List.range'_succ, List.filter_cons, o, if_true, List.foldl_cons, e]
            exact im (j + 1) _ (by omega)
          · simp only [List.range'_succ, List.filter_cons, o]
            exact im (j + 1) _ (by omega)
      by_cases o : ok i = true
      · simp only [List.range'_succ, List.filter_cons, o, if_true, List.foldl_cons, lentFrom]
        rw [step n (i + 1) _ (by omega)]
        have := ih n (i + 1) (a + (b :: l).getD (i - i) 0)
        simp at this ⊢
        omega
      · simp only [List.range'_succ, List.filter_cons, o, lentFrom]
        have := ih n (i + 1) a
        simp only [Bool.false_eq_true, if_false, Nat.zero_add]
        rw [step n (i + 1) _ (by omega)]
        exact this

/-- What is lent is in the buckets of those who do not wait (R254). -/
theorem lendable_le (p : QosPoint) : p.lendable ≤ lentFrom (fun k => !p.waits k) 0 p.buckets := by
  have := foldl_le_lentFrom (fun k => !p.waits k) p.buckets 29 0 0
  simpa [QosPoint.lendable, List.range_eq_range'] using this

/-- A draw takes from the buckets, the pool and the reserve exactly what it grants, and nothing else of the point (R254, R257). -/
theorem draw_sum (p : QosPoint) (q : QReq) (d : Draw) :
    (p.draw q d).2.buckets.sum + (p.draw q d).2.pool + (p.draw q d).2.rsv + (p.draw q d).1 = p.buckets.sum + p.pool + p.rsv ∧
      (p.draw q d).2.spent = p.spent ∧ (p.draw q d).2.waiting = p.waiting ∧ (p.draw q d).2.dealt = p.dealt := by
  cases d with
  | tc0 => refine ⟨?_, rfl, rfl, rfl⟩; simp only [QosPoint.draw]; omega
  | owed =>
    refine ⟨?_, rfl, rfl, rfl⟩
    have := sum_setAt_sub p.buckets q.master (min (q.cost - q.got) (p.buckets.getD q.master 0)) (by omega)
    simp only [QosPoint.draw]; omega
  | shared =>
    refine ⟨?_, rfl, rfl, rfl⟩
    have l := lendable_le p
    have := sum_takeFrom (fun k => !p.waits k) 0 (min (q.cost - q.got - min (q.cost - q.got) p.pool) p.lendable) p.buckets (by omega)
    simp only [QosPoint.draw]; omega

/-- The first request equal to `q` is changed, and what the requests hold changes with it alone. -/
theorem got_changeFirst (q : QReq) (f : QReq → Option QReq) : ∀ l : List QReq, q ∈ l →
    ((changeFirst q f l).map (·.got)).sum + q.got = (l.map (·.got)).sum + ((f q).map (·.got)).getD 0 := by
  intro l
  induction l with
  | nil => exact fun h => absurd h (List.not_mem_nil)
  | cons a l ih =>
    intro h
    simp only [changeFirst]
    split
    · rename_i e
      subst e
      cases f a <;> simp <;> omega
    · rename_i e
      have := ih (List.mem_of_ne_of_mem (Ne.symm e) h)
      simp only [List.map_cons, List.sum_cons]
      omega

/-- A pick's draw, and the passing of a request that holds all it needs, keep the point in balance (R254, R257, R261). -/
theorem balanced_grant {p : QosPoint} (h : p.balanced) (q : QReq) (hq : q ∈ p.waiting) (d : Draw) (l : Nat) (r : List Nat) :
    let n := (p.draw q d).1
    let full := decide (q.got + n = q.cost)
    (QosPoint.keepWhole { (p.draw q d).2 with
      waiting := changeFirst q (fun r => if full then none else some { r with got := r.got + n }) (p.draw q d).2.waiting
      spent := (p.draw q d).2.spent + (if full then q.cost else 0), last := l, recvd := r }).balanced := by
  obtain ⟨a, b, c, -⟩ := draw_sum p q d
  have k := got_changeFirst q (fun r => if decide (q.got + (p.draw q d).1 = q.cost) then none else some { r with got := r.got + (p.draw q d).1 }) p.waiting hq
  simp only [QosPoint.balanced, QosPoint.drawn, QosPoint.keepWhole, b, c] at h ⊢
  split at k <;> simp_all <;> omega

end Sys2Proof.Machine
end

