-- ==== Sys2Proof/WellFormed.lean ====
section
/-! DEFINITION. Which commands are well formed: every number within the width of the field that carries it. The machine gives a meaning to every command, well formed or not. -/

namespace Sys2Proof

/-- The payload of a frame: 64 to 2048 bytes in whole blocks (R197). -/
def payOk (l : List Byte) : Bool := decide (64 ≤ l.length) && decide (l.length ≤ 2048) && l.length % 64 == 0

/-- A frame's header fields (Table LINK-3). -/
def Frame.wf (f : Frame) : Bool :=
  decide (f.ftype < 8) && decide (f.tc < 8) && decide (f.rl < 2) && decide (f.hop < 16) && decide (f.dst < 1024) && decide (f.src < 1024) &&
    decide (f.dsid < 2097152) && decide (f.seq < 16777216) && decide (f.ackSid < 2097152) && decide (f.ackSeq < 16777216) && payOk f.payload

/-- A record's fields (Table CFG-2), and the length it states. -/
def Record.wf (r : Record) : Bool :=
  decide (r.magic < 65536) && decide (r.rtype < 256) && decide (r.flags < 256) && decide (r.bodyLen < 2 ^ 32) && decide (r.frame < 2 ^ 32) &&
    decide (r.target < 2 ^ 32) && (r.tag.length == 0 || r.tag.length == 16)

/-- MSP_CS_N rises, if before the end, after 0 to 32 data bits (R102). -/
def MspFrame.wf (t : MspFrame) : Bool := match t.cut with | some k => decide (k ≤ 32) | none => true

/-- A comb module's bring-up: the monitor's reading in 16 bits. -/
def ModuleUp.wf (u : ModuleUp) : Bool := decide (u.power < 65536)

/-- TRAIN_ID (Table LINK-6). -/
def TrainId.wf (t : TrainId) : Bool :=
  decide (t.node < 1024) && decide (t.domain < 65536) && decide (t.role < 4) && decide (t.port < 16) && decide (t.caps < 256)

/-- An open (R222). -/
def OpenReq.wf (r : OpenReq) : Bool :=
  (match r.sid with | some k => decide (k < 2097152) | none => true) && decide (r.peerNode < 1024) && decide (r.peerSid < 2097152) && decide (r.tc < 8)

/-- A remote transaction (R241). -/
def Txn.wf (t : Txn) : Bool := decide (t.node < 1024) && decide (t.addr < 2 ^ 48) && decide (t.blocks ≤ 32) && decide (t.data.length ≤ 2048)

/-- A CTX record (Table TWIN-1). -/
def CtxRec.wf (r : CtxRec) : Bool :=
  decide (r.sid < 2097152) && decide (r.state < 8) && decide (r.tc < 8) && decide (r.gen < 256) && decide (r.peerNode < 1024) &&
    decide (r.peerSid < 2097152) && decide (r.seq < 16777216)

/-- A command is well formed. -/
def Instr.wf (i : Instr) : Bool :=
  match i with
  | .vauxPowerGood => true
  | .vauxLost _ => true
  | .vbatZeroise => true
  | .railLost _ => true
  | .refclkAbsent => true
  | .mgmtPllLost => true
  | .domainPllLoss _ => true
  | .fabPllLoss => true
  | .fabPllLock => true
  | .clkFabWrite _ _ => true
  | .pwrEnRise => true
  | .pwrEnFall => true
  | .wakeNFall => true
  | .faultInNFall => true
  | .resetNFall => true
  | .resetNRise => true
  | .resetCellarHold => true
  | .hatchReset => true
  | .pinStorm _ => true
  | .stormWindow => true
  | .stormUnmask _ _ => true
  | .pwrCmdOn _ => true
  | .pwrCmdOff _ => true
  | .pwrCmdOffStay _ => true
  | .pwrCmdReset _ => true
  | .targetChange _ _ => true
  | .keepRecClear _ _ => true
  | .s1Rails _ => true
  | .railMissing _ => true
  | .s3MgmtOn => true
  | .s4Fuse => true
  | .s5HkBoot => true
  | .s6DomainsOn => true
  | .s7Cellar _ => true
  | .s8Firmware _ => true
  | .s9Key => true
  | .nodeIdWaitEnd => true
  | .s11Comb mods _ => decide (mods.length ≤ 5) && mods.all ModuleUp.wf
  | .s12Rings _ => true
  | .s13Train => true
  | .s14Gates => true
  | .powerUpStepTimeout _ => true
  | .abortPoint => true
  | .undoDone => true
  | .p2LightOff => true
  | .p3MapSave _ => true
  | .p4Cellar => true
  | .p5DomainsOff => true
  | .p6MgmtOff => true
  | .aliveToggle => true
  | .faultAliveKick _ => true
  | .hkWdog => true
  | .faultNPulseEnd => true
  | .registerWrite _ a _ => decide (a < 16777216)
  | .ctlLock _ _ => true
  | .watermarkThresholdWrite _ _ _ => true
  | .regParity a _ => decide (a < 1048576)
  | .sidebandRegisterAccess _ _ req => decide (req.width ≤ 64)
  | .mspTransaction t => t.wf
  | .regacc _ addr _ => decide (addr < 1048576)
  | .idcode => true
  | .bypass _ => true
  | .extest drive => drive.length == 58
  | .samplePreload preload => match preload with | some l => l.length == 58 | none => true
  | .cfgloadPush _ _ => true
  | .mboxClaim _ => true
  | .mboxRelease _ => true
  | .ping _ => true
  | .fwInfo _ => true
  | .fwReload _ _ => true
  | .loftWrite _ _ => true
  | .loftCommit _ _ => true
  | .persLoad _ => true
  | .ringSearch _ => true
  | .mapSave _ _ => true
  | .lineSwap _ => true
  | .combSwitchOntoCombs _ up => up.wf
  | .combSwitchBack _ up => up.wf
  | .calNow _ => true
  | .twinCtlEnable _ => true
  | .twinCtlDisable _ => true
  | .twinCtlHandOver _ => true
  | .dumpNow _ _ => true
  | .atticRead _ _ => true
  | .atticFree _ => true
  | .ftimeSet _ => true
  | .ckptSave _ _ => true
  | .ckptRestore _ _ => true
  | .badOpcode _ _ => true
  | .mboxCommandEnd => true
  | .mboxTimeout => true
  | .mboxAbort _ => true
  | .streamHdr r => r.wf
  | .keyRoll r => r.wf
  | .cfgFrame r => r.wf
  | .seg r => r.wf
  | .release r _ => r.wf
  | .endRecord r => r.wf
  | .startMarker => true
  | .loadTimeout => true
  | .chainForwardStart => true
  | .clkStall => true
  | .prog _ => true
  | .zero _ => true
  | .scrubFrame readback _ _ => readback.length == 4096
  | .hostPllLoss _ => true
  | .hostPllLock _ => true
  | .trained _ _ => true
  | .trainFail _ _ => true
  | .repair _ _ lane _ => decide (lane < 64)
  | .crInitAck _ _ => true
  | .x40Cap _ => true
  | .heatHint _ _ => true
  | .hintDue _ => true
  | .unknownVendorMessage _ => true
  | .l1Request _ => true
  | .l1Entry _ => true
  | .l1Exit _ => true
  | .l2Request _ => true
  | .hpCfgEn _ _ _ => true
  | .hpLbMode _ _ _ => true
  | .hpWideRate _ _ _ => true
  | .wideDeskew _ failing => failing.all (fun l => decide (l < 256))
  | .widePatternEnd _ => true
  | .wideTrainTimeout _ => true
  | .hostIngressTransfer _ _ beats _ => decide (64 ≤ beats.length) && beats.length % 64 == 0
  | .hostCreditReturn _ blocks => decide (1 ≤ blocks)
  | .hostDelivery _ => true
  | .urgEdge _ _ => true
  | .urgStuck _ => true
  | .urgInactive _ => true
  | .urgStorm _ => true
  | .urgUnmask _ _ _ => true
  | .ecsTransactionEnd _ _ => true
  | .ecsRetry _ => true
  | .ecsRequest _ _ => true
  | .combStatusPoll _ => true
  | .combLossOfLight _ => true
  | .combFailedClear _ _ => true
  | .lolUnmask _ _ => true
  | .ringSweepEnd _ peaks => peaks.all (fun x => decide (x.code < 65536))
  | .ringLocked _ code => decide (code < 65536)
  | .ringUnlocked _ => true
  | .htrRail _ _ => true
  | .ringLightLow _ => true
  | .ringLightReturn _ => true
  | .ringRelockScan _ found => match found with | some c => decide (c < 65536) | none => true
  | .ffGainAdapt _ _ => true
  | .swapReq _ id lane line => decide (id < 16) && decide (lane < 32) && decide (line < 36)
  | .spareAligned _ _ => true
  | .swapReady _ id => decide (id < 16)
  | .swapNak _ id cause => decide (id < 16) && decide (1 ≤ cause) && decide (cause ≤ 3)
  | .swapDone _ id => decide (id < 16)
  | .swapCancel _ id => decide (id < 16)
  | .swapCancelled _ id => decide (id < 16)
  | .swapAsk _ lane cause => decide (lane < 32) && decide (1 ≤ cause) && decide (cause ≤ 4)
  | .calLine _ line _ => decide (line < 36)
  | .swapMessageRepeat _ => true
  | .swapAnswerTimeout _ => true
  | .lineCal _ => true
  | .lineCalEnd _ => true
  | .rxLossOfSignal _ line => decide (line < 36)
  | .rxPortLossOfLight _ => true
  | .rxLightReturn _ => true
  | .lineFlap _ => true
  | .flapWindow => true
  | .detectorStorm _ => true
  | .badClear _ _ => true
  | .t1Pll _ => true
  | .t2Signal _ _ => true
  | .t3Align _ markers => decide (markers.length ≤ 36)
  | .t4Eq _ => true
  | .trainingTimeout _ => true
  | .trainId _ id => id.wf
  | .trainIdRepeat _ => true
  | .trainAck _ epoch credits => decide (epoch < 16) && credits.length == 16 && credits.all (fun c => decide (c < 4096))
  | .credit _ epoch credits => decide (epoch < 16) && credits.length == 16 && credits.all (fun c => decide (c < 4096))
  | .creditReturn _ => true
  | .linePllLoss _ => true
  | .linkCtlWrite _ _ _ => true
  | .opLbMode _ _ _ => true
  | .loopReq _ _ => true
  | .loopAck _ _ => true
  | .loopReqRepeat _ => true
  | .idleToNap _ => true
  | .napToDoze _ => true
  | .napReq _ => true
  | .napAck _ => true
  | .napNak _ => true
  | .dozeReq _ => true
  | .dozeAck _ => true
  | .dozeNak _ => true
  | .lpsAnswerTimeout _ => true
  | .portWake _ => true
  | .portWakeDone _ => true
  | .timeExchange => true
  | .timeReq _ dist t1 => decide (dist < 64) && decide (t1 < 2 ^ 64)
  | .timeRsp _ dist t1 t2 t3 => decide (dist < 64) && decide (t1 < 2 ^ 64) && decide (t2 < 2 ^ 64) && decide (t3 < 2 ^ 64)
  | .timeNowRead _ => true
  | .down _ node _ => decide (node < 1024)
  | .linkLossTimer _ => true
  | .codewordUncorrectable _ word frames => word.all (· < 1024) && frames.all Frame.wf
  | .laneErrorLimit _ lane symbols => decide (lane < 32) && decide (1 ≤ symbols)
  | .errorWindow _ => true
  | .relayForward _ f => f.wf
  | .streamOpen _ req => req.wf
  | .streamClose _ sid => decide (sid < 2097152)
  | .streamSend _ sid payload => decide (sid < 2097152) && payOk payload
  | .forcedClose _ => true
  | .data _ f => f.wf
  | .ackWindow => true
  | .ack _ f => f.wf
  | .replayTimer _ => true
  | .replayLim sid => decide (sid < 2097152)
  | .remoteTransaction _ t => t.wf
  | .txnReq _ f => f.wf
  | .channelReset _ f => f.wf
  | .txnCpl _ f => f.wf
  | .routeNodeWrite _ _ => true
  | .routeBankSwap _ => true
  | .routeDataWrite _ _ => true
  | .pantryUe _ slot => decide (slot < 4096)
  | .linkCreditUe _ => true
  | .tagTableUe tag => decide (tag < 1048576)
  | .larderUe sid => decide (sid < 2097152)
  | .grant _ => true
  | .targetMiss _ master tc => decide (master ≤ 28) && decide (tc < 8)
  | .tokenStateUe _ => true
  | .qosTokRead _ => true
  | .pausePeriod _ => true
  | .dutyRamp _ => true
  | .teSubmission _ _ desc inline => desc.length == 16 && inline.length % 64 == 0
  | .mvm _ => true
  | .reduce _ => true
  | .loadw _ => true
  | .freew _ => true
  | .nop _ => true
  | .descriptorComplete _ => true
  | .queueBind _ _ _ => true
  | .resume _ => true
  | .flush _ => true
  | .tegFailReturn _ _ => true
  | .calEnWrite _ _ => true
  | .calBoundary => true
  | .tileDrainEnd => true
  | .setCopyEnd => true
  | .tileMeasurementEnd _ _ => true
  | .startMeasurementEnd _ _ => true
  | .tileFail _ _ => true
  | .queueUe _ slot => decide (slot < 4096)
  | .precWait _ => true
  | .cellarRead _ off _ _ _ => decide (off < 2 ^ 36)
  | .cellarWrite _ off _ _ _ => decide (off < 2 ^ 36)
  | .refreshVisit worst env => (worst.map (·.1) ++ env.ue).all (fun p => decide (p < 15728640))
  | .refrBehind => true
  | .wearCheck => true
  | .levellingMoveEnd _ => true
  | .sensorConversion _ reading => match reading with | some t => decide (-4096 ≤ t) && decide (t ≤ 4095) | none => true
  | .heatThrWrite _ _ => true
  | .keeperDiodeTrip => true
  | .thermalLatchClear => true
  | .twinLinkTrained => true
  | .hello h => decide (h.node < 1024) && decide (h.domain < 65536)
  | .pairingTimeout => true
  | .twinLinkLost _ => true
  | .twinBatchClose => true
  | .ctx r => r.wf
  | .route r => match r with | .entry _ i _ => decide (i < 1024) | .swap _ => true
  | .chan node => decide (node < 1024)
  | .seal epoch count _ => decide (epoch < 2 ^ 32) && decide (count ≤ 255)
  | .confirm epoch => decide (epoch < 2 ^ 32)
  | .nak epoch => decide (epoch < 2 ^ 32)
  | .heartbeat _ => true
  | .heartbeatSend => true
  | .batchResend => true
  | .sweepPass => true
  | .twinDown _ => true
  | .twinSilence => true
  | .handover epoch => decide (epoch < 2 ^ 32)
  | .role _ node phase _ => decide (node < 1024) && decide (phase ≤ 1)
  | .roleAnswer _ => true
  | .roleAck _ node _ => decide (node < 1024)
  | .roleNak _ node _ => decide (node < 1024)
  | .roleClaimRepeat => true
  | .roleClaimWindow => true
  | .resumeRecvAnswer sid gen seq => decide (sid < 2097152) && decide (gen < 256) && decide (seq < 16777216)
  | .errSumWrite _ _ _ => true
  | .faultTrapWrite _ _ _ => true
  | .parityClear _ => true
  | .collectorParity => true
  | .fatalDump _ => true
  | .fatalDumpEnd _ => true
  | .hkDead => true
  | .wakeNRise => true
  | .faultInNRise => true
  | .combLightReturn _ => true
  | .sidebandTrained _ => true
  | .retrain _ => true
  | .fwFatal => true
  | .htrFault _ => true
  | .weightSlotUe _ slot => decide (slot < 8)
  | .reorderStoreUe block => decide (block < 262144)
  | .targetCompletion _ c => decide (c.node < 1024) && decide (c.tag < 1048576) && decide (c.status < 8)

end Sys2Proof
end

