-- ==== Sys2Proof/Tests/Slice0.lean ====
section
/-! SUPPORT. Tests of the model: the checks of WellFormed refuse what they are for, a few results against the spec's tables and published check values, and for every statement with hypotheses a witness: for each of its clauses a concrete state and operands that meet the clause's hypotheses together. -/

open Sys2Proof Sys2Proof.Machine

/-- The state with its traffic gates open or closed. -/
def Sys2Proof.Machine.State.gate (s : State) (b : Bool) : State := { s with gates := b }

namespace Sys2Proof.Tests

set_option Elab.async false

/-- KEEP with VAUX good, every rail good and nothing requested. -/
def wKeep : State := State.reset.onKeep fun k => { k with railsGood := 31 }

/-- A climb that has reached a step, from power state `p`. -/
def wStep (p k : Nat) : State :=
  ((((((wKeep.onKeep fun x => { x with mgmtOn := decide (3 < k), railWatch := decide (1 < k), domainsOn := decide (6 < k), pwrEn := true, pwrEnTaken := true }).onMgmt fun m =>
    { m with hkRun := decide (5 < k) }).put Reg.PWR_STAT_STATE p).put Reg.PWR_STAT_BUSY 1).put Reg.PWR_STAT_STEP k).put Reg.PWR_TGT_STATE 4).put Reg.CLK_STAT_LOCK (if 6 < k then 63 else 1)

/-- RUN: node 5 of domain 1, every domain and PLL up, the housekeeper running, the mailbox owned by the MSP, every partition configured, HP0 to HP2 active, OP3 and OP4 trained to nodes 7 and 8, and a route to each. -/
def wRun : State :=
  { State.reset with
    regs := tset Reg.PWR_STAT_STATE.dflt [] Reg.PWR_STAT_STATE.key 4
    keep := { railsGood := 31, pwrEn := true, pwrEnTaken := true, mgmtOn := true, domainsOn := true, railWatch := true, hkArmed := true, hkFresh := true }
    mgmt := { fuseRead := true, hkRun := true, fwSlot := some (0, 0), cfgHeld := 0 }
    gates := true
    routes := [(7, 0x13), (8, 0x14)] }
  |>.put Reg.PWR_TGT_STATE 4 |>.put Reg.CLK_STAT_LOCK 63 |>.put Reg.CLK_STAT_REFCLK_OK 1 |>.put Reg.CLK_HOST_LOCK 0xFFFFFF
  |>.put Reg.ROUTE_NODE_VALID 1 |>.put Reg.ROUTE_NODE_NODE 5 |>.put Reg.ROUTE_NODE_DOMAIN 1
  |>.put Reg.CELL_STAT_MOUNTED 1 |>.put Reg.CELL_STAT_WIN 1 |>.put Reg.MBOX_OWN_OWNER 2 |>.put Reg.TEG_STAT_READY 1 |>.put Reg.MBOX_ST_ROM 0

/-- RUN with host module 2 active. -/
def wHost : State :=
  ((wRun.put (Reg.HP_CFG_EN 2) 1).put (Reg.HP_STAT_STATE 2) 5).onHp 2 fun h => { h with sbUp := true }

/-- RUN with port 3 trained to node 7 and port 4 to node 8, their transmit spares 34 and 35 locked. -/
def wPort : State :=
  ([3, 4].foldl (fun s n => (((((s.put (Reg.OP_STAT_PSTATE n) 2).put (Reg.OP_PEER_VALID n) 1).put (Reg.OP_PEER_NODE n) (n + 4)).onRing n false 34 fun r =>
      { r with lock := true }).onRing n false 35 fun r => { r with lock := true })) wRun)

/-- Registers set one after another. -/
def sets (s : State) (l : List (Fld × Nat)) : State := l.foldl (fun s e => s.put e.1 e.2) s

/-- A power-down that has reached a step. -/
def wDown (k : Nat) : State :=
  ((wRun.put Reg.PWR_STAT_BUSY 1).put Reg.PWR_STAT_DIR 1).put Reg.PWR_STAT_STEP k |>.put Reg.PWR_STAT_STATE (if k = 22 then 1 else 4)
/-- A frame with its right CRC. -/
def withCrc (f : Frame) (brynn : Bool := false) : Frame := { f with crc := BitVec.ofNat 32 (frameCrc brynn f) }
/-- A DATA frame of context 9, from node 7 to this node. -/
def wFrame : Frame := withCrc { ftype := 0, tc := 2, rl := 0, hop := 15, dst := 5, src := 7, dsid := 9, seq := 5, rpl := false, ackV := false, ackSid := 0, ackSeq := 0, payload := List.replicate 64 1 }
/-- The peaks of a sweep that finds every line. -/
def wPeaks : List Peak := (List.range 60).map fun i => ⟨8200 + 100 * i, i == 0⟩
/-- A set of one weight. -/
def wSet : WSet := { setid := 1, q8 := true, klen := 64, rows := [[1]], exps := [0] }
/-- A header of four records for partition 6. -/
def wHdr : LoadHdr := { fabN := 8, wide := 0, pmask := 0x40, persId := 1, salt := [0, 0, 0, 0], records := 4, enc := false, digest := [1, 2] }
/-- A load from the chain, past the start marker. -/
def wLoad : LoadRun := { src := .chain, slot := 0, hpMask := 0xFFFFFF, atS10 := false, started := true }
/-- The load with its header accepted. -/
def wLoaded : LoadRun := { wLoad with hdr := some wHdr, nextFrame := 1, held := 0x40 }
/-- A record with its CRC. -/
def mkRec (ty frame target flags : Nat) (body : List Byte) (tag : List Byte := []) : Record :=
  let r : Record := { magic := 0xC5A9, rtype := ty, flags := flags, bodyLen := body.length, frame := frame, target := target, body := body, tag := tag, crc := 0, ue := false }
  { r with crc := BitVec.ofNat 32 (crc32c (recHeader r ++ toVals r.body ++ toVals r.tag)) }
/-- A STREAM_HDR record. -/
def wRec : Record := mkRec 1 0 0 0 ([0, 1, 5, 0x12, 0xB0, 8, 0, 0, 0, 0, 0, 0x40, 0, 0, 0, 1, 1, 2, 3, 4, 0, 0, 0, 3, 1] ++ List.replicate 39 0)
/-- A request of master 3. -/
def wReq : QReq := { master := 3, tc := 2, cost := 4, born := 0, item := .core }
/-- Weights of 64 tokens for master 3 and 16 for the relays. -/
def wShare : State := (wPort.put (Reg.QOS_MST_SHARE 3) 64)

/-- A descriptor: its operation and the rest of its first four words. -/
def mkDesc (op w0 w1 w2 : Nat) (inl : List Byte) : Desc := { words := [2 ^ 28 * op + w0, w1, w2, 0], port := 2, inline := inl }
/-- An MVM of set 1, eight-bit, one vector of one element. -/
def wMvm : Desc := mkDesc 1 0 (2 ^ 16 + 2 ^ 12) 0 [1, 1]
/-- RUN with queue 4 enabled and these descriptors in it. -/
def wTe (ds : List Desc) : State :=
  (wRun.put (Reg.TEG_Q_CFG_EN 4) 1).onTeq 4 fun k => { k with slots := ds }
/-- Queue 4 as `wTe` fills it, tile 9 holding set 1. -/
def wTile (ds : List Desc) : State := (wTe ds).onTile 9 fun t => { t with slots := some wSet :: List.replicate 7 none, active := some 0, meas := some 0 }
/-- The active of a pair in WARM, or the standby. -/
def wTwin (role st : Nat) : State :=
  ((((wPort.put Reg.TWIN_STAT_PAIRED 1).put Reg.TWIN_STAT_ROLE role).put Reg.TWIN_STAT_STATE st).put Reg.TWIN_STAT_LINK_UP 1).onTwin fun w => { w with enabled := true, sent := true }

/-- RUN with RECV context 9 open from node 7, changed by `f`. -/
def wRecv (f : Ctx → Ctx) : State := wPort.onCtx 9 fun _ => f { recv := true, state := 1, peerNode := 7, seq := 5 }
/-- RUN with SEND context 9 open to node 7, its frames 5 and 6 not acknowledged, changed by `f`. -/
def wSend (f : Ctx → Ctx) : State :=
  wPort.onCtx 9 fun _ => f { state := 1, peerNode := 7, seq := 7, acked := 5, unack := [5, 6].map fun k => { seq := k, port := 3, slot := k, last := 3, master := 2, tc := 2 } }
/-- An ACK frame from node 7 with one record: SID 9 and a cumulative point. -/
def wAck (cum : Nat) : Frame := withCrc { wFrame with ftype := 4, payload := toBytes (natBe 4 (2 ^ 31 + 9) ++ natBe 4 cum ++ List.replicate 56 0) }
/-- Its records: the one, and one that is not valid. -/
def wAckRec (cum : Nat) : AckRecord := ⟨true, 0, 9, cum, List.replicate 4 (0, 0)⟩
def wNoRec : AckRecord := ⟨false, 0, 0, 0, List.replicate 4 (0, 0)⟩
/-- RUN with a request alone at a point whose round is dealt, and frame 17 in the Pantry of port 3. -/
def wPt (pt : Nat) (q : QReq) : State :=
  (wShare.onPoint pt fun p => { p with
    dealt := true, pool := 1024 - 64, spent := 0, buckets := setAt (List.replicate 29 0) 3 64, share := List.replicate 29 0, recvd := List.replicate 29 0,
    whole := List.replicate 29 false, waiting := [q] }).onOp 3 fun o => { o with txCr := List.replicate 16 400, pantry := [(17, some wFrame)] }
/-- A comb module answers well. -/
def wGood (rdata : BitVec 16) : EcsResponse := ⟨0, rdata, BitVec.ofNat 8 (crc8 [0, rdata.toNat / 256, rdata.toNat % 256])⟩
/-- The words of a record, as the Hatch's FIFO holds them. -/
def wWords (r : Record) : List Word := (chunks 4 20 (recordBytes r)).map fun b => BitVec.ofNat 32 (beNat (toVals b))
/-- Port 3 in a training step. -/
def wTrain (k : Nat) : State := ((wRun.put (Reg.OP_STAT_PSTATE 3) 1).put (Reg.OP_STAT_TSTEP 3) k)
/-- A channel reset from node 7. -/
def wReset : Frame := withCrc { wFrame with ftype := 1, payload := toBytes (natBe 4 (0xFF * 2 ^ 20 + 1)) ++ List.replicate 60 0 }
/-- The markers of lanes 0 to `n` - 1 on the lines of the same numbers. -/
def wMarks (n : Nat) : List LaneMarker := (List.range n).map fun k => ⟨Fin.ofNat 36 k, BitVec.ofNat 16 (0xB500 + 8 * k), 0⟩

/-- The digest of no bytes in MBOX_BUF. -/
def setDigest (s : State) : State :=
  (List.range 8).foldl (fun s i => s.put (Reg.MBOX_BUF_DATA i) ((((sha256 []).drop (4 * i)).take 4).reverse.foldl (fun a b => 256 * a + b) 0)) s

/-! WellFormed: an ill-formed term for each check is refused, and its well-formed neighbour is not. -/

theorem test_wf_frame : [{ wFrame with ftype := 8 }, { wFrame with tc := 8 }, { wFrame with rl := 2 }, { wFrame with hop := 16 }, { wFrame with dst := 1024 },
    { wFrame with src := 1024 }, { wFrame with dsid := 2097152 }, { wFrame with seq := 16777216 }, { wFrame with ackSid := 2097152 }, { wFrame with ackSeq := 16777216 },
    { wFrame with payload := [] }, { wFrame with payload := List.replicate 65 0 }, { wFrame with payload := List.replicate 2112 0 }].any Frame.wf = false ∧
    wFrame.wf = true := by decide +kernel

theorem test_wf_record : [{ wRec with magic := 65536 }, { wRec with rtype := 256 }, { wRec with flags := 256 }, { wRec with bodyLen := 2 ^ 32 }, { wRec with frame := 2 ^ 32 },
    { wRec with target := 2 ^ 32 }, { wRec with tag := [0] }].any Record.wf = false ∧ wRec.wf = true := by decide +kernel

theorem test_wf_registers : [Instr.registerWrite .msp 16777216 0, .regParity 1048576 none, .sidebandRegisterAccess 0 0 ⟨65, false, true, 0x9048, 0⟩,
    .mspTransaction ⟨2, 0x9048, 5, some 33⟩, .regacc true 1048576 0, .s11Comb (List.replicate 6 {}) [], .s11Comb [{ power := 65536 }] [], .extest [true], .samplePreload (some [])].any Instr.wf = false ∧
    Instr.wf (.mspTransaction ⟨2, 0x9048, 5, some 32⟩) = true := by decide +kernel

theorem test_wf_loads : [Instr.streamHdr { wRec with magic := 65536 }, .keyRoll { wRec with magic := 65536 }, .cfgFrame { wRec with magic := 65536 },
    .seg { wRec with magic := 65536 }, .release { wRec with magic := 65536 } {}, .endRecord { wRec with magic := 65536 }].any Instr.wf = false := by decide +kernel

theorem test_wf_hosts : [Instr.repair 0 .rx 64 true, .wideDeskew 0 [256], .hostIngressTransfer 0 0 [] true, .hostIngressTransfer 0 1 (List.replicate 65 0) true, .hostCreditReturn 0 0,
    .combSwitchBack .msp { power := 65536 }, .scrubFrame [] false false].any Instr.wf = false ∧ Instr.wf (.hostIngressTransfer 0 1 (List.replicate 64 0) true) = true := by decide +kernel

theorem test_wf_rings : [Instr.ringSweepEnd 0 [⟨65536, true⟩], .ringLocked ⟨3, false, 6⟩ 65536, .swapReq 0 16 0 0, .swapReq 0 0 32 0, .swapReq 0 0 0 36,
    .swapReady 0 16, .swapNak 0 16 1, .swapNak 0 0 0, .swapNak 0 0 4, .swapDone 0 16, .swapCancel 0 16, .swapCancelled 0 16, .swapAsk 0 32 1, .swapAsk 0 0 0,
    .swapAsk 0 0 5, .calLine 0 36 true, .rxLossOfSignal 0 36].any Instr.wf = false ∧ Instr.wf (.swapReq 0 15 31 35) = true := by decide +kernel

theorem test_wf_links : [Instr.trainId 0 ⟨1024, 0, 0, 0, false, false, 0⟩, .trainId 0 ⟨0, 65536, 0, 0, false, false, 0⟩, .trainId 0 ⟨0, 0, 4, 0, false, false, 0⟩,
    .trainId 0 ⟨0, 0, 0, 16, false, false, 0⟩, .trainId 0 ⟨0, 0, 0, 0, false, false, 256⟩, .trainAck 0 16 (List.replicate 16 0), .trainAck 0 0 [],
    .trainAck 0 0 (List.replicate 16 4096), .credit 0 16 (List.replicate 16 0), .credit 0 0 [], .credit 0 0 (List.replicate 16 4096), .timeReq 0 64 0,
    .timeReq 0 0 (2 ^ 64), .timeRsp 0 64 0 0 0, .timeRsp 0 0 (2 ^ 64) 0 0, .timeRsp 0 0 0 (2 ^ 64) 0, .timeRsp 0 0 0 0 (2 ^ 64), .down 0 1024 0,
    .codewordUncorrectable 0 [1024] [], .codewordUncorrectable 0 [] [{ wFrame with tc := 8 }], .t3Align 0 (List.replicate 37 ⟨0, 0, 0⟩), .laneErrorLimit 0 32 1, .laneErrorLimit 0 0 0].any Instr.wf = false ∧
    Instr.wf (.credit 0 15 (List.replicate 16 4095)) = true := by decide +kernel

theorem test_wf_streams : [Instr.relayForward 0 { wFrame with tc := 8 }, .streamOpen 0 ⟨true, some 2097152, 7, 1, 2, true, false⟩, .streamOpen 0 ⟨true, none, 1024, 1, 2, true, false⟩,
    .streamOpen 0 ⟨true, none, 7, 2097152, 2, true, false⟩, .streamOpen 0 ⟨true, none, 7, 1, 8, true, false⟩, .streamClose 0 2097152,
    .streamSend 0 2097152 (List.replicate 64 0), .streamSend 0 0 [], .data 0 { wFrame with tc := 8 }, .ack 0 { wFrame with dst := 1024 }, .replayLim 2097152].any Instr.wf = false ∧
    Instr.wf (.streamOpen 0 ⟨true, none, 7, 1, 2, true, false⟩) = true := by decide +kernel

theorem test_wf_transactions : [Instr.remoteTransaction 0 ⟨1024, .read, 0, 0, 1, []⟩, .remoteTransaction 0 ⟨7, .read, 0, 2 ^ 48, 1, []⟩,
    .remoteTransaction 0 ⟨7, .read, 0, 0, 33, []⟩, .remoteTransaction 0 ⟨7, .write, 0, 0, 0, List.replicate 2049 0⟩, .txnReq 0 { wFrame with tc := 8 },
    .channelReset 0 { wFrame with hop := 16 }, .txnCpl 0 { wFrame with tc := 8 }, .pantryUe 0 4096, .tagTableUe 1048576, .larderUe 2097152, .targetMiss 0 29 1, .targetMiss 0 0 8].any Instr.wf = false ∧
    Instr.wf (.remoteTransaction 0 ⟨7, .read, 0, 0, 32, []⟩) = true := by decide +kernel

theorem test_wf_engine_and_cellar : [Instr.teSubmission 0 0 [] [], .teSubmission 0 0 (List.replicate 16 0) [0], .queueUe 0 4096, .cellarRead 0 (2 ^ 36) 0 0 {}, .cellarWrite 0 (2 ^ 36) 0 [] {},
    .refreshVisit [(15728640, 1)] {}, .refreshVisit [] { ue := [15728640] }].any Instr.wf = false ∧ Instr.wf (.refreshVisit [(15728639, 1)] {}) = true := by decide +kernel

theorem test_wf_twins : [Instr.hello ⟨1024, 1, true, true, false, true⟩, .hello ⟨5, 65536, true, true, false, true⟩, .ctx ⟨2097152, 1, true, true, 2, 0, false, 7, 1, 5⟩,
    .ctx ⟨9, 8, true, true, 2, 0, false, 7, 1, 5⟩, .ctx ⟨9, 1, true, true, 8, 0, false, 7, 1, 5⟩, .ctx ⟨9, 1, true, true, 2, 256, false, 7, 1, 5⟩,
    .ctx ⟨9, 1, true, true, 2, 0, false, 1024, 1, 5⟩, .ctx ⟨9, 1, true, true, 2, 0, false, 7, 2097152, 5⟩, .ctx ⟨9, 1, true, true, 2, 0, false, 7, 1, 16777216⟩,
    .chan 1024, .seal (2 ^ 32) 0 0, .seal 0 256 0, .confirm (2 ^ 32), .nak (2 ^ 32), .handover (2 ^ 32), .role 0 1024 0 0, .role 0 0 2 0, .roleAck 0 1024 0,
    .roleNak 0 1024 0, .resumeRecvAnswer 2097152 0 0, .resumeRecvAnswer 0 256 0, .resumeRecvAnswer 0 0 16777216, .weightSlotUe 0 8, .reorderStoreUe 262144,
    .targetCompletion 0 ⟨1024, 5, .write, 0, []⟩, .targetCompletion 0 ⟨7, 1048576, .write, 0, []⟩, .targetCompletion 0 ⟨7, 5, .write, 8, []⟩].any Instr.wf = false ∧
    Instr.wf (.targetCompletion 0 ⟨7, 5, .write, 7, []⟩) = true := by decide +kernel

/-! Results whose expected values stand outside the model. -/

/-- The published check values of CRC-32C ("123456789") and SHA-256 (no bytes: its first four). -/
theorem test_crc32c_check : crc32c [0x31, 0x32, 0x33, 0x34, 0x35, 0x36, 0x37, 0x38, 0x39] = 0xE3069283 := by decide +kernel
theorem test_sha256_empty : (sha256 []).take 4 = [0xE3, 0xB0, 0xC4, 0x42] := by decide +kernel

/-- Table FAULT-1: OP3 feeds bit 43, HP5 bit 21. -/
theorem test_error_bits : [0x33, 0x15].map errBitOfPage = [43, 21] := by decide +kernel

/-- R73: N is clamped to 40. -/
theorem test_fab_n_clamped : ([63].map fun v => match exec (.clkFabWrite .msp v) wRun with
    | .next t => t.get Reg.CLK_FAB_N | _ => 99) = [40] := by decide +kernel

/-- R139: a partner of 12 GT/s trains at 8 GT/s, one of 4 GT/s at none, one of 24 and 32 at MAX_RATE's reset value, 32. -/
theorem test_rates : ([[4, 8, 12], [4], [24, 32]].map fun l => wHost.trainRate 2 { rates := l }) = [some 1, none, some 4] := by decide +kernel

/-- R76: PWR_EN's rise in KEEP starts S1; a fall in RUN starts the power-down at P2 and P3 after closing the gates. -/
theorem test_pwr_en : (match exec .pwrEnRise wKeep with | .next t => (t.get Reg.PWR_STAT_BUSY, t.get Reg.PWR_STAT_DIR, t.get Reg.PWR_STAT_STEP) | _ => (9, 9, 9)) = (1, 0, 1) ∧
    (match exec .pwrEnFall wRun with | .next t => (t.get Reg.PWR_STAT_DIR, t.gates) | _ => (9, true)) = (1, false) := by decide +kernel

/-- R251, R252: an idle point that takes its first request deals 1024 tokens, the reserve first. -/
theorem test_first_round : ((wRun.present 3 2 2 4 .core).point 3).buckets.sum + ((wRun.present 3 2 2 4 .core).point 3).pool +
    ((wRun.present 3 2 2 4 .core).point 3).rsv = 1024 := by decide +kernel

/-- A word spells no command, for the table gives no row bits; a queued command runs before the block idles. -/
theorem test_front_of_queue : State.withFetchWord wRun 0 0 = wRun ∧
    (match step { wKeep with pending := [.pwrEnRise, .idcode] } with | .next t => (t.pending, t.get Reg.PWR_STAT_STEP, t.now) | _ => ([], 0, 9)) = ([.idcode], 1, 0) ∧
    (match step wKeep with | .next t => t.now | _ => 9) = 1 := by decide +kernel

/-- A record made by `mkRec` carries its own CRC. -/
theorem mkRec_crc (ty frame target flags : Nat) (body tag : List Byte) :
    let r := mkRec ty frame target flags body tag
    crc32c (recHeader r ++ toVals r.body ++ toVals r.tag) = r.crc.toNat := by
  intro r
  have h : ∀ b ∈ recHeader r ++ toVals r.body ++ toVals r.tag, b < 256 := by
    intro b hb
    simp only [recHeader, List.mem_append] at hb
    rcases hb with ((((((h | h) | h) | h) | h) | h) | h) | h
    all_goals first | exact natBe_lt b h | exact toVals_lt b h
  have e : r.crc = BitVec.ofNat 32 (crc32c (recHeader r ++ toVals r.body ++ toVals r.tag)) := rfl
  rw [e, BitVec.toNat_ofNat, Nat.mod_eq_of_lt (crc32c_lt h)]

/-- Every point of RUN is fresh, and balances. -/
theorem wRun_tokens : wRun.tokensBalance := ⟨by decide +kernel, fun _ => rfl⟩

/-- RUN with reordering on and the bytes `b` of sequence 9 held in context 9, which waits for sequence 5. -/
def wHeld (b : List Byte) : State :=
  { wPort.put Reg.STRM_CFG_ROB_EN 1 with strm := { larder := [(9, { recv := true, state := 1, peerNode := 7, seq := 5, sel := true, held := [(9, b)] })] } }
/-- A frame ahead of the one awaited, for the state `wHeld`. -/
def wAhead : Frame := withCrc { wFrame with seq := 7 }
/-! What reads no stream state does not see it. -/

theorem get_strm (s : State) (x : Strm) (f : Fld) : State.get { s with strm := x } f = s.get f := rfl
theorem intake_strm (s : State) (x : Strm) (n : Nat) (f : Frame) : State.intake { s with strm := x } n f = s.intake n f := rfl
theorem feedOf_strm (s : State) (x : Strm) (n : Nat) : State.feedOf { s with strm := x } n = s.feedOf n := rfl
theorem feedOf_op (s : State) (o : Table Op) (n : Nat) : State.feedOf { s with op := o } n = s.feedOf n := rfl
theorem held_op (s : State) (o : Table Op) (n : Nat) : State.held { s with op := o } n = s.held n := rfl
theorem held_strm (s : State) (x : Strm) (n : Nat) : State.held { s with strm := x } n = s.held n := rfl
theorem selective_op (s : State) (o : Table Op) (c : Ctx) : State.selective { s with op := o } c = s.selective c := rfl
theorem selective_strm (s : State) (x : Strm) (c : Ctx) : State.selective { s with strm := x } c = s.selective c := rfl
theorem wHeld_intake (b : List Byte) : (wHeld b).intake 3 wAhead = true := by
  rw [wHeld, intake_strm]; decide +kernel

/-- What the Cellar reads where its last four bytes alone are listed. -/
theorem read_tail (v : Nv) (a n : Nat) (b0 b1 b2 b3 : Byte) (h : v.mem = [(a + n, b0), (a + (n + 1), b1), (a + (n + 2), b2), (a + (n + 3), b3)]) :
    v.read a (n + 4) = List.replicate n 0 ++ [b0, b1, b2, b3] := by
  have e : (List.range n).map (fun i => tget (0 : Byte) v.mem (a + i)) = List.replicate n 0 := by
    rw [List.eq_replicate_iff]
    refine ⟨by simp, fun b hb => ?_⟩
    obtain ⟨i, hi, rfl⟩ := List.mem_map.mp hb
    have := List.mem_range.mp hi
    simp only [h, tget]
    rw [if_neg (by omega), if_neg (by omega), if_neg (by omega), if_neg (by omega)]
  have k : List.range (n + 4) = List.range n ++ [n, n + 1, n + 2, n + 3] := by simp [List.range_succ]
  rw [Nv.read, k, List.map_append, e, h]
  simp [tget]

/-- The CRC of a frame record of zeros, byte by byte, and a Loft whose slot 0 holds that record. -/
def wCrcByte (i : Nat) : Byte := BitVec.ofNat 8 (crc32c (List.replicate 4112 0) / 256 ^ (3 - i))
def wScrub : State :=
  ((((wRun.put Reg.CFG_SCRUB_EN 1).put Reg.CFG_POL_SCRUB_MODE 1).put Reg.CFG_LOADED_LOADED 64).onMgmt fun m =>
    { m with scrubNext := 12288, goldOk := 64, frameSrc := [(12288, some ⟨0, none, []⟩)], loadedFrom := [(6, { src := .loft })] }).onNv fun v =>
    { v with loft := [(2, { committed := true })], gold := [(12288, [1])],
             mem := [(0x2000000 + 4112, wCrcByte 0), (0x2000000 + 4113, wCrcByte 1), (0x2000000 + 4114, wCrcByte 2), (0x2000000 + 4115, wCrcByte 3)] }

theorem wScrub_read : wScrub.nv.read 0x2000000 4116 = List.replicate 4112 0 ++ [wCrcByte 0, wCrcByte 1, wCrcByte 2, wCrcByte 3] :=
  read_tail wScrub.nv 0x2000000 4112 _ _ _ _ rfl

theorem wCrc_bytes (x : Nat) (h : x < 2 ^ 32) : beNat (toVals ([0, 1, 2, 3].map fun i => BitVec.ofNat 8 (x / 256 ^ (3 - i)))) = x := by
  simp only [toVals, List.map, beNat, List.foldl, BitVec.toNat_ofNat]
  omega

theorem wCrc_lt (n : Nat) : crc32c (List.replicate n 0) < 2 ^ 32 := crc32c_lt fun b hb => (List.eq_of_mem_replicate hb).symm ▸ (by decide)

theorem wScrub_crc : beNat (toVals [wCrcByte 0, wCrcByte 1, wCrcByte 2, wCrcByte 3]) = crc32c (List.replicate 4112 0) := wCrc_bytes _ (wCrc_lt 4112)

/-- A slot's frame record that its CRC vouches for is reread as it stands. -/
theorem reread_plain (s : State) (target slot pos : Nat) (salt : List Byte) (n : Nat) (z : Nat) (t : List Byte) (hz : z + 4 = 4116)
    (h : tget none s.mgmt.frameSrc target = some ⟨pos, none, salt⟩)
    (e : s.nv.read (loftAddr (2 + slot) + pos) 4116 = List.replicate z 0 ++ t) (hn : n = z - 16) (hm : n = 4096)
    (c : beNat (toVals t) = crc32c (List.replicate z 0)) : s.reread target slot = some (List.replicate n 0) := by
  have r : (List.replicate z (0 : Byte)).length = 4112 := by rw [List.length_replicate]; omega
  have l : (List.replicate z (0 : Byte) ++ t).take 4112 = List.replicate z 0 ∧ (List.replicate z (0 : Byte) ++ t).drop 4112 = t := by
    rw [← r]; exact ⟨List.take_left, List.drop_left⟩
  simp only [State.reread, h, Option.isSome_none, Bool.false_eq_true, if_false, Nat.reduceSub, e, l.1, l.2, c]
  rw [if_neg (not_not_intro (by rw [toVals, List.map_replicate, show BitVec.toNat (0 : Byte) = 0 from rfl])),
    List.drop_append_of_le_length (by omega), List.drop_replicate, List.take_append_of_le_length (by rw [List.length_replicate]; omega),
    List.take_replicate, show min 4096 (z - 16) = n by omega]

theorem wScrub_reread : wScrub.reread 12288 0 = some (List.replicate 4096 0) :=
  reread_plain wScrub 12288 0 0 [] 4096 4112 _ rfl (by decide +kernel) wScrub_read rfl rfl wScrub_crc

/-! Witnesses: for each clause of each statement that has hypotheses, a state and operands that meet the clause's hypotheses together. -/

theorem witness_AcknowledgementsReleaseAndTimersReplay :
    (∃ (s : State) (n : OpId) (f : Frame) (a : AckRecord) (rs : List AckRecord), s.gates = true ∧ s.frozen = false ∧ f.dst = s.get Reg.ROUTE_NODE_NODE ∧ f.ftype = 4 ∧ f.cut = false ∧
    s.intake n.val f = true ∧ ackRecords f.payload = a :: rs ∧ (∀ (r : AckRecord), r ∈ rs → r.v = false) ∧ a.v = true ∧ ((s.taken n.val f).capable n.val 0 = true ∨ a.nr = 0) ∧ (s.taken
    n.val f).ackValid f.src a = false) ∧
    (∃ (s : State) (n : OpId) (f : Frame) (a : AckRecord) (rs : List AckRecord), s.gates = true ∧ s.frozen = false ∧ f.dst = s.get Reg.ROUTE_NODE_NODE ∧ f.ftype = 4 ∧ f.cut = false ∧
    s.intake n.val f = true ∧ ackRecords f.payload = a :: rs ∧ (∀ (r : AckRecord), r ∈ rs → r.v = false) ∧ a.v = true ∧ ((s.taken n.val f).capable n.val 0 = true ∨ a.nr = 0) ∧ (s.taken
    n.val f).ackValid f.src a = true ∧ behind (seqMod ((s.taken n.val f).ctxAt a.sid).brynn) a.cum ((s.taken n.val f).ctxAt a.sid).acked = true) ∧
    (∃ (s : State) (n : OpId) (f : Frame) (a : AckRecord) (rs : List AckRecord), s.gates = true ∧ s.frozen = false ∧ f.dst = s.get Reg.ROUTE_NODE_NODE ∧ f.ftype = 4 ∧ f.cut = false ∧
    s.intake n.val f = true ∧ ackRecords f.payload = a :: rs ∧ (∀ (r : AckRecord), r ∈ rs → r.v = false) ∧ a.v = true ∧ ((s.taken n.val f).capable n.val 0 = true ∨ a.nr = 0) ∧ (s.taken
    n.val f).ackValid f.src a = true ∧ behind (seqMod ((s.taken n.val f).ctxAt a.sid).brynn) a.cum ((s.taken n.val f).ctxAt a.sid).acked = false ∧ (s.taken n.val f).warm = false ∧ ((s.taken
    n.val f).ctxAt a.sid).state = 1) ∧
    (∃ (s : State) (n : OpId) (f : Frame) (a : AckRecord) (rs : List AckRecord), s.gates = true ∧ s.frozen = false ∧ f.dst = s.get Reg.ROUTE_NODE_NODE ∧ f.ftype = 4 ∧ f.cut = false ∧
    s.intake n.val f = true ∧ ackRecords f.payload = a :: rs ∧ (∀ (r : AckRecord), r ∈ rs → r.v = false) ∧ a.v = true ∧ ((s.taken n.val f).capable n.val 0 = true ∨ a.nr = 0) ∧ (s.taken
    n.val f).ackValid f.src a = true ∧ behind (seqMod ((s.taken n.val f).ctxAt a.sid).brynn) a.cum ((s.taken n.val f).ctxAt a.sid).acked = false ∧ (s.taken n.val f).warm = false ∧ ((s.taken
    n.val f).ctxAt a.sid).state = 2 ∧ (∀ (x : Unacked), x ∈ ((s.taken n.val f).ctxAt a.sid).unack → behind (seqMod ((s.taken n.val f).ctxAt a.sid).brynn) x.seq a.cum = true) ∧ (s.taken
    n.val f).keep.mgmtOn = true) ∧
    (∃ (s : State) (n : OpId) (f : Frame) (a : AckRecord) (rs : List AckRecord), s.gates = true ∧ s.frozen = false ∧ f.dst = s.get Reg.ROUTE_NODE_NODE ∧ f.ftype = 4 ∧ f.cut = false ∧
    s.intake n.val f = true ∧ ackRecords f.payload = a :: rs ∧ (∀ (r : AckRecord), r ∈ rs → r.v = false) ∧ a.v = true ∧ ((s.taken n.val f).capable n.val 0 = true ∨ a.nr = 0) ∧ (s.taken
    n.val f).ackValid f.src a = true ∧ behind (seqMod ((s.taken n.val f).ctxAt a.sid).brynn) a.cum ((s.taken n.val f).ctxAt a.sid).acked = false ∧ (s.taken n.val f).warm = false ∧ ((s.taken
    n.val f).ctxAt a.sid).state = 3 ∧ (∀ (x : Unacked), x ∈ ((s.taken n.val f).ctxAt a.sid).unack → behind (seqMod ((s.taken n.val f).ctxAt a.sid).brynn) x.seq a.cum = true)) ∧
    (∃ (s : State) (sid port : Nat) (dl : Bool) (u : State), s.gates = true ∧ s.frozen = false ∧ s.strm.due = [sid] ∧ (∀ (e : Nat × Chan), e ∈ s.strm.chans → e.snd.due = false) ∧
    s.pickRoute (s.ctxAt sid).peerNode 0 false = (some (port, dl), u)) ∧
    (∃ (s : State), s.gates = true ∧ s.frozen = false ∧ s.strm.due = [] ∧ (∀ (e : Nat × Chan), e ∈ s.strm.chans → e.snd.due = false)) ∧
    (∃ (s : State) (sid port : Nat) (dl : Bool) (v : State) (u : Unacked) (f : Frame), s.gates = true ∧ s.frozen = false ∧ (s.ctxAt sid).recv = false ∧ (s.ctxAt sid).state ∈ [1, 2, 3] ∧
    (s.ctxAt sid).unack = [u] ∧ u.ranged = false ∧ u.slot < 4096 ∧ u.master ≠ 24 ∧ tget none (s.opAt u.port).pantry u.slot = some f ∧ s.pickRoute (s.ctxAt sid).peerNode (s.ctxAt
    sid).peerSid false = (some (port, dl), v) ∧ (∀ (q : QReq), q ∈ (s.point (1 + port)).waiting → QReq.ofSlot u.port u.slot q = false) ∧ (∀ (q : QReq), q ∈ (s.point 0).waiting → QReq.enters
    u.port u.slot q = false)) ∧
    (∃ (s : State) (node port : Nat) (dl : Bool) (v : State), s.gates = true ∧ s.frozen = false ∧ (s.chanAt (2 * node)).unack = [] ∧ s.strm.resetOwed.contains node = true ∧ s.pickRoute node
    0 false = (some (port, dl), v)) ∧
    (∃ (s : State) (sid : Nat) (u : Unacked), s.gates = true ∧ s.frozen = false ∧ s.get Reg.STRM_CFG_REPLAY_LIM ≠ 0 ∧ u ∈ (s.ctxAt sid).unack ∧ u.ranged = false ∧ s.get
    Reg.STRM_CFG_REPLAY_LIM ≤ u.replays ∧ sid < 2097152 ∧ s.keep.mgmtOn = true) :=
  ⟨⟨wSend id, 3, wAck 20, wAckRec 20, [wNoRec], by decide +kernel⟩,
   ⟨wSend fun c => { c with acked := 6 }, 3, wAck 5, wAckRec 5, [wNoRec], by decide +kernel⟩,
   ⟨wSend id, 3, wAck 6, wAckRec 6, [wNoRec], by decide +kernel⟩,
   ⟨wSend fun c => { c with state := 2 }, 3, wAck 7, wAckRec 7, [wNoRec], by decide +kernel⟩,
   ⟨wSend fun c => { c with state := 3 }, 3, wAck 7, wAckRec 7, [wNoRec], by decide +kernel⟩,
   ⟨(wPort.onCtx 9 (fun c => { c with state := 1, peerNode := 7, seq := 5, acked := 4, unack := [⟨4, 3, 17, 3, 2, 2, 1, false⟩] })) |>.onStrm (fun m => { m with due := [9] }), 9, 3, false, (wPort.onCtx 9 (fun c => { c with state := 1, peerNode := 7, seq := 5, acked := 4, unack := [⟨4, 3, 17, 3, 2, 2, 1, false⟩] })) |>.onStrm (fun m => { m with due := [9] }), by decide +kernel⟩,
   ⟨(wPort.onCtx 9 (fun c => { c with state := 1, peerNode := 7, seq := 5, acked := 4, unack := [⟨4, 3, 17, 3, 2, 2, 1, false⟩] })), by decide +kernel⟩,
   ⟨(wSend fun c => { c with unack := [⟨6, 3, 6, 3, 2, 2, 0, false⟩] }).onOp 3 fun o => { o with pantry := [(6, some wFrame)] }, 9, 3, false, ((wSend fun c => { c with unack := [⟨6, 3, 6, 3, 2, 2, 0, false⟩] }).onOp 3 fun o => { o with pantry := [(6, some wFrame)] }), ⟨6, 3, 6, 3, 2, 2, 0, false⟩, wFrame, by decide +kernel⟩,
   ⟨(wPort.onCtx 9 (fun c => { c with state := 1, peerNode := 7, seq := 5, acked := 4, unack := [⟨4, 3, 17, 3, 2, 2, 1, false⟩] })) |>.onStrm (fun m => { m with resetOwed := [7] }), 7, 3, false, (wPort.onCtx 9 (fun c => { c with state := 1, peerNode := 7, seq := 5, acked := 4, unack := [⟨4, 3, 17, 3, 2, 2, 1, false⟩] })) |>.onStrm (fun m => { m with resetOwed := [7] }), by decide +kernel⟩,
   ⟨(wPort.onCtx 9 (fun c => { c with state := 1, peerNode := 7, seq := 5, acked := 4, unack := [⟨4, 3, 17, 3, 2, 2, 1, false⟩] })) |>.put Reg.STRM_CFG_REPLAY_LIM 1, 9, (⟨4, 3, 17, 3, 2, 2, 1, false⟩ : Unacked), by decide +kernel⟩⟩

theorem witness_CellarReadsAndWrites :
    (∃ (s : State) (part : PartId) (off : Nat), s.cellOpen part.val = true ∧ s.cellLocked off = true ∧ (List.filter (fun (x : CellReq) => x.part == part.val) s.mgmt.cellWait).length < 64) ∧
    (∃ (s : State) (part : PartId) (off len : Nat) (env : CellEnv), s.cellOpen part.val = true ∧ s.cellLocked off = false ∧ cellRange off len = true ∧ bitOf (s.get Reg.CELL_USER_EN_PART)
    part.val = true ∧ ¬pageOf (userBase + off) ∈ s.nv.tornUser ∧ ¬pageOf (userBase + off) ∈ env.ue ∧ ¬pageOf (userBase + off) ∈ s.nv.lost) ∧
    (∃ (s : State) (part : PartId) (off len : Nat), s.cellOpen part.val = true ∧ s.cellLocked off = false ∧ cellRange off len = false) ∧
    (∃ (s : State) (part : PartId) (off len : Nat), s.cellOpen part.val = true ∧ s.cellLocked off = false ∧ cellRange off len = true ∧ bitOf (s.get Reg.CELL_USER_EN_PART) part.val = false) ∧
    (∃ (s : State) (part : PartId) (off len : Nat), s.cellOpen part.val = true ∧ s.cellLocked off = false ∧ cellRange off len = true ∧ bitOf (s.get Reg.CELL_USER_EN_PART) part.val = true ∧
    pageOf (userBase + off) ∈ s.nv.tornUser) ∧
    (∃ (s : State) (part : PartId) (off len : Nat) (env : CellEnv), s.cellOpen part.val = true ∧ s.cellLocked off = false ∧ cellRange off len = true ∧ bitOf (s.get Reg.CELL_USER_EN_PART)
    part.val = true ∧ ¬pageOf (userBase + off) ∈ s.nv.tornUser ∧ pageOf (userBase + off) ∈ env.ue) ∧
    (∃ (s : State) (part : PartId) (off : Nat) (bytes : List Byte) (env : CellEnv), s.cellOpen part.val = true ∧ s.cellLocked off = false ∧ cellRange off bytes.length = true ∧ bitOf (s.get
    Reg.CELL_USER_EN_PART) part.val = true ∧ s.get Reg.CELL_CFG_USER_WP = 0 ∧ s.get Reg.CELL_STAT_WIN = 1 ∧ env.winCloses ≠ some 0 ∧ env.cut = false ∧ (bytes.length = 4096 ∨ ¬pageOf (userBase + off) ∈
    s.nv.tornUser ∧ ¬pageOf (userBase + off) ∈ env.ue ∧ ¬pageOf (userBase + off) ∈ s.nv.lost) ∧ (s.retires env (pageOf (userBase + off)) = false ∨ 0 < s.nv.spareFree)) ∧
    (∃ (s : State) (part : PartId) (off : Nat) (bytes : List Byte) (env : CellEnv), s.cellOpen part.val = true ∧ s.cellLocked off = false ∧ cellRange off bytes.length = true ∧ bitOf (s.get
    Reg.CELL_USER_EN_PART) part.val = true ∧ s.get Reg.CELL_CFG_USER_WP = 0 ∧ s.get Reg.CELL_STAT_WIN = 1 ∧ env.winCloses ≠ some 0 ∧ env.cut = true ∧ bytes.length = 4096 ∧
    (s.retires env (pageOf (userBase + off)) = false ∨ 0 < s.nv.spareFree)) ∧
    (∃ (s : State) (part : PartId) (off : Nat) (bytes : List Byte), s.cellOpen part.val = true ∧ s.cellLocked off = false ∧ cellRange off bytes.length = true ∧ bitOf (s.get
    Reg.CELL_USER_EN_PART) part.val = true ∧ s.get Reg.CELL_CFG_USER_WP = 0 ∧ s.get Reg.CELL_STAT_WIN = 0) ∧
    (∃ (s : State) (part : PartId) (off : Nat) (bytes : List Byte) (env : CellEnv), s.cellOpen part.val = true ∧ s.cellLocked off = false ∧ cellRange off bytes.length = true ∧ bitOf (s.get
    Reg.CELL_USER_EN_PART) part.val = true ∧ s.get Reg.CELL_CFG_USER_WP = 0 ∧ s.get Reg.CELL_STAT_WIN = 1 ∧ env.winCloses ≠ some 0 ∧ bytes.length = 4096 ∧ s.retires env (pageOf (userBase +
    off)) = true ∧ s.nv.spareFree = 0) :=
  ⟨⟨wRun.onMgmt fun m => { m with wl := some (0, 5, wRun.nv.extentOf (pageOf userBase)) }, 6, 0, by decide +kernel⟩,
   ⟨wRun |>.put Reg.CELL_USER_EN_PART (2 ^ (6 : PartId).val), 6, 0x1000, 64, ({} : CellEnv), by decide +kernel⟩,
   ⟨wRun, 6, 0x1000, 65, by decide +kernel⟩,
   ⟨wRun, 6, 0x1000, 64, by decide +kernel⟩,
   ⟨wRun |>.put Reg.CELL_USER_EN_PART (2 ^ (6 : PartId).val) |>.onNv (fun v => { v with tornUser := [0x510001] }), 6, 0x1000, 64, by decide +kernel⟩,
   ⟨wRun |>.put Reg.CELL_USER_EN_PART (2 ^ (6 : PartId).val), 6, 0x1000, 64, { ue := [0x510001] }, by decide +kernel⟩,
   ⟨wRun |>.put Reg.CELL_USER_EN_PART (2 ^ (6 : PartId).val), 6, 0x1000, List.replicate 64 1, { retire := [0x510001] }, by decide +kernel⟩,
   ⟨wRun |>.put Reg.CELL_USER_EN_PART (2 ^ (6 : PartId).val), 6, 0x1000, List.replicate 4096 1, { cut := true, retire := [0x510001] }, by decide +kernel⟩,
   ⟨wRun |>.put Reg.CELL_USER_EN_PART (2 ^ (6 : PartId).val) |>.put Reg.CELL_STAT_WIN (0), 6, 0x1000, List.replicate 64 1, by decide +kernel⟩,
   ⟨wRun |>.put Reg.CELL_USER_EN_PART (2 ^ (6 : PartId).val) |>.onNv (fun m => { m with factory := 1024000 }), 6, 0x1000, List.replicate 4096 1, { retire := [0x510001] }, by decide +kernel⟩⟩

theorem witness_ClimbFromDarkToRun :
    (∃ (s : State), s.get Reg.PWR_STAT_OFF_PEND = 0 ∧ s.keep.trapStop = false ∧ s.atStep 11 = true ∧ s.climbsPast s.power = true ∧ (∀ (m : Nat), m < 4 → (s.ecsAt m).lolMask = false ∧
    s.combBit Reg.COMB_STAT_FAILED m = false)) ∧
    (∃ (s : State) (unlocked : List RingId), s.get Reg.PWR_STAT_OFF_PEND = 0 ∧ s.keep.trapStop = false ∧ s.atStep 12 = true ∧ s.mgmt.sweep = [] ∧ s.climbsPast s.power = true ∧
    s.rings.sorted = true ∧ s.loneSweeps unlocked = []) ∧
    (∃ (s : State) (unlocked : List RingId), s.get Reg.PWR_STAT_OFF_PEND = 0 ∧ s.keep.trapStop = false ∧ s.atStep 12 = true ∧ s.mgmt.sweep = [] ∧ s.loneSweeps unlocked ≠ []) ∧
    (∃ (s : State), s.get Reg.PWR_STAT_OFF_PEND = 0 ∧ s.keep.trapStop = false ∧ s.atStep 13 = true ∧ s.climbTarget = 4) ∧
    (∃ (s : State), s.get Reg.PWR_STAT_OFF_PEND = 0 ∧ s.keep.trapStop = false ∧ s.atStep 13 = true ∧ s.climbTarget = 3) ∧
    (∃ (s : State), s.get Reg.PWR_STAT_OFF_PEND = 0 ∧ s.keep.trapStop = false ∧ s.atStep 14 = true ∧ s.climbTarget = 4) :=
  ⟨⟨(wStep 2 11), by decide +kernel⟩,
   ⟨wStep 2 12, [], by decide +kernel⟩,
   ⟨((wStep 2 12).put (Reg.LAM_STAT_WARM 3) 1).onRing 3 false 6 fun r => { r with slot := 7 }, [⟨3, false, 6⟩], by decide +kernel⟩,
   ⟨(wStep 2 13), by decide +kernel⟩,
   ⟨(wStep 2 13) |>.put Reg.PWR_TGT_STATE 3, by decide +kernel⟩,
   ⟨(wStep 3 14), by decide +kernel⟩⟩

theorem witness_ClimbFromKeepToMgmt :
    (∃ (s : State), s.atStep 1 = true ∧ s.climbsPast s.power = true) ∧
    (∃ (s : State) (good : RailMask), s.atStep 1 = true ∧ good ≠ 31 ∧ s.get Reg.PWR_STAT_OFF_PEND = 0) ∧
    (∃ (s : State), s.atStep 3 = true ∧ s.climbsPast s.power = true) ∧
    (∃ (s : State), s.atStep 4 = true ∧ s.climbsPast s.power = true) ∧
    (∃ (s : State), s.atStep 5 = true ∧ s.climbsPast 1 = true ∧ ¬(s.get Reg.KEEP_STRAP_CHAIN_FIRST = 1 ∧ s.get Reg.KEEP_STRAP_BOOT_SRC = 1) ∧ s.get Reg.KEEP_STRAP_CHAIN_FIRST < 2) ∧
    (∃ (s : State), s.atStep 5 = true ∧ s.get Reg.PWR_STAT_OFF_PEND = 0 ∧ s.keep.trapStop = false ∧ 1 ≤ s.get Reg.PWR_TGT_STATE ∧ s.get Reg.KEEP_STRAP_CHAIN_FIRST = 1 ∧ s.get
    Reg.KEEP_STRAP_BOOT_SRC = 1) :=
  ⟨⟨(wStep 0 1), by decide +kernel⟩,
   ⟨(wStep 0 1), 5, by decide +kernel⟩,
   ⟨(wStep 0 3) |>.put Reg.KEEP_STRAP_LEGACY_BRN (1), by decide +kernel⟩,
   ⟨(wStep 0 4), by decide +kernel⟩,
   ⟨(wStep 0 5), by decide +kernel⟩,
   ⟨(wStep 0 5) |>.put Reg.KEEP_STRAP_CHAIN_FIRST (1) |>.put Reg.KEEP_STRAP_BOOT_SRC (1), by decide +kernel⟩⟩

theorem witness_ClimbFromMgmtToDark :
    (∃ (s : State), s.atStep 6 = true ∧ s.climbsPast s.power = true) ∧
    (∃ (s : State) (env : CellEnv), s.atStep 7 = true ∧ s.cellClocked = true ∧ s.climbsPast s.power = true ∧ env.mountFails = false ∧ env.bootFails = false ∧ s.get Reg.CELL_STAT_WIN = 1) ∧
    (∃ (s : State) (env : CellEnv), s.atStep 7 = true ∧ s.cellClocked = true ∧ s.climbsPast s.power = true ∧ env.mountFails = false ∧ s.get Reg.CELL_STAT_WIN = 0) ∧
    (∃ (s : State) (env : CellEnv), s.atStep 7 = true ∧ s.cellClocked = true ∧ s.get Reg.PWR_STAT_OFF_PEND = 0 ∧ env.mountFails = true ∧ s.get Reg.CELL_STAT_MOUNTED = 0) ∧
    (∃ (s : State) (env : CellEnv) (slot : Nat), s.atStep 8 = true ∧ s.cellClocked = true ∧ s.climbsPast s.power = true ∧ (s.fwUe 0 env = none ∧ s.fwGood 0 = true ∧ slot = 0 ∨ s.fwUe 0 env
    = none ∧ s.fwGood 0 = false ∧ s.fwUe 1 env = none ∧ s.fwGood 1 = true ∧ slot = 1)) ∧
    (∃ (s : State) (env : CellEnv) (p : Nat), s.atStep 8 = true ∧ s.cellClocked = true ∧ s.climbsPast s.power = true ∧ s.fwUe 0 env = some p ∧ (tget { } s.nv.loft 0).committed = true ∧
    s.fwUe 1 env = none ∧ s.fwGood 1 = true ∧ s.faultTrap = 0 ∧ s.get Reg.FAULT_STAT_PARITY = 0 ∧ s.keep.inTrap = false) ∧
    (∃ (s : State) (env : CellEnv), s.atStep 8 = true ∧ s.cellClocked = true ∧ s.get Reg.PWR_STAT_OFF_PEND = 0 ∧ (s.fwUe 0 env ≠ none ∨ s.fwGood 0 = false) ∧ (s.fwUe 1 env ≠ none ∨ s.fwGood
    1 = false)) ∧
    (∃ (s : State), s.atStep 9 = true ∧ s.climbsPast 2 = true) :=
  ⟨⟨(wStep 1 6), by decide +kernel⟩,
   ⟨(wStep 1 7) |>.put Reg.CELL_STAT_WIN (1), ({} : CellEnv), by decide +kernel⟩,
   ⟨(wStep 1 7), ({} : CellEnv), by decide +kernel⟩,
   ⟨(wStep 1 7), { mountFails := true }, by decide +kernel⟩,
   ⟨(wStep 1 8) |>.onNv (fun v => { v with loft := [(0, { committed := true, digest := toBytes (sha256 []) })] }), ({} : CellEnv), 0, by decide +kernel⟩,
   ⟨((((wStep 1 8).put Reg.FAULT_TRAP_LO_EN 0).put Reg.FAULT_TRAP_HI_EN 0).onNv fun v => { v with loft := [(0, { committed := true, len := 4, digest := [] }), (1, { committed := true, len := 0, digest := toBytes (sha256 []) })] }), { ue := [0] }, 0, by decide +kernel⟩,
   ⟨(wStep 1 8), ({} : CellEnv), by decide +kernel⟩,
   ⟨(wStep 1 9), by decide +kernel⟩⟩

theorem witness_CombLightAndTheSpareModule :
    (∃ (s : State) (i : CombId), s.keep.mgmtOn = true ∧ (s.ecsAt i.val).lolMask = false ∧ i.val < 4 ∧ s.get Reg.COMB_CTL_AUTO_SW = 1 ∧ s.combsFree = true) ∧
    (∃ (s : State) (i : CombId), s.keep.mgmtOn = true ∧ (s.ecsAt i.val).lolMask = false ∧ i.val < 4 ∧ s.get Reg.COMB_CTL_AUTO_SW = 1 ∧ s.combsFree = false ∧ s.onCombs i.val = false) ∧
    (∃ (s : State) (i : CombId) (p : Path) (v : Word), s.keep.mgmtOn = true ∧ s.writable p 49220 (BitVec.toNat v) = true ∧ bitOf (BitVec.toNat v) (5 + i.val) = true ∧ (s.ecsAt
    i.val).lolMask = true) ∧
    (∃ (s : State) (i : CombId), s.keep.mgmtOn = true ∧ (s.ecsAt i.val).en = true ∧ s.combBit Reg.COMB_STAT_FAILED i.val = false ∧ ((s.ecsAt i.val).queue.any fun (x : EcsTxn) => !x.sw) =
    false) ∧
    (∃ (s : State) (i : CombId), s.keep.mgmtOn = true ∧ ((s.ecsAt i.val).en = false ∨ s.combBit Reg.COMB_STAT_FAILED i.val = true)) ∧
    (∃ (s : State) (i : CombId) (resp : EcsResponse) (xs : List EcsTxn), s.keep.mgmtOn = true ∧ (s.ecsAt i.val).queue = { write := false, addr := 1, data := 0, sw := false } :: xs ∧
    ecsRetryable resp = false ∧ resp.status = 0 ∧ bitOf resp.rdata.toNat 2 = true ∧ s.combBit Reg.COMB_STAT_LIT i.val = true ∧ s.combBit Reg.COMB_STAT_LOL i.val = false ∧ s.get
    Reg.COMB_CTL_FAULT_SW = 0) :=
  ⟨⟨wRun |>.put Reg.COMB_STAT_LIT 16, 1, by decide +kernel⟩,
   ⟨wRun, 1, by decide +kernel⟩,
   ⟨wRun |>.onEcs (1 : CombId).val (fun m => { m with lolMask := true }), 1, Path.msp, 64, by decide +kernel⟩,
   ⟨wRun |>.onEcs (1 : CombId).val (fun m => { m with en := true }), 1, by decide +kernel⟩,
   ⟨wRun |>.put Reg.COMB_STAT_LIT 16, 1, by decide +kernel⟩,
   ⟨((((wRun.put Reg.COMB_STAT_LIT 15).put Reg.COMB_CTL_FAULT_SW 0).onEcs 2 fun e => { e with en := true, queue := [⟨false, 1, 0, false⟩] })), 2, wGood 4, [], by decide +kernel⟩⟩

theorem witness_CombTransactions :
    (∃ (s : State) (p : Path) (v : Word), s.writable p 49264 (BitVec.toNat v) = true ∧ bitOf (BitVec.toNat v) 31 = true ∧ s.get Reg.COMB_ECS_REQ_GO = 0 ∧ (s.ecsAt (BitVec.toNat v %
    8)).queue = [] ∧ s.combBit Reg.COMB_STAT_FAILED (BitVec.toNat v % 8) = false) ∧
    (∃ (s : State) (m : CombId) (resp : EcsResponse) (x : EcsTxn) (xs : List EcsTxn), (s.ecsAt m.val).queue = x :: xs ∧ x.sw = true ∧ ecsRetryable resp = false) ∧
    (∃ (s : State) (m : CombId) (resp : EcsResponse) (x : EcsTxn) (xs : List EcsTxn), (s.ecsAt m.val).queue = x :: xs ∧ x.sw = false ∧ ecsRetryable resp = false ∧ (resp.status ≠ 0 ∨ x.addr
    ≠ 1 ∨ bitOf resp.rdata.toNat 2 = false)) ∧
    (∃ (s : State) (m : CombId) (resp : EcsResponse) (x y : EcsTxn) (ys : List EcsTxn), (s.ecsAt m.val).queue = x :: y :: ys ∧ (x = { write := false, addr := 3, data := 0, sw := false } ∨
    x.sw = true) ∧ ecsRetryable resp = false ∧ s.combBit Reg.COMB_STAT_FAILED m.val = false) ∧
    (∃ (s : State) (m : CombId) (resp : EcsResponse), (s.ecsAt m.val).queue ≠ [] ∧ ecsRetryable resp = true ∧ (s.ecsAt m.val).attempts < 3) ∧
    (∃ (s : State) (m : CombId) (resp : EcsResponse) (x : EcsTxn) (xs : List EcsTxn), (s.ecsAt m.val).queue = x :: xs ∧ ecsRetryable resp = true ∧ 3 ≤ (s.ecsAt m.val).attempts) ∧
    (∃ (s : State) (m : CombId) (x : EcsTxn) (xs : List EcsTxn), (s.ecsAt m.val).queue = x :: xs ∧ s.combBit Reg.COMB_STAT_FAILED m.val = false ∧ (s.ecsAt m.val).attempts < 3) ∧
    (∃ (s : State) (p : Path) (v : Word), s.writable p 49220 (BitVec.toNat v) = true) :=
  ⟨⟨wRun, Path.msp, 2 ^ 31 + 1, by decide +kernel⟩,
   ⟨wRun |>.onEcs 1 (fun e => { e with queue := [⟨false, 4, 9, true⟩], attempts := 0 }), 1, (⟨0, 7, BitVec.ofNat 8 (crc8 [0, 0, 7])⟩ : EcsResponse), (⟨false, 4, 9, true⟩ : EcsTxn), ([] : List EcsTxn), by decide +kernel⟩,
   ⟨wRun |>.onEcs 1 (fun e => { e with queue := [⟨false, 4, 9, false⟩], attempts := 0 }), 1, (⟨0, 7, BitVec.ofNat 8 (crc8 [0, 0, 7])⟩ : EcsResponse), (⟨false, 4, 9, false⟩ : EcsTxn), ([] : List EcsTxn), by decide +kernel⟩,
   ⟨(((wRun.put Reg.COMB_STAT_LIT 15).onEcs 2 fun e => { e with en := true, queue := [⟨false, 3, 0, false⟩, ⟨false, 1, 0, false⟩] })), 2, wGood 900, ⟨false, 3, 0, false⟩, ⟨false, 1, 0, false⟩, [], by decide +kernel⟩,
   ⟨wRun |>.onEcs 1 (fun e => { e with queue := [⟨false, 4, 9, true⟩], attempts := 0 }), 1, (⟨1, 0, 0⟩ : EcsResponse), by decide +kernel⟩,
   ⟨wRun |>.onEcs 1 (fun e => { e with queue := [⟨false, 4, 9, true⟩], attempts := 3 }), 1, (⟨1, 0, 0⟩ : EcsResponse), (⟨false, 4, 9, true⟩ : EcsTxn), ([] : List EcsTxn), by decide +kernel⟩,
   ⟨wRun |>.onEcs 1 (fun e => { e with queue := [⟨false, 4, 9, true⟩], attempts := 0 }), 1, (⟨false, 4, 9, true⟩ : EcsTxn), ([] : List EcsTxn), by decide +kernel⟩,
   ⟨wRun, Path.msp, 2 ^ 31 + 1, by decide +kernel⟩⟩

/-- Its clause of a full reorder store. -/
theorem wHeld_meets (b : List Byte) (hb : 262144 * 64 ≤ b.length) :
    ∃ (s : State) (n : OpId) (f : Frame), f.dst = s.get Reg.ROUTE_NODE_NODE ∧ f.ftype = 0 ∧ f.cut = false ∧ s.intake n.val f = true ∧ ((s.taken n.val f).ctxAt f.dsid).recv = true ∧
    ((s.taken n.val f).ctxAt f.dsid).state = 1 ∧ ((s.taken n.val f).ctxAt f.dsid).peerNode = f.src ∧ (s.taken n.val f).held ((s.taken n.val f).ctxAt f.dsid).module = false ∧ ((s.taken n.val
    f).ctxAt f.dsid).resume = 0 ∧ (s.taken n.val f).feedOf f.dsid = none ∧ 1 ≤ (f.seq + seqMod ((s.taken n.val f).ctxAt f.dsid).brynn - ((s.taken n.val f).ctxAt f.dsid).seq) % seqMod
    ((s.taken n.val f).ctxAt f.dsid).brynn ∧ (f.seq + seqMod ((s.taken n.val f).ctxAt f.dsid).brynn - ((s.taken n.val f).ctxAt f.dsid).seq) % seqMod ((s.taken n.val f).ctxAt f.dsid).brynn ≤
    4095 ∧ (s.taken n.val f).selective ((s.taken n.val f).ctxAt f.dsid) = true ∧ (∀ (h : Nat × List Byte), h ∈ ((s.taken n.val f).ctxAt f.dsid).held → h.fst ≠ f.seq) ∧ 262144 < (s.taken
    n.val f).robUsed + f.payload.length / 64 := by
  obtain ⟨o, e⟩ := taken_plain (wHeld_intake b) rfl
  refine ⟨wHeld b, 3, wAhead, by rw [wHeld, get_strm]; decide +kernel, rfl, rfl, wHeld_intake b, ?_⟩
  rw [show (wHeld b).taken (3 : OpId).val wAhead = { wHeld b with op := o } from e]
  refine ⟨rfl, rfl, rfl, (held_op _ _ _).trans ((held_strm _ _ _).trans (show State.held _ 0 = false by decide +kernel)), rfl,
    (feedOf_op _ _ _).trans ((feedOf_strm _ _ _).trans (show State.feedOf _ 9 = none by decide +kernel)),
    show 1 ≤ (7 + seqMod false - 5) % seqMod false by decide, show (7 + seqMod false - 5) % seqMod false ≤ 4095 by decide, ?_, ?_, ?_⟩
  · rw [selective_op, wHeld, selective_strm]
    show (true && !false && (wPort.put Reg.STRM_CFG_ROB_EN 1).bit Reg.STRM_CFG_ROB_EN) = true
    decide +kernel
  · intro h hh
    rw [show h = (9, b) from List.mem_singleton.mp hh]
    show 9 ≠ 7
    decide
  · show 262144 < 0 + b.length / 64 + 64 / 64
    omega

theorem witness_DataMeetsItsContext :
    (∃ (s : State) (n : OpId) (f : Frame), f.dst = s.get Reg.ROUTE_NODE_NODE ∧ f.ftype = 0 ∧ f.cut = false ∧ s.intake n.val f = true ∧ f.ackV = false) ∧
    (∃ (s : State) (n : OpId) (f : Frame), f.dst = s.get Reg.ROUTE_NODE_NODE ∧ f.ftype = 0 ∧ f.cut = false ∧ s.intake n.val f = true ∧ (((s.taken n.val f).ctxAt f.dsid).recv = false ∨
    ((s.taken n.val f).ctxAt f.dsid).state ≠ 1 ∨ ((s.taken n.val f).ctxAt f.dsid).peerNode ≠ f.src)) ∧
    (∃ (s : State) (n : OpId) (f : Frame), f.dst = s.get Reg.ROUTE_NODE_NODE ∧ f.ftype = 0 ∧ f.cut = false ∧ s.intake n.val f = true ∧ ((s.taken n.val f).ctxAt f.dsid).recv = true ∧
    ((s.taken n.val f).ctxAt f.dsid).state = 1 ∧ ((s.taken n.val f).ctxAt f.dsid).peerNode = f.src ∧ (s.taken n.val f).held ((s.taken n.val f).ctxAt f.dsid).module = false ∧ ((s.taken n.val
    f).ctxAt f.dsid).resume = 0 ∧ (s.taken n.val f).feedOf f.dsid = none ∧ (f.seq + seqMod ((s.taken n.val f).ctxAt f.dsid).brynn - ((s.taken n.val f).ctxAt f.dsid).seq) % seqMod ((s.taken
    n.val f).ctxAt f.dsid).brynn = 0 ∧ ((s.taken n.val f).ctxAt f.dsid).held = []) ∧
    (∃ (s : State) (n : OpId) (f : Frame) (p : List Byte), f.dst = s.get Reg.ROUTE_NODE_NODE ∧ f.ftype = 0 ∧ f.cut = false ∧ s.intake n.val f = true ∧ ((s.taken n.val f).ctxAt f.dsid).recv
    = true ∧ ((s.taken n.val f).ctxAt f.dsid).state = 1 ∧ ((s.taken n.val f).ctxAt f.dsid).peerNode = f.src ∧ (s.taken n.val f).held ((s.taken n.val f).ctxAt f.dsid).module = false ∧
    ((s.taken n.val f).ctxAt f.dsid).resume = 0 ∧ (s.taken n.val f).feedOf f.dsid = none ∧ (f.seq + seqMod ((s.taken n.val f).ctxAt f.dsid).brynn - ((s.taken n.val f).ctxAt f.dsid).seq) %
    seqMod ((s.taken n.val f).ctxAt f.dsid).brynn = 0 ∧ ((s.taken n.val f).ctxAt f.dsid).held = [((((s.taken n.val f).ctxAt f.dsid).seq + 1) % seqMod ((s.taken n.val f).ctxAt f.dsid).brynn,
    p)]) ∧
    (∃ (s : State) (n : OpId) (f : Frame), f.dst = s.get Reg.ROUTE_NODE_NODE ∧ f.ftype = 0 ∧ f.cut = false ∧ s.intake n.val f = true ∧ ((s.taken n.val f).ctxAt f.dsid).recv = true ∧
    ((s.taken n.val f).ctxAt f.dsid).state = 1 ∧ ((s.taken n.val f).ctxAt f.dsid).peerNode = f.src ∧ (s.taken n.val f).held ((s.taken n.val f).ctxAt f.dsid).module = false ∧ ((s.taken n.val
    f).ctxAt f.dsid).resume = 0 ∧ (s.taken n.val f).feedOf f.dsid = none ∧ 1 ≤ (f.seq + seqMod ((s.taken n.val f).ctxAt f.dsid).brynn - ((s.taken n.val f).ctxAt f.dsid).seq) % seqMod
    ((s.taken n.val f).ctxAt f.dsid).brynn ∧ (f.seq + seqMod ((s.taken n.val f).ctxAt f.dsid).brynn - ((s.taken n.val f).ctxAt f.dsid).seq) % seqMod ((s.taken n.val f).ctxAt f.dsid).brynn ≤
    4095 ∧ (s.taken n.val f).selective ((s.taken n.val f).ctxAt f.dsid) = true ∧ (∀ (h : Nat × List Byte), h ∈ ((s.taken n.val f).ctxAt f.dsid).held → h.fst ≠ f.seq) ∧ (s.taken n.val
    f).robUsed + f.payload.length / 64 ≤ 262144) ∧
    (∃ (s : State) (n : OpId) (f : Frame), f.dst = s.get Reg.ROUTE_NODE_NODE ∧ f.ftype = 0 ∧ f.cut = false ∧ s.intake n.val f = true ∧ ((s.taken n.val f).ctxAt f.dsid).recv = true ∧
    ((s.taken n.val f).ctxAt f.dsid).state = 1 ∧ ((s.taken n.val f).ctxAt f.dsid).peerNode = f.src ∧ (s.taken n.val f).held ((s.taken n.val f).ctxAt f.dsid).module = false ∧ ((s.taken n.val
    f).ctxAt f.dsid).resume = 0 ∧ (s.taken n.val f).feedOf f.dsid = none ∧ 1 ≤ (f.seq + seqMod ((s.taken n.val f).ctxAt f.dsid).brynn - ((s.taken n.val f).ctxAt f.dsid).seq) % seqMod
    ((s.taken n.val f).ctxAt f.dsid).brynn ∧ (f.seq + seqMod ((s.taken n.val f).ctxAt f.dsid).brynn - ((s.taken n.val f).ctxAt f.dsid).seq) % seqMod ((s.taken n.val f).ctxAt f.dsid).brynn ≤
    4095 ∧ (s.taken n.val f).selective ((s.taken n.val f).ctxAt f.dsid) = false) ∧
    (∃ (s : State) (n : OpId) (f : Frame), f.dst = s.get Reg.ROUTE_NODE_NODE ∧ f.ftype = 0 ∧ f.cut = false ∧ s.intake n.val f = true ∧ ((s.taken n.val f).ctxAt f.dsid).recv = true ∧
    ((s.taken n.val f).ctxAt f.dsid).state = 1 ∧ ((s.taken n.val f).ctxAt f.dsid).peerNode = f.src ∧ (s.taken n.val f).held ((s.taken n.val f).ctxAt f.dsid).module = false ∧ ((s.taken n.val
    f).ctxAt f.dsid).resume = 0 ∧ (s.taken n.val f).feedOf f.dsid = none ∧ ((1 ≤ (f.seq + seqMod ((s.taken n.val f).ctxAt f.dsid).brynn - ((s.taken n.val f).ctxAt f.dsid).seq) % seqMod
    ((s.taken n.val f).ctxAt f.dsid).brynn ∧ (f.seq + seqMod ((s.taken n.val f).ctxAt f.dsid).brynn - ((s.taken n.val f).ctxAt f.dsid).seq) % seqMod ((s.taken n.val f).ctxAt f.dsid).brynn ≤
    4095 ∧ (s.taken n.val f).selective ((s.taken n.val f).ctxAt f.dsid) = true ∧ ∃ (h : Nat × List Byte), h ∈ ((s.taken n.val f).ctxAt f.dsid).held ∧ h.fst = f.seq) ∨ 4095 < (f.seq + seqMod
    ((s.taken n.val f).ctxAt f.dsid).brynn - ((s.taken n.val f).ctxAt f.dsid).seq) % seqMod ((s.taken n.val f).ctxAt f.dsid).brynn ∧ behind (seqMod ((s.taken n.val f).ctxAt f.dsid).brynn)
    f.seq ((s.taken n.val f).ctxAt f.dsid).seq = true)) ∧
    (∃ (s : State) (n : OpId) (f : Frame), f.dst = s.get Reg.ROUTE_NODE_NODE ∧ f.ftype = 0 ∧ f.cut = false ∧ s.intake n.val f = true ∧ ((s.taken n.val f).ctxAt f.dsid).recv = true ∧
    ((s.taken n.val f).ctxAt f.dsid).state = 1 ∧ ((s.taken n.val f).ctxAt f.dsid).peerNode = f.src ∧ (s.taken n.val f).held ((s.taken n.val f).ctxAt f.dsid).module = false ∧ ((s.taken n.val
    f).ctxAt f.dsid).resume = 0 ∧ (s.taken n.val f).feedOf f.dsid = none ∧ 4095 < (f.seq + seqMod ((s.taken n.val f).ctxAt f.dsid).brynn - ((s.taken n.val f).ctxAt f.dsid).seq) % seqMod
    ((s.taken n.val f).ctxAt f.dsid).brynn ∧ behind (seqMod ((s.taken n.val f).ctxAt f.dsid).brynn) f.seq ((s.taken n.val f).ctxAt f.dsid).seq = false) ∧
    (∃ (s : State) (n : OpId) (f : Frame), f.dst = s.get Reg.ROUTE_NODE_NODE ∧ f.ftype = 0 ∧ f.cut = false ∧ s.intake n.val f = true ∧ ((s.taken n.val f).ctxAt f.dsid).recv = true ∧
    ((s.taken n.val f).ctxAt f.dsid).state = 1 ∧ ((s.taken n.val f).ctxAt f.dsid).peerNode = f.src ∧ (s.taken n.val f).held ((s.taken n.val f).ctxAt f.dsid).module = false ∧ ((s.taken n.val
    f).ctxAt f.dsid).resume = 0 ∧ (s.taken n.val f).feedOf f.dsid = none ∧ 1 ≤ (f.seq + seqMod ((s.taken n.val f).ctxAt f.dsid).brynn - ((s.taken n.val f).ctxAt f.dsid).seq) % seqMod
    ((s.taken n.val f).ctxAt f.dsid).brynn ∧ (f.seq + seqMod ((s.taken n.val f).ctxAt f.dsid).brynn - ((s.taken n.val f).ctxAt f.dsid).seq) % seqMod ((s.taken n.val f).ctxAt f.dsid).brynn ≤
    4095 ∧ (s.taken n.val f).selective ((s.taken n.val f).ctxAt f.dsid) = true ∧ (∀ (h : Nat × List Byte), h ∈ ((s.taken n.val f).ctxAt f.dsid).held → h.fst ≠ f.seq) ∧ 262144 < (s.taken
    n.val f).robUsed + f.payload.length / 64) :=
  ⟨⟨wPort |>.put (Reg.MBOX_ARG_ARG 1) (1) |>.put (Reg.MBOX_ARG_ARG 0) (1) |>.put Reg.COMB_STAT_FAILED (2 ^ 1) |>.put Reg.COMB_STAT_SW_ACTIVE 1 |>.put Reg.COMB_STAT_SW_QUAD 1, 3, wFrame, by decide +kernel⟩,
   ⟨wPort |>.onOp (3 : OpId).val (fun m => { m with swapR := some (⟨1, 6, 6, 33, 0, false⟩ : SwapR) }), 3, wFrame, by decide +kernel⟩,
   ⟨(wTwin 1 3) |>.onCtx 9 (fun c => { c with state := 1, recv := true, peerNode := 7, seq := 5 }) |>.onTwin (fun w => { w with batches := [⟨1, [TwinRec.ctx ⟨9, 1, true, true, 2, 0, false, 7, 1, 5⟩]⟩] }), 3, wFrame, by decide +kernel⟩,
   ⟨wRecv fun c => { c with held := [(6, List.replicate 64 2)] }, 3, wFrame, List.replicate 64 2, by decide +kernel⟩,
   ⟨(wRecv fun c => { c with sel := true }).put Reg.STRM_CFG_ROB_EN 1, 3, wAhead, by decide +kernel⟩,
   ⟨(wPort.onCtx 9 (fun c => { c with state := 1, peerNode := 7 })) |>.onCtx 9 (fun c => { c with recv := true }), 3, wFrame, by decide +kernel⟩,
   ⟨wRecv fun c => { c with seq := 6 }, 3, wFrame, by decide +kernel⟩,
   ⟨wRecv fun c => { c with seq := 10 }, 3, withCrc { wFrame with seq := 9000 }, by decide +kernel⟩,
   wHeld_meets (List.replicate 16777216 0) (Nat.le_of_eq List.length_replicate.symm)⟩

theorem witness_DescriptorsDispatchAndCommitInOrder :
    (∃ (s : State) (q : QueueId) (n : HpId), s.keep.mgmtOn = true ∧ s.keep.domainsOn = true ∧ s.gates = true ∧ s.frozen = false ∧ s.held n.val = false ∧ s.hpIdle n.val = false ∧ bitOf
    (s.get (Reg.TEG_Q_OWN_PORTS q.val)) n.val = false) ∧
    (∃ (s : State) (q : QueueId) (n : HpId) (inl : List Byte), s.keep.mgmtOn = true ∧ s.keep.domainsOn = true ∧ s.gates = true ∧ s.frozen = false ∧ s.held n.val = false ∧ s.hpIdle n.val =
    false ∧ bitOf (s.get (Reg.TEG_Q_OWN_PORTS q.val)) n.val = true ∧ (s.get (Reg.TEG_Q_CFG_EN q.val) = 0 ∨ 4096 ≤ (s.teqAt q.val).slots.length ∨ 4194304 < s.teBuffered + inl.length)) ∧
    (∃ (s : State) (q : QueueId) (n : HpId) (inl : List Byte), s.keep.mgmtOn = true ∧ s.keep.domainsOn = true ∧ s.gates = true ∧ s.frozen = false ∧ s.held n.val = false ∧ s.hpIdle n.val =
    false ∧ bitOf (s.get (Reg.TEG_Q_OWN_PORTS q.val)) n.val = true ∧ s.get (Reg.TEG_Q_CFG_EN q.val) ≠ 0 ∧ (s.teqAt q.val).slots.length < 4096 ∧ s.teBuffered + inl.length ≤ 4194304) ∧
    (∃ (s : State) (q : QueueId) (c : Instr), s.keep.mgmtOn = true ∧ s.keep.domainsOn = true ∧ s.teNext ≠ some q.val ∧ c ∈ [Instr.nop q, Instr.mvm q, Instr.reduce q, Instr.loadw q,
    Instr.freew q]) ∧
    (∃ (s : State) (q : QueueId) (j : Nat), s.keep.mgmtOn = true ∧ s.keep.domainsOn = true ∧ s.teNext = some q.val ∧ j < 64 ∧ s.dispatchable j = true) ∧
    (∃ (s : State) (q : QueueId) (d : Desc), s.keep.mgmtOn = true ∧ s.keep.domainsOn = true ∧ s.teNext = some q.val ∧ (s.teqAt q.val).head = some d ∧ d.ok = true ∧ (s.teqAt
    q.val).inputReady d = true ∧ d.op = 2) ∧
    (∃ (s : State) (q : QueueId) (d : Desc), s.keep.mgmtOn = true ∧ s.keep.domainsOn = true ∧ s.teNext = some q.val ∧ (s.teqAt q.val).head = some d ∧ d.ok = true ∧ (s.teqAt
    q.val).inputReady d = true ∧ d.op = 3) ∧
    (∃ (s : State) (q : QueueId) (d : Desc), s.keep.mgmtOn = true ∧ s.keep.domainsOn = true ∧ s.teNext = some q.val ∧ (s.teqAt q.val).head = some d ∧ d.ok = true ∧ (s.teqAt
    q.val).inputReady d = true ∧ d.op = 4) ∧
    (∃ (s : State) (q : QueueId) (d : Desc), s.keep.mgmtOn = true ∧ s.keep.domainsOn = true ∧ s.teNext = some q.val ∧ (s.teqAt q.val).head = some d ∧ d.ok = true ∧ (s.teqAt
    q.val).inputReady d = true ∧ d.op = 0) ∧
    (∃ (s : State) (q : QueueId) (d : Desc) (code : Nat), s.keep.mgmtOn = true ∧ s.keep.domainsOn = true ∧ s.teNext = some q.val ∧ (s.teqAt q.val).head = some d ∧ d.ok = true ∧ (s.teqAt
    q.val).inputReady d = true ∧ d.op = 1 ∧ (s.teqAt q.val).loading d.setid = false ∧ (s.setWidth d.setid = none ∧ code = 2 ∨ s.setWidth d.setid = some !d.q8 ∧ code = 1 ∨ s.setWidth d.setid
    = some d.q8 ∧ (∀ (t : Nat), t ∈ s.holders d.setid → s.tFigure t d.integ < 10 * d.minEb) ∧ code = 4)) ∧
    (∃ (s : State) (q : QueueId) (d : Desc), s.keep.mgmtOn = true ∧ s.keep.domainsOn = true ∧ s.teNext = some q.val ∧ (s.teqAt q.val).head = some d ∧ d.ok = true ∧ (s.teqAt
    q.val).inputReady d = true ∧ d.op = 1 ∧ (s.teqAt q.val).loading d.setid = false ∧ s.setWidth d.setid = some d.q8 ∧ List.filter (s.precise d) (s.roomTiles d) ≠ []) ∧
    (∃ (s : State) (q : QueueId) (d : Desc), s.keep.mgmtOn = true ∧ s.keep.domainsOn = true ∧ s.teNext = some q.val ∧ (s.teqAt q.val).head = some d ∧ 5 ≤ d.op) ∧
    (∃ (s : State) (q : QueueId) (d : Desc) (c : Instr), s.keep.mgmtOn = true ∧ s.keep.domainsOn = true ∧ s.teNext = some q.val ∧ (s.teqAt q.val).head = some d ∧ (d.op, c) ∈ [(0, Instr.nop
    q), (1, Instr.mvm q), (2, Instr.reduce q), (3, Instr.loadw q), (4, Instr.freew q)] ∧ d.ok = false) ∧
    (∃ (s : State) (q : QueueId) (d : Desc) (c : Instr), s.keep.mgmtOn = true ∧ s.keep.domainsOn = true ∧ s.teNext = some q.val ∧ (s.teqAt q.val).head = some d ∧ (d.op, c) ∈ [(0, Instr.nop
    q), (1, Instr.mvm q), (2, Instr.reduce q), (3, Instr.loadw q), (4, Instr.freew q)] ∧ d.ok = true ∧ (s.teqAt q.val).inputReady d = false ∧ s.feedLost q.val d = true) ∧
    (∃ (s : State) (q : QueueId) (d : Desc), s.keep.mgmtOn = true ∧ s.keep.domainsOn = true ∧ (s.teqAt q.val).head = some d ∧ d.ok = true ∧ ((s.teqAt q.val).inputReady d = false ∧
    s.feedLost q.val d = false ∨ d.op = 1 ∧ (s.teqAt q.val).inputReady d = true ∧ s.setWidth d.setid = some d.q8 ∧ (∃ (t : Nat), t ∈ s.holders d.setid ∧ 10 * d.minEb ≤ s.tFigure t d.integ)
    ∧ List.filter (s.precise d) (s.roomTiles d) = [])) ∧
    (∃ (s : State) (q : QueueId) (d : Desc), s.keep.mgmtOn = true ∧ s.keep.domainsOn = true ∧ s.teRuns = true ∧ (s.teqAt q.val).slots.head? = some d ∧ d.res = none) ∧
    (∃ (s : State) (q : QueueId) (d : Desc) (c : Computed), s.keep.mgmtOn = true ∧ s.keep.domainsOn = true ∧ s.teRuns = true ∧ (s.teqAt q.val).slots.head? = some d ∧ d.res = some c ∧
    c.status ≠ 0) ∧
    (∃ (s : State) (q : QueueId) (d : Desc) (c : Computed), s.keep.mgmtOn = true ∧ s.keep.domainsOn = true ∧ s.teRuns = true ∧ (s.teqAt q.val).slots.head? = some d ∧ d.res = some c ∧
    c.status = 0 ∧ d.laid = false ∧ d.usesAcc = true ∧ (s.teqAt q.val).acc ≠ none ∧ ((s.teqAt q.val).accV ≠ d.vcount ∨ (s.teqAt q.val).accN ≠ d.nlen)) ∧
    (∃ (s : State) (q : QueueId) (d : Desc) (c : Computed), s.keep.mgmtOn = true ∧ s.keep.domainsOn = true ∧ s.teRuns = true ∧ (s.teqAt q.val).slots.head? = some d ∧ d.res = some c ∧
    c.status = 0 ∧ d.laid = false ∧ d.op ∈ [1, 2] ∧ d.accMode = 1 ∧ ((s.teqAt q.val).acc = none ∨ (s.teqAt q.val).accV = d.vcount ∧ (s.teqAt q.val).accN = d.nlen) ∧ (s.teqAt q.val).out = []
    ∧ d.tile = none) ∧
    (∃ (s : State) (q : QueueId) (d : Desc) (c : Computed), s.keep.mgmtOn = true ∧ s.keep.domainsOn = true ∧ s.teRuns = true ∧ (s.teqAt q.val).slots.head? = some d ∧ d.res = some c ∧
    c.status = 0 ∧ d.laid = false ∧ d.op ∈ [1, 2] ∧ d.accMode = 0 ∧ d.flush = true ∧ d.cmpl = false ∧ (s.teqAt q.val).out = [] ∧ s.get (Reg.TEG_Q_CFG_DST_KIND q.val) = 0 ∧ s.held (s.get
    (Reg.TEG_Q_CFG_DST_PORT q.val)) = false ∧ (d.output c []).fst ≠ [] ∧ (d.output c []).fst.length ≤ 64 * (s.get (Reg.TEG_Q_CFG_OUT_PAY q.val) + 1)) ∧
    (∃ (s : State) (q : QueueId) (d : Desc) (c : Computed), s.keep.mgmtOn = true ∧ s.keep.domainsOn = true ∧ s.teRuns = true ∧ (s.teqAt q.val).slots.head? = some d ∧ d.res = some c ∧
    c.status = 0 ∧ d.laid = false ∧ d.op ∈ [1, 2] ∧ d.accMode = 0 ∧ d.flush = true ∧ (s.teqAt q.val).out = [] ∧ s.get (Reg.TEG_Q_CFG_DST_KIND q.val) = 0 ∧ s.held (s.get
    (Reg.TEG_Q_CFG_DST_PORT q.val)) = true ∧ (d.output c []).fst ≠ []) ∧
    (∃ (s : State) (q : QueueId) (d : Desc) (c : Computed), s.keep.mgmtOn = true ∧ s.keep.domainsOn = true ∧ s.teRuns = true ∧ (s.teqAt q.val).slots.head? = some d ∧ d.res = some c ∧
    c.status = 0 ∧ d.laid = false ∧ d.op = 4 ∧ s.setInUse d.setid d.ord = false ∧ d.flush = true ∧ d.cmpl = false ∧ s.get (Reg.TEG_Q_CFG_DST_KIND q.val) = 0 ∧ s.held (s.get
    (Reg.TEG_Q_CFG_DST_PORT q.val)) = false ∧ (s.teqAt q.val).out ≠ [] ∧ (s.teqAt q.val).out.length ≤ 64 * (s.get (Reg.TEG_Q_CFG_OUT_PAY q.val) + 1)) ∧
    (∃ (s : State) (q : QueueId) (d : Desc) (c : Computed), s.keep.mgmtOn = true ∧ s.keep.domainsOn = true ∧ s.teRuns = true ∧ (s.teqAt q.val).slots.head? = some d ∧ d.res = some c ∧
    c.status = 0 ∧ d.laid = false ∧ d.op = 4 ∧ s.setInUse d.setid d.ord = true) ∧
    (∃ (s : State) (q : QueueId) (d : Desc) (c : Computed), s.keep.mgmtOn = true ∧ s.keep.domainsOn = true ∧ s.teRuns = true ∧ (s.teqAt q.val).slots.head? = some d ∧ d.res = some c ∧
    c.status = 0 ∧ d.laid = false ∧ d.op = 4 ∧ s.setInUse d.setid d.ord = false ∧ (s.teqAt q.val).out = [] ∧ (∀ (x : Nat), (List.filter (fun (x : WSet) => x.setid == d.setid) (s.tileAt
    x).sets).length ≤ 1)) ∧
    (∃ (s : State) (q : QueueId) (d : Desc) (c : Computed) (w : WSet), s.keep.mgmtOn = true ∧ s.keep.domainsOn = true ∧ s.teRuns = true ∧ (s.teqAt q.val).slots.head? = some d ∧ d.res = some
    c ∧ c.status = 0 ∧ d.laid = false ∧ d.op = 3 ∧ c.wset = some w ∧ s.holders w.setid = [] ∧ (s.teqAt q.val).out = [] ∧ (pickTiles (s.roomFor w.setid) d.repl).length < d.repl) ∧
    (∃ (s : State) (q : QueueId) (d : Desc) (c : Computed) (w : WSet), s.keep.mgmtOn = true ∧ s.keep.domainsOn = true ∧ s.teRuns = true ∧ (s.teqAt q.val).slots.head? = some d ∧ d.res = some
    c ∧ c.status = 0 ∧ d.laid = false ∧ d.op = 3 ∧ c.wset = some w ∧ s.holders w.setid = [] ∧ (s.teqAt q.val).out = [] ∧ d.repl ≤ (pickTiles (s.roomFor w.setid) d.repl).length ∧ (∀ (x :
    Nat), (s.tileAt x).slots.length = 8)) ∧
    (∃ (s : State) (q : QueueId) (p : Path), s.keep.mgmtOn = true ∧ s.keep.domainsOn = true ∧ s.get Reg.TEG_Q_SEL_Q = q.val ∧ s.writable p 53404 1 = true) ∧
    (∃ (s : State) (q : QueueId) (p : Path), s.keep.mgmtOn = true ∧ s.keep.domainsOn = true ∧ s.get Reg.TEG_Q_SEL_Q = q.val ∧ s.writable p 53404 2 = true) ∧
    (∃ (s : State) (q : QueueId) (p : Path) (b : Binding) (v : Word), s.keep.mgmtOn = true ∧ s.keep.domainsOn = true ∧ s.get Reg.TEG_Q_SEL_Q = q.val ∧ s.writable p (bindAddr b)
    (BitVec.toNat v) = true) ∧
    (∃ (s : State) (q : QueueId) (p : Path) (b : Binding) (v : Word), s.keep.mgmtOn = true ∧ s.keep.domainsOn = true ∧ s.get Reg.TEG_Q_SEL_Q = q.val ∧ s.serves p = true ∧ (s.get
    (Reg.TEG_Q_CFG_EN q.val) ≠ 0 ∨ 2 ^ 31 ≤ BitVec.toNat v ∧ s.bindable (BitVec.toNat v % 2 ^ 21) (b != Binding.dsid) = false)) ∧
    (∃ (s : State) (q : QueueId) (d : Desc), s.keep.mgmtOn = true ∧ s.keep.domainsOn = true ∧ (s.teqAt q.val).head = some d ∧ s.headWaits q.val true = true ∧ d.told = false) ∧
    (∃ (s : State) (q : QueueId), s.keep.mgmtOn = true ∧ s.keep.domainsOn = true ∧ (s.headWaits q.val true = false ∨ ∃ (d : Desc), (s.teqAt q.val).head = some d ∧ d.told = true)) :=
  ⟨⟨wRun, 4, 2, by decide +kernel⟩,
   ⟨wRun |>.put (Reg.TEG_Q_OWN_PORTS (4 : QueueId).val) (2 ^ (2 : HpId).val), 4, 2, ([] : List Byte), by decide +kernel⟩,
   ⟨wRun |>.put (Reg.TEG_Q_OWN_PORTS (4 : QueueId).val) (2 ^ (2 : HpId).val) |>.put (Reg.TEG_Q_CFG_EN (4 : QueueId).val) 1, 4, 2, ([] : List Byte), by decide +kernel⟩,
   ⟨wRun, 4, Instr.nop 4, by decide +kernel⟩,
   ⟨((wTe [mkDesc 2 0 0 0 [1, 1, 1, 1]])), 4, 4, by decide +kernel⟩,
   ⟨((wTe [mkDesc 2 0 0 0 [1, 1, 1, 1]])), 4, mkDesc 2 0 0 0 [1, 1, 1, 1], by decide +kernel⟩,
   ⟨((wTe [mkDesc 3 0 (2 ^ 16 + 1) 0 [1, 1, 1, 1]])), 4, mkDesc 3 0 (2 ^ 16 + 1) 0 [1, 1, 1, 1], by decide +kernel⟩,
   ⟨((wTe [mkDesc 4 0 (2 ^ 16) 0 []])), 4, mkDesc 4 0 (2 ^ 16) 0 [], by decide +kernel⟩,
   ⟨((wTe [mkDesc 0 0 0 0 []])), 4, mkDesc 0 0 0 0 [], by decide +kernel⟩,
   ⟨((wTe [wMvm])), 4, wMvm, 2, by decide +kernel⟩,
   ⟨((wTile [wMvm])), 4, wMvm, by decide +kernel⟩,
   ⟨((wTe [mkDesc 5 0 0 0 []])), 4, mkDesc 5 0 0 0 [], by decide +kernel⟩,
   ⟨((wTe [mkDesc 0 0 1 0 []])), 4, mkDesc 0 0 1 0 [], Instr.nop 4, by decide +kernel⟩,
   ⟨((wTe [mkDesc 2 (2 ^ 22) 0 0 []]).put (Reg.TEG_Q_FEED0_VALID 4) 1), 4, mkDesc 2 (2 ^ 22) 0 0 [], Instr.reduce 4, by decide +kernel⟩,
   ⟨((wTile [wMvm]).put Reg.TEG_FAIL_TILE (2 ^ 9)), 4, wMvm, by decide +kernel⟩,
   ⟨((wTe [mkDesc 2 0 0 0 [1, 1, 1, 1]])), 4, mkDesc 2 0 0 0 [1, 1, 1, 1], by decide +kernel⟩,
   ⟨((wTe [{ mkDesc 0 0 0 0 [] with res := some ({ status := 2 } : Computed) }])), 4, { mkDesc 0 0 0 0 [] with res := some ({ status := 2 } : Computed) }, ({ status := 2 } : Computed), by decide +kernel⟩,
   ⟨((wTe [{ mkDesc 2 (2 ^ 24) 0 0 [] with res := some ({ status := 0 } : Computed) }]).onTeq 4 (fun k => { k with acc := some [1], accV := 2, accN := 1 })), 4, { mkDesc 2 (2 ^ 24) 0 0 [] with res := some ({ status := 0 } : Computed) }, ({ status := 0 } : Computed), by decide +kernel⟩,
   ⟨((wTe [{ mkDesc 2 (2 ^ 24) 0 0 [] with res := some ({ status := 0 } : Computed) }])), 4, { mkDesc 2 (2 ^ 24) 0 0 [] with res := some ({ status := 0 } : Computed) }, ({ status := 0 } : Computed), by decide +kernel⟩,
   ⟨((wTe [{ mkDesc 2 (2 ^ 26) 0 0 [] with res := some ({ status := 0, vals := [(1, 0)] } : Computed) }])), 4, { mkDesc 2 (2 ^ 26) 0 0 [] with res := some ({ status := 0, vals := [(1, 0)] } : Computed) }, ({ status := 0, vals := [(1, 0)] } : Computed), by decide +kernel⟩,
   ⟨wTe [{ mkDesc 1 (2 ^ 26) (2 ^ 16 + 2 ^ 12) 0 [1, 1] with res := some { status := 0, vals := [(1, 0)] } }] |>.put (Reg.TEG_Q_CFG_DST_PORT 4) 6 |>.onMgmt fun m => { m with cfgHeld := 64 }, 4, { mkDesc 1 (2 ^ 26) (2 ^ 16 + 2 ^ 12) 0 [1, 1] with res := some { status := 0, vals := [(1, 0)] } }, { status := 0, vals := [(1, 0)] }, by decide +kernel⟩,
   ⟨(wTe [{ mkDesc 4 (2 ^ 26) 1 0 [] with res := some { status := 0 } }]).onTeq 4 fun k => { k with out := List.replicate 64 3 }, 4, { mkDesc 4 (2 ^ 26) 1 0 [] with res := some { status := 0 } }, { status := 0 }, by decide +kernel⟩,
   ⟨(((wTe [{ mkDesc 4 0 (2 ^ 16) 0 [] with ord := 2, res := some { status := 0 } }]).onTeq 5 fun k => { k with slots := [{ wMvm with ord := 1, res := some { status := 0 }, tile := some 9 }] })), 4, { mkDesc 4 0 (2 ^ 16) 0 [] with ord := 2, res := some { status := 0 } }, ({ status := 0 } : Computed), by decide +kernel⟩,
   ⟨(wTe [{ mkDesc 4 0 1 0 [] with res := some { status := 0 } }]), 4, { mkDesc 4 0 1 0 [] with res := some { status := 0 } }, { status := 0 }, by (repeat' apply And.intro) <;> first | decide +kernel | exact fun _ => Nat.zero_le _⟩,
   ⟨((wTe [{ mkDesc 3 0 (2 ^ 16 + 1) 0 [] with res := some ({ status := 0, wset := some wSet } : Computed) }]).put Reg.TEG_FAIL_TILE 0xFFFFFFFF), 4, { mkDesc 3 0 (2 ^ 16 + 1) 0 [] with res := some ({ status := 0, wset := some wSet } : Computed) }, ({ status := 0, wset := some wSet } : Computed), wSet, by decide +kernel⟩,
   ⟨(wTe [{ mkDesc 3 0 1 0 [] with res := some { status := 0, wset := some wSet } }]), 4, { mkDesc 3 0 1 0 [] with res := some { status := 0, wset := some wSet } }, { status := 0, wset := some wSet }, wSet, by (repeat' apply And.intro) <;> first | decide +kernel | exact fun _ => rfl⟩,
   ⟨wRun |>.put Reg.TEG_Q_SEL_Q ((4 : QueueId).val), 4, Path.msp, by decide +kernel⟩,
   ⟨wRun |>.put Reg.TEG_Q_SEL_Q ((4 : QueueId).val), 4, Path.msp, by decide +kernel⟩,
   ⟨wRun |>.put Reg.TEG_Q_SEL_Q ((4 : QueueId).val), 4, Path.msp, Binding.feed0, 0, by decide +kernel⟩,
   ⟨wRun |>.put Reg.TEG_Q_SEL_Q ((4 : QueueId).val), 4, Path.msp, Binding.feed0, 2 ^ 31, by decide +kernel⟩,
   ⟨wTile [mkDesc 1 0 (2 ^ 16 + 2 ^ 12) (80 * 2 ^ 24) [1, 1]], 4, mkDesc 1 0 (2 ^ 16 + 2 ^ 12) (80 * 2 ^ 24) [1, 1], by decide +kernel⟩,
   ⟨wRun, 4, by decide +kernel⟩⟩

theorem witness_ErrorsTrapdoorAndFatalDump :
    (∃ (s : State) (p : Path) (hi : Bool) (v : Word), s.writable p (if hi = true then 12356 else 12352) (BitVec.toNat v) = true) ∧
    (∃ (s : State) (p : Path) (hi : Bool) (v : Word), s.writable p (if hi = true then 12364 else 12360) (BitVec.toNat v) = true) ∧
    (∃ (s : State) (p : Path), s.writable p 12376 4 = true ∧ bitOf (s.get (Reg.ERR 3)) 2 = false) ∧
    (∃ (s : State) (p : Path), s.writable p 12376 4 = true ∧ bitOf (s.get (Reg.ERR 3)) 2 = true) ∧
    (∃ (s : State), s.keep.vauxGood = false) ∧
    (∃ (s : State), s.keep.vauxGood = true) ∧
    (∃ (s : State), s.mgmt.hkRun = false) ∧
    (∃ (s : State), s.mgmt.hkRun = true ∧ s.keep.mgmtOn = true) ∧
    (∃ (s : State), s.keep.dump ≠ DumpPhase.due) ∧
    (∃ (s : State), s.keep.dump = DumpPhase.due ∧ s.mgmt.hkRun = true ∧ s.get Reg.CELL_STAT_MOUNTED ≠ 0 ∧ s.cellClocked = true ∧ s.freeSlotOf = none) ∧
    (∃ (s : State) (env : CellEnv) (k : Nat), s.keep.dump = DumpPhase.due ∧ s.mgmt.hkRun = true ∧ s.get Reg.CELL_STAT_MOUNTED ≠ 0 ∧ s.cellClocked = true ∧ s.freeSlotOf = some k ∧ (s.get
    Reg.CELL_STAT_WIN = 0 ∨ env.winCloses = some 0)) ∧
    (∃ (s : State) (env : CellEnv) (k : Nat), s.keep.dump = DumpPhase.due ∧ s.mgmt.hkRun = true ∧ s.get Reg.CELL_STAT_MOUNTED ≠ 0 ∧ s.cellClocked = true ∧ s.freeSlotOf = some k ∧ s.get
    Reg.CELL_STAT_WIN ≠ 0 ∧ env.winCloses ≠ some 0 ∧ env.bootFails = true) ∧
    (∃ (s : State) (env : CellEnv) (k : Nat), s.keep.dump = DumpPhase.due ∧ s.mgmt.hkRun = true ∧ s.get Reg.CELL_STAT_MOUNTED ≠ 0 ∧ s.cellClocked = true ∧ s.freeSlotOf = some k ∧ s.get
    Reg.CELL_STAT_WIN ≠ 0 ∧ env.winCloses ≠ some 0 ∧ env.bootFails = false) ∧
    (∃ (s : State), s.keep.dump ≠ DumpPhase.running) ∧
    (∃ (s : State) (r : DumpResult) (code : Nat), s.keep.dump = DumpPhase.running ∧ s.keep.mgmtOn = true ∧ (r, code) ∈ [(DumpResult.windowClosed, 3), (DumpResult.cellErr, 4),
    (DumpResult.aborted, 5)]) ∧
    (∃ (s : State) (r : DumpResult), s.keep.dump = DumpPhase.running ∧ s.keep.mgmtOn = true ∧ r ∈ [DumpResult.whole, DumpResult.truncated]) :=
  ⟨⟨wRun, Path.msp, false, 0, by decide +kernel⟩,
   ⟨wRun, Path.msp, false, 0, by decide +kernel⟩,
   ⟨wRun, Path.msp, by decide +kernel⟩,
   ⟨wRun |>.put (Reg.ERR (3)) (2 ^ (2)), Path.msp, by decide +kernel⟩,
   ⟨wRun |>.onKeep (fun m => { m with vauxGood := false }), by decide +kernel⟩,
   ⟨wRun, by decide +kernel⟩,
   ⟨wRun |>.onMgmt (fun m => { m with hkRun := false }), by decide +kernel⟩,
   ⟨wRun |>.onKeep (fun m => { m with vauxGood := false }), by decide +kernel⟩,
   ⟨wRun |>.onKeep (fun m => { m with vauxGood := false }), by decide +kernel⟩,
   ⟨wRun |>.onKeep (fun m => { m with dump := DumpPhase.due }) |>.onNv (fun v => { v with attic := (List.range 8).map fun k => (k, .full) }), by decide +kernel⟩,
   ⟨wRun |>.onKeep (fun m => { m with dump := DumpPhase.due }) |>.put Reg.CELL_STAT_WIN (0), ({} : CellEnv), 0, by decide +kernel⟩,
   ⟨wRun |>.onKeep (fun m => { m with dump := DumpPhase.due }), { bootFails := true }, 0, by decide +kernel⟩,
   ⟨wRun |>.onKeep (fun m => { m with dump := DumpPhase.due }), ({} : CellEnv), 0, by decide +kernel⟩,
   ⟨wRun |>.onKeep (fun m => { m with vauxGood := false }), by decide +kernel⟩,
   ⟨wRun |>.onKeep (fun m => { m with dump := DumpPhase.running }), DumpResult.cellErr, 4, by decide +kernel⟩,
   ⟨wRun.onKeep fun k => { k with dump := .running }, .whole, by decide +kernel⟩⟩

theorem witness_EveryCommandKeepsTokensAndQueue :
    (∃ (c : Instr) (s t : State), s.tokensBalance ∧ exec c s = Host.Outcome.next t) ∧
    (∃ (s t : State), s.tokensBalance ∧ step s = Host.Outcome.next t) :=
  ⟨⟨.heartbeat 0x12, wRun, wRun, wRun_tokens, rfl⟩,
   ⟨wRun, idleTick wRun, wRun_tokens, rfl⟩⟩

theorem witness_FabricTime :
    (∃ (s : State), s.get Reg.TIME_CTL_SRC = 0 ∧ s.coreClocked = true ∧ s.parentLost = false) ∧
    (∃ (s : State), s.get Reg.TIME_CTL_SRC = 0 ∧ s.coreClocked = true ∧ s.parentLost = true ∧ s.keep.mgmtOn = true) ∧
    (∃ (s : State) (n : OpId), s.trained n.val = true ∧ s.get Reg.TIME_CTL_SRC = 1 ∧ s.get (Reg.OP_PEER_NODE n.val) < s.get Reg.ROUTE_NODE_NODE ∧ s.keep.mgmtOn = true) ∧
    (∃ (s : State) (n : OpId) (d t1 t2 t3 : Nat) (x : Int), s.get Reg.TIME_CTL_SRC = 0 ∧ s.trained n.val = true ∧ (s.opAt n.val).t1 = some t1 ∧ d < 62 ∧ (∀ (m : Nat), m < 16 → m ≠ n.val →
    s.trained m = true → d < (s.opAt m).peerDist) ∧ s.keep.mgmtOn = true ∧ s.get (Reg.OP_TIME_ASYM_PS n.val) = 0 ∧ t2.cast - t1.cast - (s.ftime.cast - t3.cast) = 2 * x ∧ -2 ^ 31 ≤ x ∧ x < 2
    ^ 31) ∧
    (∃ (s : State) (n : OpId) (t1 : Nat), (s.opAt n.val).t1 ≠ some t1) ∧
    (∃ (s : State) (p : Path), s.readable p 45120 = true ∧ s.ftime < 2 ^ 64) :=
  ⟨⟨wPort, by decide +kernel⟩,
   ⟨wPort |>.put Reg.TIME_STAT_SYNC (1), by decide +kernel⟩,
   ⟨wPort |>.put Reg.TIME_CTL_SRC (1) |>.put (Reg.OP_PEER_NODE (3 : OpId).val) 0, 3, by decide +kernel⟩,
   ⟨wPort |>.onOp (3 : OpId).val (fun m => { m with t1 := some 0 }), 3, 0, 0, 0, 0, 0, by decide +kernel⟩,
   ⟨wPort, 3, 0, by decide +kernel⟩,
   ⟨wRun, Path.msp, by decide +kernel⟩⟩

theorem witness_FailuresAbortsAndUndo :
    (∃ (s : State) (k : Nat), s.get Reg.PWR_STAT_OFF_PEND = 0 ∧ 3 ≤ k ∧ k ≤ 8 ∧ s.atStep k = true) ∧
    (∃ (s : State), s.get Reg.PWR_STAT_OFF_PEND = 0 ∧ s.atStep 11 = true ∧ s.climbsPast s.power = true ∧ s.get Reg.COMB_CTL_AUTO_SW = 0) ∧
    (∃ (s : State), s.get Reg.PWR_STAT_OFF_PEND = 0 ∧ s.atStep 12 = true ∧ s.climbsPast s.power = true) ∧
    (∃ (s : State), s.get Reg.PWR_STAT_OFF_PEND = 0 ∧ s.atStep 13 = true ∧ s.keep.trapStop = false ∧ s.climbTarget = 3) ∧
    (∃ (s : State) (k : Nat), s.get Reg.PWR_STAT_OFF_PEND = 0 ∧ s.atStep k = true ∧ k ∈ [6, 8, 11, 12, 13] ∧ s.keep.trapStop = false ∧ 1 ≤ s.climbTarget ∧ s.climbTarget ≤ s.power) ∧
    (∃ (s : State) (u : Undo), s.get Reg.PWR_STAT_OFF_PEND = 0 ∧ s.keep.undo = some u ∧ u.target = 0 ∧ u.sample = false ∧ u.again = false) ∧
    (∃ (s : State) (u : Undo), s.get Reg.PWR_STAT_OFF_PEND = 0 ∧ s.keep.undo = some u ∧ u.target = 0 ∧ u.sample = true ∧ s.keep.pwrEnTaken = false) ∧
    (∃ (s : State) (u : Undo), s.get Reg.PWR_STAT_OFF_PEND = 0 ∧ s.keep.undo = some u ∧ u.target = 3 ∧ u.sample = false ∧ u.again = true ∧ s.get Reg.PWR_STAT_STEP = 14 ∧ s.keep.inTrap =
    false ∧ s.get Reg.PWR_REC_STRAP_CONFLICT = 0 ∧ 1 ≤ s.get Reg.PWR_TGT_STATE ∧ s.get Reg.PWR_TGT_STATE < 3) ∧
    (∃ (s : State) (u : Undo), s.get Reg.PWR_STAT_OFF_PEND = 0 ∧ s.keep.undo = some u ∧ 1 ≤ u.target ∧ u.target ≤ 3 ∧ u.sample = false ∧ u.again = false) :=
  ⟨⟨(wStep 0 4), 4, by decide +kernel⟩,
   ⟨(wStep 2 11) |>.put Reg.COMB_CTL_AUTO_SW (0), by decide +kernel⟩,
   ⟨(wStep 2 12), by decide +kernel⟩,
   ⟨(wStep 2 13) |>.put Reg.PWR_TGT_STATE 3, by decide +kernel⟩,
   ⟨((wStep 1 6).put Reg.PWR_TGT_STATE 1), 6, by decide +kernel⟩,
   ⟨wRun |>.onKeep (fun v => { v with undo := some ⟨0, false, false⟩ }), (⟨0, false, false⟩ : Undo), by decide +kernel⟩,
   ⟨wRun.onKeep fun k => { k with undo := some ⟨0, true, false⟩, pwrEnTaken := false }, ⟨0, true, false⟩, by decide +kernel⟩,
   ⟨((wRun.put Reg.PWR_STAT_STEP 14).put Reg.PWR_TGT_STATE 2).onKeep fun k => { k with undo := some ⟨3, false, true⟩ }, ⟨3, false, true⟩, by decide +kernel⟩,
   ⟨(((wRun.put Reg.PWR_STAT_BUSY 1).put Reg.PWR_STAT_DIR 1).put Reg.PWR_STAT_STEP 12 |>.onKeep (fun v => { v with undo := some ⟨1, false, false⟩ })), ⟨1, false, false⟩, by decide +kernel⟩⟩

theorem witness_GrantsDrawTokens :
    (∃ (s : State) (pt : PointId), (s.gates = false ∨ s.frozen = true) ∧ (pt.val = 0 ∨ s.freeLctl (pt.val - 1) = none)) ∧
    (∃ (s : State) (pt : PointId) (code : Nat) (fields : List Nat), (s.gates = false ∨ s.frozen = true) ∧ pt.val ≠ 0 ∧ s.freeLctl (pt.val - 1) = some (code, fields)) ∧
    (∃ (s : State) (pt : PointId), s.gates = true ∧ s.frozen = false ∧ (pt.val = 0 ∨ ((s.tc0Over pt.val).roundEnd pt.val).sendUntokened (pt.val - 1) = none) ∧ ((s.tc0Over pt.val).roundEnd
    pt.val).pick pt.val = none) ∧
    (∃ (s : State) (pt : PointId) (u : State), s.gates = true ∧ s.frozen = false ∧ pt.val ≠ 0 ∧ ((s.tc0Over pt.val).roundEnd pt.val).sendUntokened (pt.val - 1) = some u) ∧
    (∃ (s : State) (pt : PointId) (f : Frame), s.gates = true ∧ s.frozen = false ∧ pt.val ≠ 0 ∧ ((s.tc0Over pt.val).roundEnd pt.val).freeLctl (pt.val - 1) = none ∧ ((s.tc0Over
    pt.val).roundEnd pt.val).freeFrame (pt.val - 1) = some f) ∧
    (∃ (s : State) (pt : PointId) (q : QReq), s.gates = true ∧ s.frozen = false ∧ (pt.val = 0 ∨ ((s.tc0Over pt.val).roundEnd pt.val).sendUntokened (pt.val - 1) = none) ∧ ((s.tc0Over
    pt.val).roundEnd pt.val).pick pt.val = some (q, Draw.tc0)) ∧
    (∃ (s : State) (pt : PointId) (q : QReq), s.gates = true ∧ s.frozen = false ∧ (pt.val = 0 ∨ ((s.tc0Over pt.val).roundEnd pt.val).sendUntokened (pt.val - 1) = none) ∧ ((s.tc0Over
    pt.val).roundEnd pt.val).pick pt.val = some (q, Draw.shared)) ∧
    (∃ (s : State) (pt : PointId) (q : QReq) (d : Draw), s.gates = true ∧ s.frozen = false ∧ (pt.val = 0 ∨ ((s.tc0Over pt.val).roundEnd pt.val).sendUntokened (pt.val - 1) = none) ∧
    ((s.tc0Over pt.val).roundEnd pt.val).pick pt.val = some (q, d) ∧ (pt.val = 0 ∨ q.got + ((((s.tc0Over pt.val).roundEnd pt.val).point pt.val).draw q d).fst ≠ q.cost ∨ q.item = QItem.core
    ∨ (∃ (h : Nat), ∃ (j : Nat), ∃ (r : Bool), q.item = QItem.slot h j r) ∨ ∃ (f : Frame), ∃ (h : Nat), ∃ (j : Nat), q.item = QItem.relay f h j) ∧ d ≠ Draw.tc0) ∧
    (∃ (s : State) (pt : PointId) (q : QReq), s.gates = true ∧ s.frozen = false ∧ (pt.val = 0 ∨ ((s.tc0Over pt.val).roundEnd pt.val).sendUntokened (pt.val - 1) = none) ∧ ((s.tc0Over
    pt.val).roundEnd pt.val).pick pt.val = some (q, Draw.owed) ∧ (pt.val = 0 ∨ q.got + ((((s.tc0Over pt.val).roundEnd pt.val).point pt.val).draw q Draw.owed).fst ≠ q.cost ∨ q.item =
    QItem.core ∨ (∃ (h : Nat), ∃ (j : Nat), ∃ (r : Bool), q.item = QItem.slot h j r) ∨ ∃ (f : Frame), ∃ (h : Nat), ∃ (j : Nat), q.item = QItem.relay f h j)) ∧
    (∃ (s : State) (pt : PointId) (q : QReq) (d : Draw), s.gates = true ∧ s.frozen = false ∧ (pt.val = 0 ∨ ((s.tc0Over pt.val).roundEnd pt.val).sendUntokened (pt.val - 1) = none) ∧
    ((s.tc0Over pt.val).roundEnd pt.val).pick pt.val = some (q, d) ∧ (pt.val = 0 ∨ q.got + ((((s.tc0Over pt.val).roundEnd pt.val).point pt.val).draw q d).fst ≠ q.cost ∨ q.item = QItem.core
    ∨ (∃ (h : Nat), ∃ (j : Nat), ∃ (r : Bool), q.item = QItem.slot h j r) ∨ ∃ (f : Frame), ∃ (h : Nat), ∃ (j : Nat), q.item = QItem.relay f h j) ∧ q.got + ((((s.tc0Over pt.val).roundEnd
    pt.val).point pt.val).draw q d).fst ≠ q.cost) ∧
    (∃ (s : State) (pt : PointId) (q : QReq) (d : Draw), s.gates = true ∧ s.frozen = false ∧ (pt.val = 0 ∨ ((s.tc0Over pt.val).roundEnd pt.val).sendUntokened (pt.val - 1) = none) ∧
    ((s.tc0Over pt.val).roundEnd pt.val).pick pt.val = some (q, d) ∧ (pt.val = 0 ∨ q.got + ((((s.tc0Over pt.val).roundEnd pt.val).point pt.val).draw q d).fst ≠ q.cost ∨ q.item = QItem.core
    ∨ (∃ (h : Nat), ∃ (j : Nat), ∃ (r : Bool), q.item = QItem.slot h j r) ∨ ∃ (f : Frame), ∃ (h : Nat), ∃ (j : Nat), q.item = QItem.relay f h j) ∧ q.got + ((((s.tc0Over pt.val).roundEnd
    pt.val).point pt.val).draw q d).fst = q.cost) ∧
    (∃ (s : State) (pt : PointId) (q : QReq) (d : Draw), s.gates = true ∧ s.frozen = false ∧ (pt.val = 0 ∨ ((s.tc0Over pt.val).roundEnd pt.val).sendUntokened (pt.val - 1) = none) ∧
    ((s.tc0Over pt.val).roundEnd pt.val).pick pt.val = some (q, d) ∧ (q.got + ((((s.tc0Over pt.val).roundEnd pt.val).point pt.val).draw q d).fst ≠ q.cost ∨ q.item = QItem.core ∧ q.ing = 0)) ∧
    (∃ (s : State) (pt : PointId) (q : QReq) (d : Draw), s.gates = true ∧ s.frozen = false ∧ (pt.val = 0 ∨ ((s.tc0Over pt.val).roundEnd pt.val).sendUntokened (pt.val - 1) = none) ∧
    ((s.tc0Over pt.val).roundEnd pt.val).pick pt.val = some (q, d) ∧ q.got + ((((s.tc0Over pt.val).roundEnd pt.val).point pt.val).draw q d).fst = q.cost ∧ q.item = QItem.core ∧ q.ing ≠ 0) ∧
    (∃ (s : State) (pt : PointId) (q : QReq) (d : Draw) (port slot : Nat) (f : Frame), s.gates = true ∧ s.frozen = false ∧ (pt.val = 0 ∨ ((s.tc0Over pt.val).roundEnd pt.val).sendUntokened
    (pt.val - 1) = none) ∧ ((s.tc0Over pt.val).roundEnd pt.val).pick pt.val = some (q, d) ∧ q.got + ((((s.tc0Over pt.val).roundEnd pt.val).point pt.val).draw q d).fst = q.cost ∧ q.item =
    QItem.enter port slot ∧ pt.val = 0 ∧ tget none (((s.tc0Over pt.val).roundEnd pt.val).opAt port).pantry slot = some f) ∧
    (∃ (s : State) (pt : PointId) (q : QReq) (d : Draw) (slot : Nat) (rpl : Bool) (f : Frame), s.gates = true ∧ s.frozen = false ∧ (pt.val = 0 ∨ ((s.tc0Over pt.val).roundEnd
    pt.val).sendUntokened (pt.val - 1) = none) ∧ ((s.tc0Over pt.val).roundEnd pt.val).pick pt.val = some (q, d) ∧ q.item = QItem.slot (pt.val - 1) slot rpl ∧ q.got + ((((s.tc0Over
    pt.val).roundEnd pt.val).point pt.val).draw q d).fst = q.cost ∧ tget none (((s.tc0Over pt.val).roundEnd pt.val).opAt (pt.val - 1)).pantry slot = some f ∧ f.cut = false ∧ ((s.tc0Over
    pt.val).roundEnd pt.val).brynn (pt.val - 1) = false) :=
  ⟨⟨(wPort.gate false), 4, by decide +kernel⟩,
   ⟨(wPort.onOp 3 fun o => { o with lctlQ := [(16, [])] }).gate false, 4, 16, [], by decide +kernel⟩,
   ⟨wRun, 4, by decide +kernel⟩,
   ⟨(wPort.onOp 3 fun o => { o with lctlQ := [(16, [])] }), 4, (((wPort.onOp 3 fun o => { o with lctlQ := [(16, [])] }).onOp 3 fun o => { o with lctlQ := [] }).lctlGo 3 16 []), by decide +kernel⟩,
   ⟨(wPort.onOp 3 (fun o => { o with ackQ := [(withCrc { wFrame with ftype := 5, payload := [] })], txCr := List.replicate 16 4 })), 4, (withCrc { wFrame with ftype := 5, payload := [] }), by decide +kernel⟩,
   ⟨((wShare.onPoint 4 (fun p => { p with dealt := true, pool := 1024 - 64, buckets := setAt (List.replicate 29 0) 3 64, share := List.replicate 29 0, recvd := List.replicate 29 0, whole := List.replicate 29 false, waiting := [{ wReq with tc := 0 }] }) |>.onOp 3 (fun o => { o with txCr := List.replicate 16 40 }))), 4, { wReq with tc := 0 }, by decide +kernel⟩,
   ⟨((wShare.onPoint 4 (fun p => { p with dealt := true, pool := 1024 - 64, buckets := setAt (List.replicate 29 0) 3 64, share := List.replicate 29 0, recvd := List.replicate 29 0, whole := List.replicate 29 false, waiting := [{ wReq with master := 6 }] }) |>.onOp 3 (fun o => { o with txCr := List.replicate 16 40 }))), 4, { wReq with master := 6 }, by decide +kernel⟩,
   ⟨wPt 0 ⟨3, 2, 4, 0, 0, [0, 0, 0, 0], false, false, 0, .core⟩, 0, ⟨3, 2, 4, 0, 0, [0, 0, 0, 0], false, false, 0, .core⟩, .owed, by (repeat' apply And.intro) <;> first | decide +kernel | exact .inl rfl⟩,
   ⟨wPt 0 ⟨3, 2, 4, 0, 0, [0, 0, 0, 0], false, false, 0, .core⟩, 0, ⟨3, 2, 4, 0, 0, [0, 0, 0, 0], false, false, 0, .core⟩, by (repeat' apply And.intro) <;> first | decide +kernel | exact .inl rfl⟩,
   ⟨wPt 0 ⟨3, 2, 100, 0, 0, [0, 0, 0, 0], false, false, 0, .core⟩, 0, ⟨3, 2, 100, 0, 0, [0, 0, 0, 0], false, false, 0, .core⟩, .owed, by (repeat' apply And.intro) <;> first | decide +kernel | exact .inl rfl⟩,
   ⟨wPt 0 ⟨3, 2, 4, 0, 0, [0, 0, 0, 0], false, false, 0, .core⟩, 0, ⟨3, 2, 4, 0, 0, [0, 0, 0, 0], false, false, 0, .core⟩, .owed, by (repeat' apply And.intro) <;> first | decide +kernel | exact .inl rfl⟩,
   ⟨((wShare.onPoint 4 (fun p => { p with dealt := true, pool := 1024 - 64, buckets := setAt (List.replicate 29 0) 3 64, share := List.replicate 29 0, recvd := List.replicate 29 0, whole := List.replicate 29 false, waiting := [wReq] }) |>.onOp 3 (fun o => { o with txCr := List.replicate 16 40 }))), 4, wReq, Draw.owed, by decide +kernel⟩,
   ⟨wPt 0 ⟨3, 2, 4, 0, 0, [0, 0, 0, 0], false, false, 4, .core⟩, 0, ⟨3, 2, 4, 0, 0, [0, 0, 0, 0], false, false, 4, .core⟩, .owed, by (repeat' apply And.intro) <;> first | decide +kernel | exact .inl rfl⟩,
   ⟨wPt 0 ⟨3, 2, 4, 0, 0, [0, 0, 0, 0], false, false, 0, .enter 3 17⟩, 0, ⟨3, 2, 4, 0, 0, [0, 0, 0, 0], false, false, 0, .enter 3 17⟩, .owed, 3, 17, wFrame, by (repeat' apply And.intro) <;> first | decide +kernel | exact .inl rfl⟩,
   ⟨((wShare.onPoint 4 (fun p => { p with dealt := true, pool := 1024 - 64, buckets := setAt (List.replicate 29 0) 3 64, share := List.replicate 29 0, recvd := List.replicate 29 0, whole := List.replicate 29 false, waiting := [{ wReq with cost := 2, item := .slot 3 17 false }] }) |>.onOp 3 (fun o => { o with txCr := List.replicate 16 40 })).onOp 3 (fun o => { o with pantry := [(17, some wFrame)] })), 4, { wReq with cost := 2, item := .slot 3 17 false }, Draw.owed, 17, false, wFrame, by decide +kernel⟩⟩

theorem witness_HeartbeatAndWatchdog :
    (∃ (s : State), s.keep.mgmtOn = true ∧ s.keep.hkFresh = true ∧ s.errSum = 0 ∧ s.keep.inTrap = false) ∧
    (∃ (s : State), (s.keep.hkFresh = false ∨ s.errSum ≠ 0 ∨ s.keep.inTrap = true)) ∧
    (∃ (s : State), s.mgmt.hkRun = true) ∧
    (∃ (s : State) (p : Path), s.writable p 12380 1 = true) ∧
    (∃ (s : State), s.keep.hkArmed = true ∧ s.keep.mgmtOn = true) :=
  ⟨⟨wRun, by decide +kernel⟩,
   ⟨wRun |>.onKeep (fun m => { m with hkFresh := false }), by decide +kernel⟩,
   ⟨wRun, by decide +kernel⟩,
   ⟨wRun, Path.msp, by decide +kernel⟩,
   ⟨wRun, by decide +kernel⟩⟩

theorem witness_HighestCommonRate :
    (∃ (s : State) (n : HpId) (p : PartnerCaps), s.trainRate n.val p = some 1) ∧
    (∃ (s : State) (n : HpId) (p : PartnerCaps), s.trainRate n.val p = some 2) ∧
    (∃ (s : State) (n : HpId) (p : PartnerCaps), s.trainRate n.val p = some 3) ∧
    (∃ (s : State) (n : HpId) (p : PartnerCaps), s.trainRate n.val p = some 4) ∧
    (∃ (s : State) (n : HpId) (p : PartnerCaps), s.trainRate n.val p = some 5) ∧
    (∃ (s : State) (n : HpId) (p : PartnerCaps) (r : Nat) (c : Nat × Nat), s.trainRate n.val p = some r ∧ c ∈ [(1, 8), (1, 12), (2, 16), (3, 24), (4, 32)] ∧ c.fst ≤ s.get
    (Reg.HP_CFG_MAX_RATE n.val) ∧ c.snd ∈ p.rates) ∧
    (∃ (s : State) (n : HpId) (p : PartnerCaps), s.get (Reg.HP_CFG_MAX_RATE n.val) = 5 ∧ (s.hpAt n.val).x40 = true ∧ 32 ∈ p.rates ∧ ¬40 ∈ p.fails) ∧
    (∃ (s : State) (n : HpId) (p : PartnerCaps), s.get (Reg.HP_CFG_MAX_RATE n.val) = 5 ∧ (s.hpAt n.val).x40 = true ∧ 32 ∈ p.rates ∧ 40 ∈ p.fails ∧ ¬32 ∈ p.fails) ∧
    (∃ (s : State) (n : HpId) (p : PartnerCaps), 1 ≤ s.get (Reg.HP_CFG_MAX_RATE n.val) ∧ 12 ∈ p.rates ∧ (∀ (g : Nat), g ∈ p.rates → g ≤ 12) ∧ ¬8 ∈ p.fails) ∧
    (∃ (p : PartnerCaps), (∀ (g : Nat), g ∈ p.rates → ¬g ∈ [8, 12, 16, 24, 32])) ∧
    (∃ (s : State) (n : HpId) (p : PartnerCaps) (c : Nat × Nat), s.commonRates n.val p = [] ∧ c ∈ [(1, 8), (1, 12), (2, 16), (3, 24), (4, 32)] ∧ c.fst ≤ s.get (Reg.HP_CFG_MAX_RATE n.val)) ∧
    (∃ (s : State) (n : HpId) (p : PartnerCaps), s.hpState n.val = 3 ∧ s.get (Reg.HP_STAT_WIDE n.val) = 0 ∧ bitOf (s.get Reg.CLK_HOST_LOCK) n.val = true ∧ s.keep.inTrap = false ∧
    s.commonRates n.val p = []) ∧
    (∃ (s : State) (n : HpId) (p : PartnerCaps) (r : Nat), s.hpState n.val = 3 ∧ s.get (Reg.HP_STAT_WIDE n.val) = 0 ∧ bitOf (s.get Reg.CLK_HOST_LOCK) n.val = true ∧ s.keep.inTrap = false ∧
    s.trainRate n.val p = some r) ∧
    (∃ (s : State) (n : HpId), s.hpState n.val ∈ [4, 5, 6] ∧ s.get (Reg.HP_STAT_WIDE n.val) = 0) :=
  ⟨⟨wRun, 2, { rates := [8, 12] }, by decide +kernel⟩,
   ⟨wRun, 2, { rates := [8, 16] }, by decide +kernel⟩,
   ⟨wRun, 2, { rates := [24, 16] }, by decide +kernel⟩,
   ⟨wRun, 2, { rates := [32, 8] }, by decide +kernel⟩,
   ⟨wHost |>.put (Reg.HP_CFG_MAX_RATE (2 : HpId).val) (5) |>.onHp (2 : HpId).val (fun m => { m with x40 := true }), 2, { rates := [32] }, by decide +kernel⟩,
   ⟨wRun, 2, { rates := [8] }, 1, (1, 8), by decide +kernel⟩,
   ⟨wHost |>.put (Reg.HP_CFG_MAX_RATE (2 : HpId).val) (5) |>.onHp (2 : HpId).val (fun m => { m with x40 := true }), 2, { rates := [32] }, by decide +kernel⟩,
   ⟨(wHost.put (Reg.HP_CFG_MAX_RATE 2) 5).onHp 2 fun h => { h with x40 := true }, 2, { rates := [32], fails := [40] }, by decide +kernel⟩,
   ⟨wRun, 2, { rates := [8, 12] }, by decide +kernel⟩,
   ⟨{ rates := [4] }, by decide +kernel⟩,
   ⟨wRun, 2, { rates := [4] }, (1, 8), by decide +kernel⟩,
   ⟨wHost |>.put (Reg.HP_STAT_STATE (2 : HpId).val) 3 |>.put (Reg.HP_CFG_RETRY (2 : HpId).val) (0), 2, { rates := [4] }, by decide +kernel⟩,
   ⟨wHost |>.put (Reg.HP_STAT_STATE (2 : HpId).val) 3 |>.put (Reg.HP_CFG_RETRY (2 : HpId).val) (0), 2, { rates := [8] }, 1, by decide +kernel⟩,
   ⟨wHost, 2, by decide +kernel⟩⟩

theorem witness_HintsAndLinkPower :
    (∃ (s : State) (n : HpId) (v : Word), s.hpState n.val ∈ [4, 5, 6] ∧ s.get (Reg.HP_HINT_EN n.val) = 1 ∧ s.hpIdle n.val = false ∧ s.held n.val = false ∧ s.keep.inTrap = false ∧ (s.hpAt
    n.val).sbUp = true ∧ BitVec.toNat v / 64 % 4 = 0 ∧ 1 ≤ BitVec.toNat v / 256 % 256 ∧ (s.hpAt n.val).hints.length < 4) ∧
    (∃ (s : State) (n : HpId) (v : Word), s.hpState n.val ∈ [4, 5, 6] ∧ s.get (Reg.HP_HINT_EN n.val) = 1 ∧ s.hpIdle n.val = false ∧ s.held n.val = false ∧ s.keep.inTrap = false ∧ (s.hpAt
    n.val).sbUp = true ∧ BitVec.toNat v / 64 % 4 = 0 ∧ 1 ≤ BitVec.toNat v / 256 % 256 ∧ 4 ≤ (s.hpAt n.val).hints.length) ∧
    (∃ (s : State) (n : HpId) (v : Word), s.hpState n.val ∈ [4, 5, 6] ∧ s.get (Reg.HP_HINT_EN n.val) = 1 ∧ s.hpIdle n.val = false ∧ s.held n.val = false ∧ s.keep.inTrap = false ∧ (s.hpAt
    n.val).sbUp = true ∧ BitVec.toNat v / 64 % 4 = 0 ∧ BitVec.toNat v / 256 % 256 = 0) ∧
    (∃ (s : State) (n : HpId) (h : Hint), leastBy Hint.due (s.hpAt n.val).hints = some h) ∧
    (∃ (s : State) (n : HpId), s.hpState n.val = 5 ∧ s.get (Reg.HP_CFG_L1_EN n.val) = 1 ∧ s.get (Reg.HP_STAT_WIDE n.val) = 0 ∧ (s.hpAt n.val).deliveries = []) ∧
    (∃ (s : State) (n : HpId), s.hpState n.val = 6 ∧ s.get (Reg.HP_STAT_WIDE n.val) = 0) :=
  ⟨⟨wHost, 2, 0x100, by decide +kernel⟩,
   ⟨wHost |>.onHp 2 (fun h => { h with hints := List.replicate 4 ⟨9, 1⟩ }), 2, 0x100, by decide +kernel⟩,
   ⟨wHost, 2, 0, by decide +kernel⟩,
   ⟨wHost |>.onHp 2 (fun h => { h with hints := [⟨10, 3⟩] }), 2, (⟨10, 3⟩ : Hint), by decide +kernel⟩,
   ⟨wHost |>.put (Reg.HP_CFG_L1_EN (2 : HpId).val) (1), 2, by decide +kernel⟩,
   ⟨wHost |>.put (Reg.HP_STAT_STATE (2 : HpId).val) 6, 2, by decide +kernel⟩⟩

theorem witness_HostCreditsAreConserved :
    (∃ (s : State) (n : HpId) (x : Nat) (beats : List Byte), s.hpIdle n.val = false ∧ s.keep.mgmtOn = true ∧ s.hpState n.val = 5 ∧ s.gates = true ∧ s.frozen = false ∧ 1 ≤ beats.length / 64
    ∧ beats.length / 64 ≤ s.get (Reg.HP_CR_ING_GRANTED n.val) ∧ s.get (Reg.HP_CR_ING_GRANTED n.val) + s.get (Reg.HP_CR_ING_OCC n.val) ≤ 8192 ∧ List.lookup x (s.hpAt n.val).parts ≠ some none
    ∧ s.get (Reg.HP_LB_MODE n.val) ≠ 2) ∧
    (∃ (s : State) (n : HpId) (x : Nat) (beats : List Byte), s.hpIdle n.val = false ∧ s.keep.mgmtOn = true ∧ s.hpState n.val = 5 ∧ s.gates = true ∧ s.frozen = false ∧ 1 ≤ beats.length / 64
    ∧ beats.length / 64 ≤ s.get (Reg.HP_CR_ING_GRANTED n.val) ∧ s.get (Reg.HP_CR_ING_GRANTED n.val) + s.get (Reg.HP_CR_ING_OCC n.val) ≤ 8192 ∧ List.lookup x (s.hpAt n.val).parts ≠ some none
    ∧ s.get (Reg.HP_LB_MODE n.val) = 2) ∧
    (∃ (s : State) (n : HpId) (x : Nat) (beats : List Byte), s.hpIdle n.val = false ∧ s.keep.mgmtOn = true ∧ s.hpState n.val = 5 ∧ s.gates = true ∧ s.frozen = false ∧ s.get
    (Reg.HP_CR_ING_GRANTED n.val) < beats.length / 64 ∧ List.lookup x (s.hpAt n.val).parts = none) ∧
    (∃ (s : State) (n : HpId) (x : Nat) (beats : List Byte) (k : Nat), s.hpIdle n.val = false ∧ s.keep.mgmtOn = true ∧ s.hpState n.val = 5 ∧ s.get (Reg.HP_CR_ING_GRANTED n.val) <
    beats.length / 64 ∧ List.lookup x (s.hpAt n.val).parts = some (some k) ∧ s.get (Reg.HP_CR_ING_GRANTED n.val) + s.get (Reg.HP_CR_ING_OCC n.val) ≤ 8192) ∧
    (∃ (s : State) (n : HpId) (b : Nat), s.hpIdle n.val = false ∧ s.keep.mgmtOn = true ∧ b ≤ s.get (Reg.HP_CR_ING_OCC n.val) ∧ s.get (Reg.HP_CR_ING_GRANTED n.val) + s.get (Reg.HP_CR_ING_OCC
    n.val) ≤ 8192 ∧ (s.hpAt n.val).crSent = true) ∧
    (∃ (s : State) (n : HpId) (v : Word), s.hpIdle n.val = false ∧ s.keep.mgmtOn = true ∧ s.keep.domainsOn = true ∧ BitVec.toNat v / 65536 % 16 ≠ s.get (Reg.HP_STAT_EPOCH n.val)) ∧
    (∃ (s : State) (n : HpId) (v : Word), s.hpIdle n.val = false ∧ s.keep.mgmtOn = true ∧ s.keep.domainsOn = true ∧ BitVec.toNat v / 65536 % 16 = s.get (Reg.HP_STAT_EPOCH n.val) ∧ s.hpState
    n.val = 4 ∧ (s.hpAt n.val).crSent = true ∧ (s.hpAt n.val).crAcked = false) ∧
    (∃ (s : State) (n : HpId) (d : Delivery) (ds : List Delivery), s.hpIdle n.val = false ∧ s.keep.mgmtOn = true ∧ (s.hpAt n.val).deliveries = d :: ds ∧ s.hpState n.val = 5 ∧ s.frozen =
    false ∧ d.blocks ≤ (s.hpAt n.val).egr) ∧
    (∃ (s : State) (n : HpId) (d : Delivery) (ds : List Delivery), s.hpIdle n.val = false ∧ s.keep.mgmtOn = true ∧ (s.hpAt n.val).deliveries = d :: ds ∧ s.hpState n.val = 5 ∧ ((s.hpAt
    n.val).egr < d.blocks ∨ s.frozen = true)) :=
  ⟨⟨wHost |>.put (Reg.HP_CR_ING_GRANTED 2) 3, 2, 3, List.replicate 64 1, by decide +kernel⟩,
   ⟨sets wHost [(Reg.HP_LB_MODE 2, 2), (Reg.HP_CR_ING_GRANTED 2, 4)], 2, 1, List.replicate 64 0, by decide +kernel⟩,
   ⟨wHost |>.put (Reg.HP_CR_ING_GRANTED 2) 3, 2, 3, List.replicate 4096 1, by decide +kernel⟩,
   ⟨wHost.onHp 2 fun h => { h with parts := [(1, some 3)] }, 2, 1, List.replicate 64 0, 3, by decide +kernel⟩,
   ⟨wHost |>.onHp (2 : HpId).val (fun m => { m with crSent := true }), 2, 0, by decide +kernel⟩,
   ⟨wRun, 2, 0x30000, by decide +kernel⟩,
   ⟨wHost |>.put (Reg.HP_STAT_STATE (2 : HpId).val) 4 |>.onHp (2 : HpId).val (fun m => { m with crSent := true }), 2, 0, by decide +kernel⟩,
   ⟨wHost |>.onHp (2 : HpId).val (fun m => { m with deliveries := (Delivery.looped 3) :: ([Delivery.looped 1]) }) |>.onHp 2 (fun h => { h with egr := 3 }), 2, (Delivery.looped 3), [Delivery.looped 1], by decide +kernel⟩,
   ⟨wHost |>.onHp (2 : HpId).val (fun m => { m with deliveries := (Delivery.looped 3) :: ([Delivery.looped 1]) }), 2, (Delivery.looped 3), [Delivery.looped 1], by decide +kernel⟩⟩

theorem witness_HostModuleTraining :
    (∃ (s : State) (n : HpId), s.keep.mgmtOn = true ∧ s.keep.domainsOn = true ∧ s.get (Reg.HP_STAT_WIDE n.val) = 0 ∧ s.hpState n.val ∈ [4, 5, 6]) ∧
    (∃ (s : State) (n : HpId), s.keep.mgmtOn = true ∧ s.keep.domainsOn = true ∧ s.get (Reg.HP_STAT_WIDE n.val) = 0 ∧ s.hpState n.val ≠ 2) ∧
    (∃ (s : State) (n : HpId), s.keep.mgmtOn = true ∧ s.keep.domainsOn = true ∧ s.get (Reg.HP_STAT_WIDE n.val) = 0 ∧ s.hpState n.val = 2 ∧ s.get (Reg.HP_CFG_EN n.val) = 1 ∧ 2 ≤ s.power ∧
    s.keep.inTrap = false ∧ (s.hpAt n.val).sbUp = true ∧ s.held n.val = false ∧ s.get (Reg.HP_LB_MODE n.val) = 0) ∧
    (∃ (s : State) (n : HpId), s.keep.mgmtOn = true ∧ s.keep.domainsOn = true ∧ s.get (Reg.HP_STAT_WIDE n.val) = 0 ∧ s.hpState n.val ≤ 2 ∧ s.get (Reg.HP_CFG_EN n.val) = 1 ∧ 2 ≤ s.power ∧
    s.keep.inTrap = false ∧ bitOf (s.get Reg.CLK_HOST_LOCK) n.val = true ∧ s.held n.val = false ∧ s.get (Reg.HP_LB_MODE n.val) = 0) ∧
    (∃ (s : State) (n : HpId) (partner : PartnerCaps) (r : Nat), s.keep.mgmtOn = true ∧ s.keep.domainsOn = true ∧ s.get (Reg.HP_STAT_WIDE n.val) = 0 ∧ s.hpState n.val = 3 ∧ bitOf (s.get
    Reg.CLK_HOST_LOCK) n.val = true ∧ s.keep.inTrap = false ∧ s.trainRate n.val partner = some r ∧ s.gates = true) ∧
    (∃ (s : State) (n : HpId), s.keep.mgmtOn = true ∧ s.keep.domainsOn = true ∧ s.get (Reg.HP_STAT_WIDE n.val) = 0 ∧ s.hpState n.val = 3 ∧ s.get (Reg.HP_CFG_RETRY n.val) = 0) ∧
    (∃ (s : State) (n : HpId) (p : Path) (v : Word), s.keep.mgmtOn = true ∧ s.keep.domainsOn = true ∧ s.get (Reg.HP_STAT_WIDE n.val) = 0 ∧ s.writable p ((16 + n.val) * 4096 + 64)
    (BitVec.toNat v) = true ∧ BitVec.toNat v % 2 = 0 ∧ s.get (Reg.HP_CFG_EN n.val) = 1) ∧
    (∃ (s : State) (n : HpId) (p : Path) (v : Word), s.keep.mgmtOn = true ∧ s.keep.domainsOn = true ∧ s.get (Reg.HP_STAT_WIDE n.val) = 0 ∧ s.writable p ((16 + n.val) * 4096 + 136)
    (BitVec.toNat v) = true ∧ (BitVec.toNat v % 4 = 1 ∨ BitVec.toNat v % 4 = 3) ∧ s.get (Reg.HP_LB_MODE n.val) = 0 ∧ s.get (Reg.HP_CFG_EN n.val) = 1 ∧ 2 ≤ s.power ∧ s.hpState n.val ≠ 8 ∧
    s.held n.val = false) ∧
    (∃ (s : State) (n : HpId) (p : Path) (v : Word), s.keep.mgmtOn = true ∧ s.keep.domainsOn = true ∧ s.get (Reg.HP_STAT_WIDE n.val) = 0 ∧ s.writable p ((16 + n.val) * 4096 + 136)
    (BitVec.toNat v) = true ∧ BitVec.toNat v % 4 = 2 ∧ s.get (Reg.HP_LB_MODE n.val) = 0 ∧ s.hpState n.val = 5) :=
  ⟨⟨wHost, 2, by decide +kernel⟩,
   ⟨wHost, 2, by decide +kernel⟩,
   ⟨wHost |>.put (Reg.HP_STAT_STATE (2 : HpId).val) 2, 2, by decide +kernel⟩,
   ⟨wHost |>.put (Reg.HP_STAT_STATE (2 : HpId).val) 2, 2, by decide +kernel⟩,
   ⟨wHost |>.put (Reg.HP_STAT_STATE (2 : HpId).val) 3, 2, { rates := [8, 12] }, 1, by decide +kernel⟩,
   ⟨wHost |>.put (Reg.HP_STAT_STATE (2 : HpId).val) 3 |>.put (Reg.HP_CFG_RETRY (2 : HpId).val) (0), 2, by decide +kernel⟩,
   ⟨wRun, 2, Path.msp, 8, by decide +kernel⟩,
   ⟨wRun, 2, Path.msp, 3, by decide +kernel⟩,
   ⟨wHost, 2, Path.msp, 2, by decide +kernel⟩⟩

theorem witness_IdentityAndCredits :
    (∃ (s : State) (n : OpId) (id : TrainId), s.keep.mgmtOn = true ∧ s.inStep n.val 5 = true ∧ id.node < 1024 ∧ id.domain < 65536 ∧ s.get Reg.ROUTE_NODE_VALID = 0) ∧
    (∃ (s : State) (n : OpId) (id : TrainId), s.keep.mgmtOn = true ∧ s.inStep n.val 5 = true ∧ id.node < 1024 ∧ id.domain < 65536 ∧ s.get Reg.ROUTE_NODE_VALID = 1 ∧ s.get
    Reg.ROUTE_NODE_DOMAIN ≠ id.domain) ∧
    (∃ (s : State) (n : OpId) (id : TrainId), s.keep.mgmtOn = true ∧ s.inStep n.val 5 = true ∧ id.node < 1024 ∧ id.domain < 65536 ∧ s.get Reg.ROUTE_NODE_VALID = 1 ∧ s.get
    Reg.ROUTE_NODE_DOMAIN = id.domain ∧ s.get Reg.ROUTE_NODE_NODE = id.node ∧ (s.get Reg.TWIN_STAT_PAIRED = 0 ∨ id.role = 0 ∨ id.role = s.get Reg.TWIN_STAT_ROLE)) ∧
    (∃ (s : State) (n : OpId) (id : TrainId), s.keep.mgmtOn = true ∧ s.inStep n.val 5 = true ∧ id.node < 1024 ∧ id.domain < 65536 ∧ s.get Reg.ROUTE_NODE_VALID = 1 ∧ s.get
    Reg.ROUTE_NODE_DOMAIN = id.domain ∧ (s.get Reg.ROUTE_NODE_NODE ≠ id.node ∨ s.isTwin id.role = true) ∧ s.brynn n.val = false ∧ b2n id.nrz ≠ s.get (Reg.LINK_CTL_MODE n.val) ∧ s.get
    (Reg.LINK_CTL_RETRY n.val) = 0) ∧
    (∃ (s : State) (n : OpId) (id : TrainId), s.keep.mgmtOn = true ∧ s.inStep n.val 5 = true ∧ id.node < 1024 ∧ id.domain < 65536 ∧ s.get Reg.ROUTE_NODE_VALID = 1 ∧ s.get
    Reg.ROUTE_NODE_DOMAIN = id.domain ∧ (s.get Reg.ROUTE_NODE_NODE ≠ id.node ∨ s.isTwin id.role = true) ∧ s.brynn n.val = false ∧ b2n id.nrz = s.get (Reg.LINK_CTL_MODE n.val) ∧ b2n id.far =
    s.get (Reg.LINK_CTL_FEC n.val) ∧ (∀ (l : Nat), l < 32 → (s.ringAt n.val false (laneLine (s.opAt n.val).remapTx l)).good = true) ∧ (s.opAt n.val).dark = 0 ∧ (s.opAt n.val).ackSent =
    false ∧ (s.opAt n.val).ackGot = false ∧ (s.opAt n.val).swapT = none ∧ (s.opAt n.val).swapQ = [] ∧ (s.opAt n.val).exhausted = false) ∧
    (∃ (s : State) (n : OpId) (e : Nat) (credits : List Nat), s.keep.mgmtOn = true ∧ s.inStep n.val 6 = true ∧ e < 16 ∧ e ≠ s.get (Reg.OP_STAT_EPOCH n.val) ∧ (∀ (c : Nat), c ∈ credits → c <
    65536)) ∧
    (∃ (s : State) (n : OpId) (credits : List Nat), s.keep.mgmtOn = true ∧ s.trained n.val = true ∧ (s.opAt n.val).txCr.length = 16 ∧ credits.length = 16) ∧
    (∃ (s : State) (n : OpId), s.keep.mgmtOn = true ∧ s.get (Reg.OP_STAT_PSTATE n.val) = 2 ∧ (∃ (c : Nat), c ∈ (s.opAt n.val).rxFreed ∧ c ≠ 0)) ∧
    (∃ (s : State) (n : OpId), s.keep.mgmtOn = true ∧ s.get (Reg.OP_STAT_PSTATE n.val) ∈ [3, 4] ∧ (s.opAt n.val).waking = false ∧ (∃ (c : Nat), c ∈ (s.opAt n.val).rxFreed ∧ c ≠ 0)) :=
  ⟨⟨wPort |>.put (Reg.OP_STAT_PSTATE (3 : OpId).val) 1 |>.put (Reg.OP_STAT_TSTEP (3 : OpId).val) (5) |>.put Reg.ROUTE_NODE_VALID (0), 3, (⟨7, 1, 0, 3, false, false, 0⟩ : TrainId), by decide +kernel⟩,
   ⟨wPort |>.put (Reg.OP_STAT_PSTATE (3 : OpId).val) 1 |>.put (Reg.OP_STAT_TSTEP (3 : OpId).val) (5) |>.put Reg.ROUTE_NODE_DOMAIN ((⟨7, 1, 0, 3, false, false, 0⟩ : TrainId).domain + 1), 3, (⟨7, 1, 0, 3, false, false, 0⟩ : TrainId), by decide +kernel⟩,
   ⟨wPort |>.put (Reg.OP_STAT_PSTATE (3 : OpId).val) 1 |>.put (Reg.OP_STAT_TSTEP (3 : OpId).val) (5) |>.put Reg.ROUTE_NODE_NODE ((⟨7, 1, 0, 3, false, false, 0⟩ : TrainId).node), 3, (⟨7, 1, 0, 3, false, false, 0⟩ : TrainId), by decide +kernel⟩,
   ⟨wRun |>.put (Reg.OP_STAT_PSTATE (3 : OpId).val) 1 |>.put (Reg.OP_STAT_TSTEP (3 : OpId).val) (5) |>.put (Reg.LINK_CTL_RETRY (3 : OpId).val) (0), 3, (⟨7, 1, 0, 3, true, false, 0⟩ : TrainId), by decide +kernel⟩,
   ⟨((List.range 32).foldl (fun s l => s.onRing 3 false l fun r => { r with lock := true }) wPort) |>.put (Reg.OP_STAT_PSTATE (3 : OpId).val) 1 |>.put (Reg.OP_STAT_TSTEP (3 : OpId).val) (5), 3, (⟨7, 1, 0, 3, false, false, 0⟩ : TrainId), by decide +kernel⟩,
   ⟨wPort |>.put (Reg.OP_STAT_PSTATE (3 : OpId).val) 1 |>.put (Reg.OP_STAT_TSTEP (3 : OpId).val) (6) |>.onOp (3 : OpId).val (fun m => { m with ackSent := true }), 3, 1, ([] : List Nat), by decide +kernel⟩,
   ⟨wPort, 3, List.replicate 16 2, by decide +kernel⟩,
   ⟨wPort |>.onOp 3 (fun o => { o with rxFreed := List.replicate 16 1 }), 3, by decide +kernel⟩,
   ⟨(wPort.put (Reg.OP_STAT_PSTATE 3) 3).onOp 3 fun o => { o with rxFreed := [2] }, 3, by decide +kernel⟩⟩

theorem witness_KeysAndTheScrubber :
    (∃ (s : State) (p : Path), s.writable p 20640 1 = true) ∧
    (∃ (s : State) (p : Path), s.writable p 20640 2 = true) ∧
    (∃ (s : State) (f : Nat) (back : List Byte), s.get Reg.CFG_SCRUB_EN = 1 ∧ s.keep.domainsOn = true ∧ s.cellClocked = true ∧ s.scrubFrame = some f ∧ toBytes (sha256 (toVals back)) =
    s.goldOf f) ∧
    (∃ (s : State) (f : Nat) (back good : List Byte), s.get Reg.CFG_SCRUB_EN = 1 ∧ s.keep.domainsOn = true ∧ s.cellClocked = true ∧ s.scrubFrame = some f ∧ toBytes (sha256 (toVals back)) ≠
    s.goldOf f ∧ s.get Reg.CFG_POL_SCRUB_MODE = 1 ∧ (tget { } s.mgmt.loadedFrom (framePart f)).src = LoadSrc.loft ∧ (tget { } s.nv.loft (2 + (tget { } s.mgmt.loadedFrom (framePart
    f)).slot)).committed = true ∧ (tget { } s.nv.loft (2 + (tget { } s.mgmt.loadedFrom (framePart f)).slot)).gen = (tget { } s.mgmt.loadedFrom (framePart f)).gen ∧ s.reread f (tget { }
    s.mgmt.loadedFrom (framePart f)).slot = some good) ∧
    (∃ (s : State) (f : Nat) (back : List Byte) (ue : Bool), s.get Reg.CFG_SCRUB_EN = 1 ∧ s.keep.domainsOn = true ∧ s.cellClocked = true ∧ s.scrubFrame = some f ∧ toBytes (sha256 (toVals
    back)) ≠ s.goldOf f ∧ (ue = true ∨ s.get Reg.CFG_POL_SCRUB_MODE = 0 ∨ s.reread f (tget { } s.mgmt.loadedFrom (framePart f)).slot = none)) :=
  ⟨⟨wRun, Path.msp, by decide +kernel⟩,
   ⟨wRun, Path.msp, by decide +kernel⟩,
   ⟨wRun |>.put Reg.CFG_LOADED_LOADED 0x40 |>.onMgmt (fun m => { m with goldOk := 0x40 }) |>.onNv (fun v => { v with gold := [(2048 * 6, toBytes (sha256 (toVals [1])))] , loft := [(2, { committed := true, gen := 3 })] }) |>.onMgmt (fun m => { m with loadedFrom := [(6, { src := .loft, slot := 0, gen := 3 })] }), 2048 * 6, [1], by decide +kernel⟩,
   ⟨wScrub, 12288, [], List.replicate 4096 0, by (repeat' apply And.intro) <;> first | decide +kernel | exact wScrub_reread⟩,
   ⟨wRun |>.put Reg.CFG_LOADED_LOADED 0x40 |>.onMgmt (fun m => { m with goldOk := 0x40 }) |>.onNv (fun v => { v with gold := [(2048 * 6, toBytes (sha256 (toVals [1])))] , loft := [(2, { committed := true, gen := 3 })] }) |>.onMgmt (fun m => { m with loadedFrom := [(6, { src := .loft, slot := 0, gen := 3 })] }), 2048 * 6, [2], false, by decide +kernel⟩⟩

theorem witness_LinkResetsLoopsAndPeerDown :
    (∃ (s : State) (n : OpId) (p : Path) (v : Word), s.keep.mgmtOn = true ∧ s.trained n.val = true ∧ s.writable p ((48 + n.val) * 4096 + 64) (BitVec.toNat v) = true ∧ BitVec.toNat v % 2 = 0
    ∧ s.get (Reg.LINK_CTL_EN n.val) = 1) ∧
    (∃ (s : State) (n : OpId) (p : Path) (v : Word), s.keep.mgmtOn = true ∧ s.trained n.val = true ∧ s.writable p ((48 + n.val) * 4096 + 64) (BitVec.toNat v) = true ∧ BitVec.toNat v % 2 = 1
    ∧ s.get (Reg.LINK_CTL_EN n.val) = 1 ∧ BitVec.toNat v / 2 % 8 = s.get (Reg.LINK_CTL_COMPAT n.val) + 2 * s.get (Reg.LINK_CTL_MODE n.val) + 4 * s.get (Reg.LINK_CTL_FEC n.val)) ∧
    (∃ (s : State) (n : OpId) (p : Path) (v : Word), s.keep.mgmtOn = true ∧ 3 ≤ s.power ∧ s.get (Reg.LINK_CTL_EN n.val) = 1 ∧ s.writable p ((48 + n.val) * 4096 + 112) (BitVec.toNat v) =
    true ∧ BitVec.toNat v % 4 ≠ 0 ∧ s.get (Reg.OP_LB_MODE n.val) = 0) ∧
    (∃ (s : State) (n : OpId), s.keep.mgmtOn = true ∧ s.brynn n.val = false ∧ s.trained n.val = true ∧ (s.opAt n.val).farLoop = false) ∧
    (∃ (s : State) (n : OpId), s.keep.mgmtOn = true ∧ s.brynn n.val = true) ∧
    (∃ (s : State) (n : OpId) (enter : Bool), s.keep.mgmtOn = true ∧ (s.opAt n.val).loopReq = some enter) ∧
    (∃ (s : State) (node : Nat), s.keep.mgmtOn = true ∧ node < 1024) ∧
    (∃ (s : State) (n : OpId), s.keep.mgmtOn = true ∧ (s.opAt n.val).lossTimer = true ∧ s.trained n.val = true) ∧
    (∃ (s : State) (n : OpId) (lane syms : Nat), s.keep.mgmtOn = true ∧ s.trained n.val = true ∧ lane < 32 ∧ s.get (Reg.OP_ERR_LIM_SYM n.val) ≤ tget 0 (s.opAt n.val).errs lane + syms ∧
    bitOf (s.opAt n.val).errLanes lane = false ∧ lineLane (s.opAt n.val).remapRx (laneLine (s.opAt n.val).remapRx lane) = some lane ∧ s.canSwap n.val = true ∧ s.get (Reg.LAM_CTL_AUTO_SPARE
    n.val) = 1) ∧
    (∃ (s : State) (n : OpId) (lane syms : Nat), s.keep.mgmtOn = true ∧ s.trained n.val = true ∧ (bitOf (s.opAt n.val).errLanes lane = true ∨ tget 0 (s.opAt n.val).errs lane + syms < s.get
    (Reg.OP_ERR_LIM_SYM n.val))) :=
  ⟨⟨wPort, 3, Path.msp, 0, by decide +kernel⟩,
   ⟨wPort, 3, Path.msp, 1, by decide +kernel⟩,
   ⟨wPort, 3, Path.msp, 1, by decide +kernel⟩,
   ⟨wPort, 3, by decide +kernel⟩,
   ⟨wRun |>.put (Reg.LINK_CTL_COMPAT (3 : OpId).val) 1, 3, by decide +kernel⟩,
   ⟨wPort |>.onOp (3 : OpId).val (fun m => { m with loopReq := some false }), 3, false, by decide +kernel⟩,
   ⟨wRun, 0, by decide +kernel⟩,
   ⟨wPort |>.onOp (3 : OpId).val (fun m => { m with lossTimer := true }), 3, by decide +kernel⟩,
   ⟨wPort |>.put (Reg.OP_ERR_LIM_SYM (3 : OpId).val) 0, 3, 0, 0, by decide +kernel⟩,
   ⟨wPort, 3, 0, 0, by decide +kernel⟩⟩

theorem witness_LostLightFlapsAndStorms :
    (∃ (s : State) (r : RingId), s.keep.mgmtOn = true ∧ s.tuneRuns = true ∧ (s.ringOf r).lock = true ∧ (s.ringOf r).low = false ∧ (s.ringOf r).masked = false ∧ (s.ringOf r).flaps = 15) ∧
    (∃ (s : State) (r : RingId) (lane : Nat), s.keep.mgmtOn = true ∧ s.tuneRuns = true ∧ (s.ringOf r).lock = true ∧ (s.ringOf r).low = false ∧ (s.ringOf r).masked = false ∧ (s.ringOf
    r).flaps < 15 ∧ (s.ringOf r).bad = false ∧ r.rx = false ∧ lineLane (s.opAt r.port.val).remapTx r.idx.val = some lane ∧ s.canSwap r.port.val = true ∧ s.get (Reg.LAM_CTL_AUTO_SPARE
    r.port.val) = 1 ∧ (s.opAt r.port.val).swapT = none ∧ (s.opAt r.port.val).swapQ = [] ∧ s.freeSpares r.port.val = []) ∧
    (∃ (s : State) (r : RingId), s.keep.mgmtOn = true ∧ s.tuneRuns = true ∧ ((s.ringOf r).lock = false ∨ (s.ringOf r).low = true ∨ (s.ringOf r).masked = true)) ∧
    (∃ (s : State) (r : RingId), s.keep.mgmtOn = true ∧ s.tuneRuns = true ∧ (s.opAt r.port.val).exhausted = false) ∧
    (∃ (s : State) (line : Nat), s.keep.mgmtOn = true ∧ s.tuneRuns = true ∧ 36 ≤ line) ∧
    (∃ (s : State) (n : OpId) (k : Fin 36), s.keep.mgmtOn = true ∧ s.tuneRuns = true ∧ (s.ringOf { port := n, rx := true, idx := k }).masked = false ∧ (s.ringOf { port := n, rx := true, idx
    := k }).los = false ∧ s.trained n.val = true) ∧
    (∃ (s : State) (n : OpId) (k : Fin 36), s.keep.mgmtOn = true ∧ s.tuneRuns = true ∧ (s.ringOf { port := n, rx := true, idx := k }).masked = false ∧ (s.ringOf { port := n, rx := true, idx
    := k }).los = false ∧ (s.ringOf { port := n, rx := true, idx := k }).flaps < 15 ∧ (s.ringOf { port := n, rx := true, idx := k }).bad = false) ∧
    (∃ (s : State) (n : OpId) (k : Fin 36), s.keep.mgmtOn = true ∧ s.tuneRuns = true ∧ (s.ringOf { port := n, rx := true, idx := k }).masked = false ∧ (s.ringOf { port := n, rx := true, idx
    := k }).los = false ∧ (s.ringOf { port := n, rx := true, idx := k }).flaps = 15) ∧
    (∃ (s : State) (p : Path) (n : OpId) (k : Fin 36), s.keep.mgmtOn = true ∧ s.tuneRuns = true ∧ s.writable p ((64 + n.val) * 4096 + 88) (2 ^ 23) = true ∧ s.get (Reg.LAM_SEL_LINE n.val) =
    k.val) :=
  ⟨⟨wPort |>.onRing 3 false 6 (fun r => { r with lock := true, flaps := 15 }), (⟨3, false, 6⟩ : RingId), by decide +kernel⟩,
   ⟨((wRun.put (Reg.OP_STAT_PSTATE 3) 2).put (Reg.LAM_CTL_AUTO_SPARE 3) 1).onRing 3 false 5 fun r => { r with lock := true }, ⟨3, false, 5⟩, 5, by decide +kernel⟩,
   ⟨wPort, (⟨3, false, 6⟩ : RingId), by decide +kernel⟩,
   ⟨wPort |>.onRing (⟨3, false, 6⟩ : RingId).port (⟨3, false, 6⟩ : RingId).rx (⟨3, false, 6⟩ : RingId).idx (fun m => { m with lock := true }), (⟨3, false, 6⟩ : RingId), by decide +kernel⟩,
   ⟨wPort |>.onRing (⟨3, false, 6⟩ : RingId).port (⟨3, false, 6⟩ : RingId).rx (⟨3, false, 6⟩ : RingId).idx (fun m => { m with lock := true }), 2048 * 6, by decide +kernel⟩,
   ⟨wPort, 3, 5, by decide +kernel⟩,
   ⟨wPort, 3, 5, by decide +kernel⟩,
   ⟨wPort.onRing 3 true 5 fun r => { r with flaps := 15 }, 3, 5, by decide +kernel⟩,
   ⟨wPort.put (Reg.LAM_SEL_LINE 3) 5, .msp, 3, 5, by decide +kernel⟩⟩

theorem witness_LowPowerHandshakes :
    (∃ (s : State) (n : OpId), s.get (Reg.OP_STAT_PSTATE n.val) = 2 ∧ s.lpsOk n.val = true ∧ s.get (Reg.OP_LPS_IDLE_NAP n.val) ≠ 0 ∧ (s.opAt n.val).lps = LpsReq.none) ∧
    (∃ (s : State) (n : OpId), s.get (Reg.OP_STAT_PSTATE n.val) = 3 ∧ s.lpsOk n.val = true ∧ s.get (Reg.OP_LPS_NAP_DOZE n.val) ≠ 0 ∧ (s.opAt n.val).lps = LpsReq.none) ∧
    (∃ (s : State) (n : OpId), s.get (Reg.OP_STAT_PSTATE n.val) = 2 ∧ s.brynn n.val = false ∧ (s.opAt n.val).lps = LpsReq.nap) ∧
    (∃ (s : State) (n : OpId), s.get (Reg.OP_STAT_PSTATE n.val) = 2 ∧ s.brynn n.val = false ∧ (s.opAt n.val).lps ≠ LpsReq.nap ∧ s.lpsOk n.val = true ∧ s.txIdle n.val = true) ∧
    (∃ (s : State) (n : OpId), s.get (Reg.OP_STAT_PSTATE n.val) = 2 ∧ s.brynn n.val = false ∧ (s.opAt n.val).lps ≠ LpsReq.nap ∧ (s.lpsOk n.val = false ∨ s.txIdle n.val = false)) ∧
    (∃ (s : State) (n : OpId), s.get (Reg.OP_STAT_PSTATE n.val) = 3 ∧ s.brynn n.val = false ∧ (s.opAt n.val).lps = LpsReq.doze) ∧
    (∃ (s : State) (n : OpId), s.get (Reg.OP_STAT_PSTATE n.val) = 3 ∧ s.brynn n.val = false ∧ (s.opAt n.val).lps ≠ LpsReq.doze ∧ s.lpsOk n.val = true ∧ s.txIdle n.val = true) ∧
    (∃ (s : State) (n : OpId), s.get (Reg.OP_STAT_PSTATE n.val) = 3 ∧ s.brynn n.val = false ∧ (s.opAt n.val).lps ≠ LpsReq.doze ∧ (s.lpsOk n.val = false ∨ s.txIdle n.val = false)) ∧
    (∃ (s : State) (n : OpId), s.get (Reg.OP_STAT_PSTATE n.val) ∈ [3, 4] ∧ (s.opAt n.val).waking = false) ∧
    (∃ (s : State) (n : OpId), (s.opAt n.val).waking = true ∧ (s.opAt n.val).lctlQ = []) ∧
    (∃ (s : State) (n : OpId) (code : Nat) (fields : List Nat), s.trained n.val = true ∧ (s.opAt n.val).waking = true ∧ (s.opAt n.val).lctlQ = [(code, fields)] ∧ code ≠ 48 ∧ code ≠ 49) :=
  ⟨⟨wPort, 3, by decide +kernel⟩,
   ⟨wPort |>.put (Reg.OP_STAT_PSTATE (3 : OpId).val) (3), 3, by decide +kernel⟩,
   ⟨wPort |>.onOp (3 : OpId).val (fun m => { m with lps := LpsReq.nap }), 3, by decide +kernel⟩,
   ⟨wPort, 3, by decide +kernel⟩,
   ⟨wPort |>.onOp 3 (fun o => { o with ackQ := [wFrame] }), 3, by decide +kernel⟩,
   ⟨wPort |>.put (Reg.OP_STAT_PSTATE (3 : OpId).val) (3) |>.onOp (3 : OpId).val (fun m => { m with lps := LpsReq.doze }), 3, by decide +kernel⟩,
   ⟨wPort |>.put (Reg.OP_STAT_PSTATE (3 : OpId).val) (3), 3, by decide +kernel⟩,
   ⟨wPort |>.put (Reg.OP_STAT_PSTATE (3 : OpId).val) (3) |>.onOp 3 (fun o => { o with ackQ := [wFrame] }), 3, by decide +kernel⟩,
   ⟨wPort |>.put (Reg.OP_STAT_PSTATE (3 : OpId).val) (3), 3, by decide +kernel⟩,
   ⟨wPort |>.onOp (3 : OpId).val (fun m => { m with waking := true }), 3, by decide +kernel⟩,
   ⟨wPort.onOp 3 fun o => { o with waking := true, lctlQ := [(16, [])] }, 3, 16, [], by decide +kernel⟩⟩

theorem witness_MailboxActions :
    (∃ (s : State) (p : Path), s.mgmt.mbox = none ∧ s.keep.mgmtOn = true ∧ s.takesUp p 48 = true ∧ 65535 < s.arg 0) ∧
    (∃ (s : State) (p : Path), s.mgmt.mbox = none ∧ s.keep.mgmtOn = true ∧ s.takesUp p 48 = true ∧ s.arg 0 ≤ 65535) ∧
    (∃ (s : State) (p : Path), s.mgmt.mbox = none ∧ s.keep.mgmtOn = true ∧ s.takesUp p 49 = true ∧ s.get Reg.CELL_STAT_WIN = 0) ∧
    (∃ (s : State) (p : Path) (env : CellEnv), s.mgmt.mbox = none ∧ s.keep.mgmtOn = true ∧ s.takesUp p 49 = true ∧ cellQuiet env = true ∧ s.get Reg.CELL_STAT_WIN ≠ 0) ∧
    (∃ (s : State) (p : Path), s.mgmt.mbox = none ∧ s.keep.mgmtOn = true ∧ s.takesUp p 50 = true ∧ (15 < s.arg 0 ∨ s.laneCount (s.arg 0) ≤ s.arg 1 ∨ ¬(s.arg 2 = 255 ∨ 32 ≤ s.arg 2 ∧ s.arg 2
    < 36))) ∧
    (∃ (s : State) (p : Path), s.mgmt.mbox = none ∧ s.keep.mgmtOn = true ∧ s.takesUp p 50 = true ∧ s.arg 0 ≤ 15 ∧ s.brynn (s.arg 0) = true ∧ s.arg 1 < 16 ∧ s.arg 2 = 255) ∧
    (∃ (s : State) (p : Path) (k : Nat), s.mgmt.mbox = none ∧ s.keep.mgmtOn = true ∧ s.takesUp p 50 = true ∧ s.arg 0 ≤ 15 ∧ s.canSwap (s.arg 0) = true ∧ s.arg 1 < 32 ∧ (s.opAt (s.arg
    0)).swapT = none ∧ (s.opAt (s.arg 0)).swapQ = [] ∧ (s.arg 2 = 255 ∧ (s.freeSpares (s.arg 0)).head? = some k ∨ s.arg 2 = k ∧ 32 ≤ k ∧ k < 36 ∧ (s.ringAt (s.arg 0) false k).good = true ∧
    lineLane (s.opAt (s.arg 0)).remapTx k = none)) ∧
    (∃ (s : State) (p : Path), s.mgmt.mbox = none ∧ s.keep.mgmtOn = true ∧ s.takesUp p 50 = true ∧ s.arg 0 ≤ 15 ∧ s.canSwap (s.arg 0) = true ∧ s.arg 1 < 32 ∧ (s.opAt (s.arg 0)).swapT = none
    ∧ (s.opAt (s.arg 0)).swapQ = [] ∧ s.arg 2 = 255 ∧ s.freeSpares (s.arg 0) = []) ∧
    (∃ (s : State) (p : Path), s.mgmt.mbox = none ∧ s.keep.mgmtOn = true ∧ s.takesUp p 51 = true ∧ s.arg 1 = 0 ∧ s.arg 0 < 4 ∧ s.get Reg.COMB_STAT_SW_ACTIVE = 0 ∧ bitOf (s.get
    Reg.COMB_STAT_FAILED) 4 = false ∧ bitOf (s.get Reg.COMB_STAT_LIT) 4 = true) ∧
    (∃ (s : State) (p : Path), s.mgmt.mbox = none ∧ s.keep.mgmtOn = true ∧ s.takesUp p 51 = true ∧ s.arg 1 = 0 ∧ s.arg 0 < 4 ∧ s.onCombs (s.arg 0) = true) ∧
    (∃ (s : State) (p : Path), s.mgmt.mbox = none ∧ s.keep.mgmtOn = true ∧ s.takesUp p 51 = true ∧ s.arg 1 = 0 ∧ s.arg 0 < 4 ∧ s.onCombs (s.arg 0) = false ∧ (s.get Reg.COMB_STAT_SW_ACTIVE ≠
    0 ∨ bitOf (s.get Reg.COMB_STAT_FAILED) 4 = true)) ∧
    (∃ (s : State) (p : Path) (up : ModuleUp), s.mgmt.mbox = none ∧ s.keep.mgmtOn = true ∧ s.takesUp p 51 = true ∧ s.arg 1 = 0 ∧ s.arg 0 < 4 ∧ s.get Reg.COMB_STAT_SW_ACTIVE = 0 ∧ bitOf
    (s.get Reg.COMB_STAT_FAILED) 4 = false ∧ bitOf (s.get Reg.COMB_STAT_LIT) 4 = false ∧ up.answers = []) ∧
    (∃ (s : State) (p : Path) (power : Nat), s.mgmt.mbox = none ∧ s.keep.mgmtOn = true ∧ s.takesUp p 51 = true ∧ s.arg 1 = 0 ∧ s.arg 0 < 4 ∧ s.get Reg.COMB_STAT_SW_ACTIVE = 0 ∧ bitOf (s.get
    Reg.COMB_STAT_FAILED) 4 = false ∧ bitOf (s.get Reg.COMB_STAT_LIT) 4 = false ∧ power < 2 ^ (Reg.COMB_PWR_REF 4).width) ∧
    (∃ (s : State) (p : Path), s.mgmt.mbox = none ∧ s.keep.mgmtOn = true ∧ s.takesUp p 51 = true ∧ s.arg 1 = 1 ∧ s.arg 0 < 4 ∧ s.onCombs (s.arg 0) = false) ∧
    (∃ (s : State) (p : Path), s.mgmt.mbox = none ∧ s.keep.mgmtOn = true ∧ s.takesUp p 51 = true ∧ s.arg 1 = 1 ∧ s.arg 0 < 4 ∧ s.onCombs (s.arg 0) = true ∧ bitOf (s.get
    Reg.COMB_STAT_FAILED) (s.arg 0) = true) ∧
    (∃ (s : State) (p : Path), s.mgmt.mbox = none ∧ s.keep.mgmtOn = true ∧ s.takesUp p 51 = true ∧ s.arg 1 = 1 ∧ s.arg 0 < 4 ∧ s.onCombs (s.arg 0) = true ∧ bitOf (s.get
    Reg.COMB_STAT_FAILED) (s.arg 0) = false ∧ bitOf (s.get Reg.COMB_STAT_LIT) (s.arg 0) = true ∧ bitOf (s.get Reg.COMB_STAT_LOL) (s.arg 0) = false ∧ s.get Reg.COMB_CTL_AUTO_SW = 0) ∧
    (∃ (s : State), s.mgmt.mbox = none ∧ s.keep.mgmtOn = true ∧ s.arg 1 ≠ 0) ∧
    (∃ (s : State), s.mgmt.mbox = none ∧ s.keep.mgmtOn = true ∧ s.arg 1 ≠ 1) ∧
    (∃ (s : State) (p : Path), s.mgmt.mbox = none ∧ s.keep.mgmtOn = true ∧ s.takesUp p 64 = true ∧ (31 < s.arg 0 ∨ s.tileFailed (s.arg 0) = true)) ∧
    (∃ (s : State) (p : Path), s.mgmt.mbox = none ∧ s.keep.mgmtOn = true ∧ s.takesUp p 64 = true ∧ s.arg 0 ≤ 31 ∧ s.tileFailed (s.arg 0) = false) ∧
    (∃ (s : State) (p : Path), s.mgmt.mbox = none ∧ s.keep.mgmtOn = true ∧ s.takesUp p 80 = true ∧ s.arg 0 = 1 ∧ s.get Reg.TWIN_STAT_PAIRED ≠ 0) ∧
    (∃ (s : State) (p : Path), s.mgmt.mbox = none ∧ s.keep.mgmtOn = true ∧ s.takesUp p 80 = true ∧ s.arg 0 = 1 ∧ s.get Reg.TWIN_STAT_PAIRED = 0) ∧
    (∃ (s : State) (p : Path), s.mgmt.mbox = none ∧ s.keep.mgmtOn = true ∧ s.takesUp p 80 = true ∧ s.arg 0 = 0) ∧
    (∃ (s : State) (p : Path), s.mgmt.mbox = none ∧ s.keep.mgmtOn = true ∧ s.takesUp p 80 = true ∧ s.arg 0 = 2 ∧ s.get Reg.TWIN_STAT_PAIRED = 0) ∧
    (∃ (s : State) (p : Path), s.mgmt.mbox = none ∧ s.keep.mgmtOn = true ∧ s.takesUp p 80 = true ∧ s.arg 0 = 2 ∧ s.get Reg.TWIN_STAT_PAIRED ≠ 0 ∧ (s.get Reg.TWIN_STAT_ROLE ≠ 1 ∨ s.get
    Reg.TWIN_STAT_STATE ≠ 3)) ∧
    (∃ (s : State) (p : Path), s.mgmt.mbox = none ∧ s.keep.mgmtOn = true ∧ s.takesUp p 80 = true ∧ s.arg 0 = 2 ∧ s.get Reg.TWIN_STAT_PAIRED ≠ 0 ∧ s.get Reg.TWIN_STAT_ROLE = 1 ∧ s.get
    Reg.TWIN_STAT_STATE = 3 ∧ s.twin.recs.length ≤ 255 ∧ s.twin.batches.length < 16) ∧
    (∃ (s : State), s.mgmt.mbox = none ∧ s.keep.mgmtOn = true ∧ s.arg 0 ≠ 1) ∧
    (∃ (s : State), s.mgmt.mbox = none ∧ s.keep.mgmtOn = true ∧ s.arg 0 ≠ 0) ∧
    (∃ (s : State), s.mgmt.mbox = none ∧ s.keep.mgmtOn = true ∧ s.arg 0 ≠ 2) :=
  ⟨⟨wPort |>.put (Reg.MBOX_ARG_ARG 0) 65536, Path.msp, by decide +kernel⟩,
   ⟨wPort |>.put Reg.CELL_STAT_WIN (0), Path.msp, by decide +kernel⟩,
   ⟨wPort |>.put Reg.CELL_STAT_WIN (0), Path.msp, by decide +kernel⟩,
   ⟨wPort |>.put (Reg.MBOX_ARG_ARG 0) 65536, Path.msp, ({} : CellEnv), by decide +kernel⟩,
   ⟨wPort |>.put (Reg.MBOX_ARG_ARG 0) 65536, Path.msp, by decide +kernel⟩,
   ⟨wPort |>.put (Reg.MBOX_ARG_ARG 0) 3 |>.put (Reg.MBOX_ARG_ARG 1) 1 |>.put (Reg.MBOX_ARG_ARG 2) 255 |>.put (Reg.LINK_CTL_COMPAT 3) 1, Path.msp, by decide +kernel⟩,
   ⟨wPort |>.put (Reg.MBOX_ARG_ARG 0) 3 |>.put (Reg.MBOX_ARG_ARG 1) 1 |>.put (Reg.MBOX_ARG_ARG 2) 255, Path.msp, 34, by decide +kernel⟩,
   ⟨wPort |>.put (Reg.MBOX_ARG_ARG 0) 3 |>.put (Reg.MBOX_ARG_ARG 1) 1 |>.put (Reg.MBOX_ARG_ARG 2) 255 |>.onRing 3 false 34 (fun _ => {}) |>.onRing 3 false 35 (fun _ => {}), Path.msp, by decide +kernel⟩,
   ⟨wPort |>.put (Reg.MBOX_ARG_ARG 0) (1) |>.put Reg.COMB_STAT_LIT (2 ^ (4)), Path.msp, by decide +kernel⟩,
   ⟨wPort |>.put (Reg.MBOX_ARG_ARG 0) (1) |>.put Reg.COMB_STAT_SW_ACTIVE 1 |>.put Reg.COMB_STAT_SW_QUAD 1, Path.msp, by decide +kernel⟩,
   ⟨wPort |>.put (Reg.MBOX_ARG_ARG 0) (1) |>.put Reg.COMB_STAT_SW_ACTIVE 1, Path.msp, by decide +kernel⟩,
   ⟨wPort, .msp, {}, by decide +kernel⟩,
   ⟨wPort |>.put (Reg.MBOX_ARG_ARG 0) (1), Path.msp, 1, by decide +kernel⟩,
   ⟨wPort |>.put (Reg.MBOX_ARG_ARG 0) 3 |>.put (Reg.MBOX_ARG_ARG 1) 1 |>.put (Reg.MBOX_ARG_ARG 2) 255 |>.put (Reg.LINK_CTL_COMPAT 3) 1, Path.msp, by decide +kernel⟩,
   ⟨wPort |>.put (Reg.MBOX_ARG_ARG 1) (1) |>.put (Reg.MBOX_ARG_ARG 0) (1) |>.put Reg.COMB_STAT_FAILED (2 ^ 1) |>.put Reg.COMB_STAT_SW_ACTIVE 1 |>.put Reg.COMB_STAT_SW_QUAD 1, Path.msp, by decide +kernel⟩,
   ⟨wPort |>.put (Reg.MBOX_ARG_ARG 1) (1) |>.put (Reg.MBOX_ARG_ARG 0) (1) |>.put Reg.COMB_CTL_AUTO_SW (0) |>.put Reg.COMB_CTL_SPARE_HOT (0) |>.put Reg.COMB_STAT_SW_ACTIVE 1 |>.put Reg.COMB_STAT_SW_QUAD 1 |>.put Reg.COMB_STAT_LIT 2, Path.msp, by decide +kernel⟩,
   ⟨wPort |>.put (Reg.MBOX_ARG_ARG 0) 1 |>.put (Reg.MBOX_ARG_ARG 1) 1, by decide +kernel⟩,
   ⟨wPort, by decide +kernel⟩,
   ⟨wPort |>.put (Reg.MBOX_ARG_ARG 0) 65536, Path.msp, by decide +kernel⟩,
   ⟨wPort |>.put Reg.CELL_STAT_WIN (0), Path.msp, by decide +kernel⟩,
   ⟨wPort |>.put (Reg.MBOX_ARG_ARG 0) (1) |>.put Reg.TWIN_STAT_PAIRED 1, Path.msp, by decide +kernel⟩,
   ⟨wPort |>.put (Reg.MBOX_ARG_ARG 0) (1) |>.put Reg.TWIN_STAT_LINK_UP 1, Path.msp, by decide +kernel⟩,
   ⟨wPort |>.put Reg.CELL_STAT_WIN (0), Path.msp, by decide +kernel⟩,
   ⟨wPort |>.put (Reg.MBOX_ARG_ARG 0) (2), Path.msp, by decide +kernel⟩,
   ⟨wPort |>.put (Reg.MBOX_ARG_ARG 0) (2) |>.put Reg.TWIN_STAT_PAIRED 1, Path.msp, by decide +kernel⟩,
   ⟨wPort |>.put (Reg.MBOX_ARG_ARG 0) (2) |>.put Reg.TWIN_STAT_PAIRED 1 |>.put Reg.TWIN_STAT_ROLE (1) |>.put Reg.TWIN_STAT_STATE (3), Path.msp, by decide +kernel⟩,
   ⟨wPort, by decide +kernel⟩,
   ⟨wPort |>.put (Reg.MBOX_ARG_ARG 0) 1 |>.put (Reg.MBOX_ARG_ARG 1) 1, by decide +kernel⟩,
   ⟨wPort |>.put (Reg.MBOX_ARG_ARG 0) 1 |>.put (Reg.MBOX_ARG_ARG 1) 1, by decide +kernel⟩⟩

theorem witness_MailboxOwnershipChecksAndEnds :
    (∃ (s : State) (p : Path), s.serves p = true ∧ s.keep.mgmtOn = true ∧ s.get Reg.MBOX_OWN_OWNER = 0) ∧
    (∃ (s : State) (p : Path), s.serves p = true ∧ s.keep.mgmtOn = true ∧ s.get Reg.MBOX_OWN_OWNER ≠ 0) ∧
    (∃ (s : State) (p : Path), s.serves p = true ∧ s.keep.mgmtOn = true ∧ s.get Reg.MBOX_OWN_OWNER = pathCode p ∧ s.get Reg.MBOX_ST_BUSY = 0) ∧
    (∃ (s : State), s.serves Path.hatch = true ∧ s.keep.mgmtOn = true) ∧
    (∃ (s : State) (p : Path), s.serves p = true ∧ s.keep.mgmtOn = true ∧ p ≠ Path.hatch ∧ (s.get Reg.MBOX_OWN_OWNER ≠ pathCode p ∨ s.get Reg.MBOX_ST_BUSY ≠ 0)) ∧
    (∃ (s : State) (p : Path) (env : CellEnv) (c : Instr × Nat), c ∈ mboxCommands p env ∧ s.writable p 57412 (2 ^ 31 + c.snd) = true ∧ s.get Reg.MBOX_ST_BUSY ≠ 0) ∧
    (∃ (s : State) (p : Path) (env : CellEnv) (c : Instr × Nat), c ∈ mboxCommands p env ∧ s.serves p = true ∧ s.keep.mgmtOn = true ∧ s.get Reg.MBOX_OWN_OWNER ≠ pathCode p) ∧
    (∃ (s : State) (p : Path) (env : CellEnv) (c : Instr × Nat), c ∈ mboxCommands p env ∧ s.issuable p c.snd = true ∧ s.mboxCheck c.snd ≠ 0) ∧
    (∃ (s : State) (p : Path) (env : CellEnv) (c : Instr × Nat), c ∈ mboxCommands p env ∧ s.writable p 57412 (2 ^ 31 + c.snd) = true ∧ s.get Reg.MBOX_ST_BUSY = 0 ∧ s.mgmt.hkRun = false) ∧
    (∃ (s : State) (p : Path) (env : CellEnv) (c : Instr × Nat), c ∈ mboxCommands p env ∧ s.issuable p c.snd = true ∧ s.mboxCheck c.snd = 0 ∧ s.cellStuck c.snd = true) ∧
    (∃ (s : State) (p : Path) (env : CellEnv) (c : Instr × Nat), c ∈ mboxCommands p env ∧ s.keep.inTrap = true ∧ ¬c.snd ∈ [1, 2, 3, 16, 17, 96, 97, 98]) ∧
    (∃ (s : State) (p : Path) (env : CellEnv) (c : Instr × Nat), c ∈ mboxCommands p env ∧ s.keep.inTrap = false ∧ s.get Reg.MBOX_ST_ROM ≠ 0 ∧ ¬c.snd ∈ [1, 2, 3, 16, 17, 97]) ∧
    (∃ (s : State) (p : Path) (env : CellEnv) (c : Instr × Nat), c ∈ mboxCommands p env ∧ s.keep.inTrap = false ∧ s.get Reg.MBOX_ST_ROM = 0 ∧ (c.snd ∈ [32, 96, 98, 112] → s.power < 2) ∧
    (c.snd ∈ [48, 49, 50, 64] → s.power < 3) ∧ (c.snd ∈ [113, 114] → s.power < 4) ∧ (c.snd ∈ [1, 2, 3, 16, 17, 97] → s.power < 1)) ∧
    (∃ (s : State) (p : Path) (env : CellEnv) (c : Instr × Nat), c ∈ mboxCommands p env ∧ 4 ≤ s.power ∧ s.keep.inTrap = false ∧ s.get Reg.MBOX_ST_ROM = 0 ∧ s.get Reg.PWR_STAT_BUSY ≠ 0 ∧
    s.get Reg.PWR_STAT_DIR ≠ 0) ∧
    (∃ (s : State) (p : Path) (op : Byte), mboxRow (BitVec.toNat op) = none ∧ s.issuable p (BitVec.toNat op) = true) ∧
    (∃ (s : State), s.mboxReady = false) ∧
    (∃ (s : State) (r : MboxRun), s.mgmt.mbox = some r ∧ s.keep.mgmtOn = true ∧ r.code < 256 ∧ r.res.length ≤ 8 ∧ s.mboxReady = true ∧ (r.code ≠ 0 ∨ r.op ≠ 48 ∧ r.op ≠ 96)) ∧
    (∃ (s : State) (r : MboxRun), s.mgmt.mbox = some r ∧ s.keep.mgmtOn = true ∧ r.code < 256 ∧ r.res.length ≤ 8 ∧ s.mboxReady = true ∧ r.op = 48 ∧ r.code = 0) ∧
    (∃ (s : State) (r : MboxRun), s.mgmt.mbox = some r ∧ s.keep.mgmtOn = true ∧ r.code < 256 ∧ r.res.length ≤ 8 ∧ s.mboxReady = true ∧ r.op = 96 ∧ r.code = 0 ∧ r.res.getD 0 0 < 8) ∧
    (∃ (s : State) (p : Path) (r : MboxRun), s.mgmt.mbox = some r ∧ s.keep.mgmtOn = true ∧ r.code < 256 ∧ r.res.length ≤ 8 ∧ s.writable p 57420 1 = true) :=
  ⟨⟨wRun |>.put Reg.MBOX_OWN_OWNER (0), Path.msp, by decide +kernel⟩,
   ⟨wRun, Path.msp, by decide +kernel⟩,
   ⟨wRun, Path.msp, by decide +kernel⟩,
   ⟨wRun, by decide +kernel⟩,
   ⟨wRun |>.put Reg.MBOX_OWN_OWNER (0), Path.msp, by decide +kernel⟩,
   ⟨wRun |>.put Reg.MBOX_ST_BUSY 1, Path.msp, ({} : CellEnv), (Instr.ping Path.msp, 1), by decide +kernel⟩,
   ⟨wRun |>.put Reg.MBOX_OWN_OWNER (pathCode Path.msp + 1), Path.msp, ({} : CellEnv), (Instr.ping Path.msp, 1), by decide +kernel⟩,
   ⟨wRun |>.put Reg.PWR_STAT_STATE 2, Path.msp, ({} : CellEnv), (Instr.ringSearch Path.msp, 0x30), by decide +kernel⟩,
   ⟨wRun |>.onMgmt (fun m => { m with hkRun := false }), Path.msp, ({} : CellEnv), (Instr.ping Path.msp, 1), by decide +kernel⟩,
   ⟨wRun.put Reg.CLK_STAT_LOCK 55, .msp, {}, (.fwReload .msp {}, 3), by decide +kernel⟩,
   ⟨wRun |>.onKeep (fun m => { m with inTrap := true }), Path.msp, ({} : CellEnv), (Instr.ringSearch Path.msp, 0x30), by decide +kernel⟩,
   ⟨wRun |>.put Reg.MBOX_ST_ROM 1, Path.msp, ({} : CellEnv), (Instr.ringSearch Path.msp, 0x30), by decide +kernel⟩,
   ⟨wRun |>.put Reg.PWR_STAT_STATE 2, Path.msp, ({} : CellEnv), (Instr.ringSearch Path.msp, 0x30), by decide +kernel⟩,
   ⟨wRun |>.put Reg.PWR_STAT_BUSY 1 |>.put Reg.PWR_STAT_DIR 1, Path.msp, ({} : CellEnv), (Instr.ping Path.msp, 1), by decide +kernel⟩,
   ⟨wRun, Path.msp, 0x7F, by decide +kernel⟩,
   ⟨wRun, by decide +kernel⟩,
   ⟨wRun |>.onMgmt (fun m => { m with mbox := some (⟨1, [], 0, [], 0, false⟩ : MboxRun) }), (⟨1, [], 0, [], 0, false⟩ : MboxRun), by decide +kernel⟩,
   ⟨wRun |>.onMgmt (fun m => { m with mbox := some (⟨48, [], 0, [], 0, false⟩ : MboxRun) }), (⟨48, [], 0, [], 0, false⟩ : MboxRun), by decide +kernel⟩,
   ⟨wRun |>.onMgmt (fun m => { m with mbox := some (⟨96, [], 0, [], 0, false⟩ : MboxRun) }), (⟨96, [], 0, [], 0, false⟩ : MboxRun), by decide +kernel⟩,
   ⟨wRun |>.onMgmt (fun m => { m with mbox := some (⟨32, [], 0, [], 0, true⟩ : MboxRun) }) |>.onMgmt (fun m => { m with load := some wLoad }), Path.msp, (⟨32, [], 0, [], 0, true⟩ : MboxRun), by decide +kernel⟩⟩

theorem witness_MailboxServices :
    (∃ (s : State) (p : Path), s.mgmt.mbox = none ∧ s.takesUp p 1 = true) ∧
    (∃ (s : State) (p : Path) (k g : Nat), s.mgmt.mbox = none ∧ s.takesUp p 2 = true ∧ s.mgmt.fwSlot = some (k, g) ∧ s.get Reg.MBOX_ST_ROM = 0) ∧
    (∃ (s : State) (p : Path), s.mgmt.mbox = none ∧ s.takesUp p 3 = true ∧ s.get Reg.CELL_STAT_MOUNTED ≠ 0 ∧ 1 < s.arg 0) ∧
    (∃ (s : State) (p : Path) (env : CellEnv), s.mgmt.mbox = none ∧ s.takesUp p 3 = true ∧ s.get Reg.CELL_STAT_MOUNTED ≠ 0 ∧ cellQuiet env = true ∧ s.arg 0 ≤ 1 ∧ s.fwGood (s.arg 0) = false) ∧
    (∃ (s : State) (p : Path) (env : CellEnv), s.mgmt.mbox = none ∧ s.takesUp p 3 = true ∧ s.get Reg.CELL_STAT_MOUNTED ≠ 0 ∧ cellQuiet env = true ∧ s.arg 0 ≤ 1 ∧ s.fwGood (s.arg 0) = true) ∧
    (∃ (s : State) (p : Path) (env : CellEnv) (page : Nat), s.mgmt.mbox = none ∧ s.takesUp p 3 = true ∧ s.get Reg.CELL_STAT_MOUNTED ≠ 0 ∧ s.arg 0 ≤ 1 ∧ (s.loftAt (s.arg 0)).committed = true
    ∧ s.fwUe (s.arg 0) env = some page) ∧
    (∃ (s : State) (p : Path), s.mgmt.mbox = none ∧ s.takesUp p 16 = true ∧ s.get Reg.CELL_STAT_MOUNTED ≠ 0 ∧ (17 < s.arg 0 ∨ s.arg 1 % 1024 ≠ 0 ∨ 1024 < s.arg 2 ∨ loftSize (s.arg 0) <
    s.arg 1 + s.arg 2)) ∧
    (∃ (s : State) (p : Path), s.mgmt.mbox = none ∧ s.takesUp p 16 = true ∧ s.get Reg.CELL_STAT_MOUNTED ≠ 0 ∧ s.arg 0 ≤ 17 ∧ s.arg 1 % 1024 = 0 ∧ s.arg 2 ≤ 1024 ∧ s.arg 1 + s.arg 2 ≤
    loftSize (s.arg 0) ∧ s.get Reg.CELL_STAT_WIN = 0) ∧
    (∃ (s : State) (p : Path) (env : CellEnv), s.mgmt.mbox = none ∧ s.takesUp p 16 = true ∧ s.get Reg.CELL_STAT_MOUNTED ≠ 0 ∧ s.arg 0 ≤ 17 ∧ s.arg 1 % 1024 = 0 ∧ s.arg 2 ≤ 1024 ∧ s.arg 1 +
    s.arg 2 ≤ loftSize (s.arg 0) ∧ env.ue ≠ [] ∧ ((pagesOf (loftAddr (s.arg 0) + s.arg 1) (s.arg 2)).any fun (q : Nat) => decide (q ∈ env.ue)) = true ∧ s.get Reg.CELL_STAT_WIN ≠ 0) ∧
    (∃ (s : State) (p : Path) (env : CellEnv), s.mgmt.mbox = none ∧ s.takesUp p 16 = true ∧ s.get Reg.CELL_STAT_MOUNTED ≠ 0 ∧ s.arg 0 ≤ 17 ∧ s.arg 1 % 1024 = 0 ∧ s.arg 2 ≤ 1024 ∧ s.arg 1 +
    s.arg 2 ≤ loftSize (s.arg 0) ∧ cellQuiet env = true ∧ s.get Reg.CELL_STAT_WIN ≠ 0) ∧
    (∃ (s : State) (p : Path), s.mgmt.mbox = none ∧ s.takesUp p 17 = true ∧ s.get Reg.CELL_STAT_MOUNTED ≠ 0 ∧ (17 < s.arg 0 ∨ loftSize (s.arg 0) < s.arg 1)) ∧
    (∃ (s : State) (p : Path) (env : CellEnv), s.mgmt.mbox = none ∧ s.takesUp p 17 = true ∧ s.get Reg.CELL_STAT_MOUNTED ≠ 0 ∧ s.arg 0 ≤ 17 ∧ s.arg 1 ≤ loftSize (s.arg 0) ∧ cellQuiet env =
    true ∧ toBytes (sha256 (toVals (s.nv.read (loftAddr (s.arg 0)) (s.arg 1)))) ≠ s.bufBytes 32) ∧
    (∃ (s : State) (p : Path) (env : CellEnv), s.mgmt.mbox = none ∧ s.takesUp p 17 = true ∧ s.get Reg.CELL_STAT_MOUNTED ≠ 0 ∧ s.arg 0 ≤ 17 ∧ s.arg 1 ≤ loftSize (s.arg 0) ∧ cellQuiet env =
    true ∧ toBytes (sha256 (toVals (s.nv.read (loftAddr (s.arg 0)) (s.arg 1)))) = s.bufBytes 32 ∧ s.get Reg.CELL_STAT_WIN = 0) ∧
    (∃ (s : State) (p : Path) (env : CellEnv), s.mgmt.mbox = none ∧ s.takesUp p 17 = true ∧ s.get Reg.CELL_STAT_MOUNTED ≠ 0 ∧ s.arg 0 ≤ 17 ∧ s.arg 1 ≤ loftSize (s.arg 0) ∧ cellQuiet env =
    true ∧ toBytes (sha256 (toVals (s.nv.read (loftAddr (s.arg 0)) (s.arg 1)))) = s.bufBytes 32 ∧ s.get Reg.CELL_STAT_WIN ≠ 0) ∧
    (∃ (s : State) (p : Path), s.mgmt.mbox = none ∧ s.takesUp p 32 = true ∧ s.keep.mgmtOn = true ∧ (2 < s.arg 0 ∨ s.arg 0 = 0 ∧ 15 < s.arg 1 ∨ s.arg 0 = 1 ∧ s.get Reg.KEEP_STRAP_CHAIN_FIRST
    ≠ 0)) ∧
    (∃ (s : State) (p : Path), s.mgmt.mbox = none ∧ s.takesUp p 32 = true ∧ s.keep.mgmtOn = true ∧ s.arg 0 = 0 ∧ s.arg 1 ≤ 15 ∧ s.slotFull (s.arg 1) = false) ∧
    (∃ (s : State) (p : Path), s.mgmt.mbox = none ∧ s.takesUp p 32 = true ∧ s.keep.mgmtOn = true ∧ s.arg 0 = 0 ∧ s.arg 1 ≤ 15 ∧ s.slotFull (s.arg 1) = true ∧ (s.loftAt (2 + s.arg 1)).len <
    20) ∧
    (∃ (s : State) (p : Path), s.mgmt.mbox = none ∧ s.takesUp p 32 = true ∧ s.keep.mgmtOn = true ∧ (s.arg 0 = 0 ∧ s.arg 1 ≤ 15 ∧ s.slotFull (s.arg 1) = true ∧ 20 ≤ (s.loftAt (2 + s.arg
    1)).len ∨ s.arg 0 = 1 ∧ s.get Reg.KEEP_STRAP_CHAIN_FIRST = 0 ∨ s.arg 0 = 2)) ∧
    (∃ (s : State) (p : Path), s.mgmt.mbox = none ∧ s.takesUp p 97 = true ∧ s.get Reg.CELL_STAT_MOUNTED ≠ 0 ∧ (7 < s.arg 0 ∨ s.arg 1 % 1024 ≠ 0 ∨ atticSize ≤ s.arg 1 ∨ tget AtticState.free
    s.nv.attic (s.arg 0) ∈ [AtticState.free, AtticState.writing])) ∧
    (∃ (s : State) (p : Path) (env : CellEnv), s.mgmt.mbox = none ∧ s.takesUp p 97 = true ∧ s.get Reg.CELL_STAT_MOUNTED ≠ 0 ∧ s.arg 0 ≤ 7 ∧ s.arg 1 % 1024 = 0 ∧ s.arg 1 < atticSize ∧ ¬tget
    AtticState.free s.nv.attic (s.arg 0) ∈ [AtticState.free, AtticState.writing] ∧ ¬pageOf (atticBase + s.arg 0 * atticSize + s.arg 1) ∈ s.nv.lost ∧ cellQuiet env = true) ∧
    (∃ (s : State) (p : Path), s.mgmt.mbox = none ∧ s.takesUp p 98 = true ∧ (7 < s.arg 0 ∨ tget AtticState.free s.nv.attic (s.arg 0) = AtticState.writing)) ∧
    (∃ (s : State) (p : Path), s.mgmt.mbox = none ∧ s.takesUp p 98 = true ∧ s.arg 0 ≤ 7 ∧ tget AtticState.free s.nv.attic (s.arg 0) ≠ AtticState.writing ∧ s.get Reg.CELL_STAT_WIN = 0) ∧
    (∃ (s : State) (p : Path), s.mgmt.mbox = none ∧ s.takesUp p 98 = true ∧ s.arg 0 ≤ 7 ∧ tget AtticState.free s.nv.attic (s.arg 0) ≠ AtticState.writing ∧ s.get Reg.CELL_STAT_WIN ≠ 0) ∧
    (∃ (s : State) (p : Path), s.mgmt.mbox = none ∧ s.takesUp p 96 = true ∧ s.freeSlotOf = none) ∧
    (∃ (s : State) (p : Path) (k : Nat), s.mgmt.mbox = none ∧ s.takesUp p 96 = true ∧ s.freeSlotOf = some k ∧ s.get Reg.CELL_STAT_WIN = 0) ∧
    (∃ (s : State) (p : Path) (k : Nat) (env : CellEnv), s.mgmt.mbox = none ∧ s.takesUp p 96 = true ∧ cellQuiet env = true ∧ s.freeSlotOf = some k ∧ s.get Reg.CELL_STAT_WIN ≠ 0) ∧
    (∃ (s : State) (p : Path), s.mgmt.mbox = none ∧ s.takesUp p 112 = true) ∧
    (∃ (s : State) (p : Path), s.mgmt.mbox = none ∧ s.takesUp p 113 = true ∧ ckptRange (s.arg 0) (s.arg 1) = false) ∧
    (∃ (s : State) (p : Path) (env : CellEnv), s.mgmt.mbox = none ∧ s.takesUp p 113 = true ∧ cellQuiet env = true ∧ ckptRange (s.arg 0) 1 = true ∧ s.arg 1 = 1 ∧ s.ckptFor (s.arg 0) 0 =
    none) ∧
    (∃ (s : State) (p : Path) (env : CellEnv) (r x : Ckpt), s.mgmt.mbox = none ∧ s.takesUp p 113 = true ∧ cellQuiet env = true ∧ ckptRange (s.arg 0) 1 = true ∧ s.arg 1 = 1 ∧ s.ckptFor
    (s.arg 0) 0 = some r ∧ s.get Reg.CELL_STAT_WIN ≠ 0 ∧ (s.ckptRead { } (s.arg 0) false).fst = some x ∧ (s.ckptRead { } (s.arg 0) true).fst = none) ∧
    (∃ (s : State) (p : Path), s.mgmt.mbox = none ∧ s.takesUp p 114 = true ∧ ckptRange (s.arg 0) (s.arg 1) = false) ∧
    (∃ (s : State) (p : Path) (env : CellEnv) (r : Ckpt), s.mgmt.mbox = none ∧ s.takesUp p 114 = true ∧ cellQuiet env = true ∧ ckptRange (s.arg 0) 1 = true ∧ s.arg 1 = 1 ∧ newerCkpt
    (s.ckptRead { } (s.arg 0) false).fst (s.ckptRead { } (s.arg 0) true).fst = some r ∧ r.kind ≠ 0 ∧ (s.ctxAt (s.arg 0)).state ≠ 0) ∧
    (∃ (s : State) (p : Path) (env : CellEnv) (r : Ckpt), s.mgmt.mbox = none ∧ s.takesUp p 114 = true ∧ cellQuiet env = true ∧ ckptRange (s.arg 0) 1 = true ∧ s.arg 1 = 1 ∧ newerCkpt
    (s.ckptRead { } (s.arg 0) false).fst (s.ckptRead { } (s.arg 0) true).fst = some r ∧ r.kind ≠ 0 ∧ (s.ctxAt (s.arg 0)).state = 0) :=
  ⟨⟨wRun, Path.msp, by decide +kernel⟩,
   ⟨wRun, Path.msp, 0, 0, by decide +kernel⟩,
   ⟨wRun |>.put (Reg.MBOX_ARG_ARG 0) 2, Path.msp, by decide +kernel⟩,
   ⟨wRun, Path.msp, ({} : CellEnv), by decide +kernel⟩,
   ⟨wRun |>.onNv (fun v => { v with loft := [(0, { committed := true, digest := toBytes (sha256 []) })] }), Path.msp, ({} : CellEnv), by decide +kernel⟩,
   ⟨wRun.onNv fun v => { v with loft := [(0, { committed := true, len := 4 })] }, .msp, { ue := [0] }, 0, by decide +kernel⟩,
   ⟨wRun |>.put (Reg.MBOX_ARG_ARG 0) 18, Path.msp, by decide +kernel⟩,
   ⟨wRun |>.put Reg.CELL_STAT_WIN (0), Path.msp, by decide +kernel⟩,
   ⟨wRun.put (Reg.MBOX_ARG_ARG 2) 4, .msp, { ue := [0] }, by decide +kernel⟩,
   ⟨wRun, Path.msp, ({} : CellEnv), by decide +kernel⟩,
   ⟨wRun |>.put (Reg.MBOX_ARG_ARG 0) 18, Path.msp, by decide +kernel⟩,
   ⟨wRun, Path.msp, ({} : CellEnv), by decide +kernel⟩,
   ⟨wRun |>.put Reg.CELL_STAT_WIN (0) |> setDigest, Path.msp, ({} : CellEnv), by decide +kernel⟩,
   ⟨wRun |> setDigest, Path.msp, ({} : CellEnv), by decide +kernel⟩,
   ⟨wRun |>.put (Reg.MBOX_ARG_ARG 0) 18, Path.msp, by decide +kernel⟩,
   ⟨wRun, Path.msp, by decide +kernel⟩,
   ⟨wRun |>.onNv (fun v => { v with loft := [(2, { committed := true })] }), Path.msp, by decide +kernel⟩,
   ⟨wRun |>.put (Reg.MBOX_ARG_ARG 0) 2, Path.msp, by decide +kernel⟩,
   ⟨wRun, Path.msp, by decide +kernel⟩,
   ⟨wRun |>.onNv (fun v => { v with attic := [(0, .full)] }), Path.msp, ({} : CellEnv), by decide +kernel⟩,
   ⟨wRun |>.put (Reg.MBOX_ARG_ARG 0) 18, Path.msp, by decide +kernel⟩,
   ⟨wRun |>.put Reg.CELL_STAT_WIN (0), Path.msp, by decide +kernel⟩,
   ⟨wRun, Path.msp, by decide +kernel⟩,
   ⟨wRun |>.onNv (fun v => { v with attic := (List.range 8).map fun k => (k, .full) }), Path.msp, by decide +kernel⟩,
   ⟨wRun |>.put Reg.CELL_STAT_WIN (0), Path.msp, 0, by decide +kernel⟩,
   ⟨wRun, Path.msp, 0, ({} : CellEnv), by decide +kernel⟩,
   ⟨wRun, Path.msp, by decide +kernel⟩,
   ⟨wRun |>.put (Reg.MBOX_ARG_ARG 1) 65537, Path.msp, by decide +kernel⟩,
   ⟨wRun |>.put (Reg.MBOX_ARG_ARG 1) (1) |>.onCtx 0 (fun c => { c with state := 2 }), Path.msp, ({} : CellEnv), by decide +kernel⟩,
   ⟨wRun |>.put (Reg.MBOX_ARG_ARG 1) (1) |>.onCtx 0 (fun c => { c with state := 1, tc := 2, peerNode := 7, peerSid := 1, seq := 5 }) |>.onNv (fun v => v.write (ckptAddr 0 false) ((Ckpt.page (⟨1, false, false, 2, 1, 0, 7, 1, 0, 5, 0⟩ : Ckpt)).take 64)), Path.msp, ({} : CellEnv), (⟨1, false, false, 2, 0, 0, 7, 1, 0, 5, 0⟩ : Ckpt), (⟨1, false, false, 2, 1, 0, 7, 1, 0, 5, 0⟩ : Ckpt), by decide +kernel⟩,
   ⟨wRun |>.put (Reg.MBOX_ARG_ARG 1) 65537, Path.msp, by decide +kernel⟩,
   ⟨wRun |>.put (Reg.MBOX_ARG_ARG 1) (1) |>.onCtx 0 (fun c => { c with state := 1, tc := 2, peerNode := 7, peerSid := 1, seq := 5 }) |>.onNv (fun v => v.write (ckptAddr 0 false) ((Ckpt.page (⟨1, false, false, 2, 1, 0, 7, 1, 0, 5, 0⟩ : Ckpt)).take 64)), Path.msp, ({} : CellEnv), (⟨1, false, false, 2, 1, 0, 7, 1, 0, 5, 0⟩ : Ckpt), by decide +kernel⟩,
   ⟨wRun |>.put (Reg.MBOX_ARG_ARG 1) (1) |>.onNv (fun v => v.write (ckptAddr 0 false) ((Ckpt.page (⟨1, false, false, 2, 1, 0, 7, 1, 0, 5, 0⟩ : Ckpt)).take 64)), Path.msp, ({} : CellEnv), (⟨1, false, false, 2, 1, 0, 7, 1, 0, 5, 0⟩ : Ckpt), by decide +kernel⟩⟩

theorem witness_MemoryErrorsOfTheStreamEngine :
    (∃ (s : State) (sid : Nat), (s.ctxAt sid).state ∈ [1, 2, 3, 4] ∧ s.keep.mgmtOn = true) ∧
    (∃ (s : State) (tag : Nat) (r : TagRec), tget none s.strm.tags tag = some r ∧ s.keep.mgmtOn = true) ∧
    (∃ (s : State) (n : OpId), s.trained n.val = true ∧ s.keep.mgmtOn = true) ∧
    (∃ (s : State), s.keep.domainsOn = true) :=
  ⟨⟨wRun |>.onCtx 0 (fun m => { m with state := 1 }), 0, by decide +kernel⟩,
   ⟨wRun |>.onStrm (fun m => { m with tags := [(0, some ⟨2, 7, 2, 0, 4096⟩)] }), 0, (⟨2, 7, 2, 0, 4096⟩ : TagRec), by decide +kernel⟩,
   ⟨wPort, 3, by decide +kernel⟩,
   ⟨wRun, by decide +kernel⟩⟩

theorem witness_OffRequestsAndRequestsWithNoEffect :
    (∃ (s : State), s.keep.vauxGood = true ∧ s.keep.inReset = false ∧ s.get Reg.PWR_STAT_BUSY = 0 ∧ s.get Reg.PWR_STAT_OFF_PEND = 0 ∧ s.power ≠ 0 ∧ s.keep.pwrEn = true ∧ s.get
    Reg.KEEP_STORM_PWR_EN_MASK = 0 ∧ s.keep.edgesPwrEn ≠ 1000) ∧
    (∃ (s : State) (p : Path), s.keep.vauxGood = true ∧ s.keep.inReset = false ∧ s.get Reg.PWR_STAT_BUSY = 0 ∧ s.get Reg.PWR_STAT_OFF_PEND = 0 ∧ s.power ≠ 0 ∧ s.writable p 8256 2 = true) ∧
    (∃ (s : State) (p : Path), s.keep.vauxGood = true ∧ s.keep.inReset = false ∧ s.get Reg.PWR_STAT_BUSY = 0 ∧ s.get Reg.PWR_STAT_OFF_PEND = 0 ∧ s.power ≠ 0 ∧ s.writable p 8256 3 = true) ∧
    (∃ (s : State), s.keep.vauxGood = true ∧ s.get Reg.PWR_STAT_BUSY = 1 ∧ s.get Reg.PWR_STAT_DIR = 0 ∧ s.keep.pwrEn = false ∧ s.get Reg.KEEP_STORM_PWR_EN_MASK = 0 ∧ s.keep.edgesPwrEn ≠
    1000) ∧
    (∃ (s : State) (p : Path), s.keep.vauxGood = true ∧ s.get Reg.PWR_STAT_BUSY = 1 ∧ s.get Reg.PWR_STAT_DIR = 0 ∧ s.writable p 8256 1 = true) ∧
    (∃ (s : State) (p : Path), s.keep.vauxGood = true ∧ s.get Reg.PWR_STAT_BUSY = 1 ∧ s.get Reg.PWR_STAT_DIR = 1 ∧ s.writable p 8256 2 = true) :=
  ⟨⟨wRun, by decide +kernel⟩,
   ⟨wRun, Path.msp, by decide +kernel⟩,
   ⟨wRun, Path.msp, by decide +kernel⟩,
   ⟨wRun |>.put Reg.PWR_STAT_BUSY (1) |>.onKeep (fun m => { m with pwrEn := false }), by decide +kernel⟩,
   ⟨wRun |>.put Reg.PWR_STAT_BUSY (1), Path.msp, by decide +kernel⟩,
   ⟨wRun |>.put Reg.PWR_STAT_BUSY (1) |>.put Reg.PWR_STAT_DIR (1), Path.msp, by decide +kernel⟩⟩

theorem witness_OnRequestsAndTargetChanges :
    (∃ (s : State), s.canRise = true ∧ s.keep.pwrEn = false ∧ s.get Reg.KEEP_STORM_PWR_EN_MASK = 0 ∧ s.keep.edgesPwrEn ≠ 1000) ∧
    (∃ (s : State), s.canRise = true ∧ s.keep.wakeN = true ∧ s.get Reg.KEEP_STORM_WAKE_N_MASK = 0 ∧ s.keep.edgesWakeN ≠ 1000 ∧ s.get Reg.PWR_CTL_WAKE_EN = 1) ∧
    (∃ (s : State) (p : Path), s.canRise = true ∧ s.writable p 8256 1 = true) ∧
    (∃ (s : State) (p : Path) (v : Word), s.writable p 8260 (BitVec.toNat v) = true ∧ (BitVec.toNat v % 8 = 0 ∨ 4 < BitVec.toNat v % 8)) ∧
    (∃ (s : State) (p : Path) (v : Word), s.writable p 8260 (BitVec.toNat v) = true ∧ 1 ≤ BitVec.toNat v % 8 ∧ BitVec.toNat v % 8 ≤ 4) :=
  ⟨⟨wKeep, by decide +kernel⟩,
   ⟨wKeep, by decide +kernel⟩,
   ⟨wKeep, Path.msp, by decide +kernel⟩,
   ⟨wRun, Path.msp, 0, by decide +kernel⟩,
   ⟨wRun, Path.msp, 1, by decide +kernel⟩⟩

theorem witness_PausesAndTheThermalShutdown :
    (∃ (s : State) (i : SensorId), (s.sensor i.val).st = 2 ∧ s.get Reg.HEAT_CTL_RAMP_EN = 1 ∧ (s.sensor i.val).duty < s.get Reg.HEAT_PAUSE_DUTY_MAX) ∧
    (∃ (s : State) (i : SensorId), ((s.sensor i.val).st ≠ 2 ∨ s.get Reg.HEAT_PAUSE_DUTY_MAX ≤ (s.sensor i.val).duty)) ∧
    (∃ (s : State) (p : Path) (v : Word), s.writable p 16460 (BitVec.toNat v) = true ∧ s.get (Reg.LOCK 4) = 0 ∧ s.get Reg.HEAT_SEL_ALL = 0) ∧
    (∃ (s : State) (i : SensorId) (tj : Int), s.keep.mgmtOn = true ∧ s.power ≠ 0 ∧ -320 ≤ tj ∧ tj ≤ 1200 ∧ (s.sensor i.val).fault = false ∧ s.get (Reg.HEAT_THR_DIS i.val) = 0 ∧ (8 * s.get
    (Reg.HEAT_THR_SHUT i.val)).cast ≤ tj ∧ s.keep.thermLatch = false ∧ s.nv.intents = []) ∧
    (∃ (s : State), s.keep.vauxGood = true ∧ s.keep.thermLatch = false ∧ s.nv.intents = []) ∧
    (∃ (s : State), s.keep.vauxGood = true ∧ s.keep.thermLatch = false ∧ s.nv.intents ≠ []) ∧
    (∃ (s : State), s.keep.thermLatch = true ∧ s.keep.hold = none ∧ (s.keep.pwrEnTaken = false ∨ s.get Reg.PWR_STAT_STAY = 1)) :=
  ⟨⟨wRun |>.onSensor (40 : SensorId).val (fun m => { m with st := 2 }) |>.put Reg.HEAT_PAUSE_DUTY_MAX 1, 40, by decide +kernel⟩,
   ⟨wRun, 40, by decide +kernel⟩,
   ⟨wRun |>.onSensor (40 : SensorId).val (fun m => { m with st := 2 }) |>.put Reg.HEAT_PAUSE_DUTY_MAX 1, Path.msp, 0x55F5A50, by decide +kernel⟩,
   ⟨wRun, 40, 1190, by decide +kernel⟩,
   ⟨wRun, by decide +kernel⟩,
   ⟨wRun |>.onNv (fun v => { v with intents := [⟨7, [], 0⟩] }), by decide +kernel⟩,
   ⟨wRun |>.onKeep (fun k => { k with thermLatch := true, pwrEnTaken := false }), by decide +kernel⟩⟩

theorem witness_PowerDownStepByStep :
    (∃ (s : State), s.atDown 18 = true) ∧
    (∃ (s : State), s.atDown 19 = true ∧ s.get Reg.PWR_CTL_SAVE_MAP = 1 ∧ 3 ≤ s.power ∧ s.get Reg.CELL_STAT_MOUNTED = 1 ∧ s.cellClocked = true ∧ s.get Reg.CELL_STAT_WIN = 1) ∧
    (∃ (s : State), s.atDown 19 = true ∧ s.get Reg.PWR_CTL_SAVE_MAP = 1 ∧ 3 ≤ s.power ∧ s.get Reg.CELL_STAT_MOUNTED = 1 ∧ (s.get Reg.CELL_STAT_WIN = 0 ∨ s.cellClocked = false)) ∧
    (∃ (s : State), s.atDown 20 = true) ∧
    (∃ (s : State), s.atDown 21 = true) ∧
    (∃ (s : State), s.atDown 22 = true ∧ s.keep.pwrEnTaken = false) ∧
    (∃ (s : State), s.atDown 22 = true ∧ s.takesOn = true ∧ s.keep.pwrEnTaken = true ∧ s.get Reg.PWR_STAT_STAY = 0 ∧ 1 ≤ s.get Reg.PWR_TGT_STATE) :=
  ⟨⟨(wDown 18), by decide +kernel⟩,
   ⟨(wDown 19), by decide +kernel⟩,
   ⟨(wDown 19) |>.put Reg.CELL_STAT_WIN (0), by decide +kernel⟩,
   ⟨(wDown 20), by decide +kernel⟩,
   ⟨(wDown 21), by decide +kernel⟩,
   ⟨(wDown 22) |>.onKeep (fun m => { m with pwrEnTaken := false }), by decide +kernel⟩,
   ⟨(wDown 22), by decide +kernel⟩⟩

theorem witness_RecordsConfigureTheFabricOrEndTheLoad :
    (∃ (s : State) (l : LoadRun) (r : Record) (env : CellEnv) (c : Nat × Instr), s.mgmt.load = some l ∧ l.atS10 = false ∧ s.sourceGives l r = true ∧ (l.src = LoadSrc.loft → l.pos + recSize
    r ≤ l.len) ∧ s.keep.mgmtOn = true ∧ r.frame < 2 ^ 32 ∧ r.target < 2 ^ 32 ∧ c ∈ [(1, Instr.streamHdr r), (2, Instr.keyRoll r), (3, Instr.cfgFrame r), (5, Instr.seg r), (6, Instr.release
    r env), (7, Instr.endRecord r)] ∧ recCheck l c.fst r ≠ 0 ∧ (recCheck l c.fst r ≠ 21 ∨ s.faultTrap = 0 ∧ s.get Reg.FAULT_STAT_PARITY = 0 ∧ s.keep.inTrap = false)) ∧
    (∃ (s : State) (l : LoadRun) (r : Record), s.mgmt.load = some l ∧ l.atS10 = false ∧ s.sourceGives l r = true ∧ r.frame < 2 ^ 32 ∧ r.target < 2 ^ 32 ∧ (l.src = LoadSrc.loft → l.pos +
    recSize r + 20 ≤ l.len) ∧ recCheck l 1 r = 0 ∧ s.hdrCheck l r = 0) ∧
    (∃ (s : State) (l : LoadRun) (r : Record), s.mgmt.load = some l ∧ l.atS10 = false ∧ s.sourceGives l r = true ∧ r.frame < 2 ^ 32 ∧ r.target < 2 ^ 32 ∧ (l.src = LoadSrc.loft → l.pos +
    recSize r + 20 ≤ l.len) ∧ recCheck l 1 r = 0 ∧ s.hdrCheck l r ≠ 0) ∧
    (∃ (s : State) (l : LoadRun) (r : Record), s.mgmt.load = some l ∧ l.atS10 = false ∧ s.sourceGives l r = true ∧ r.frame < 2 ^ 32 ∧ r.target < 2 ^ 32 ∧ (l.src = LoadSrc.loft → l.pos +
    recSize r + 20 ≤ l.len) ∧ recCheck l 2 r = 0) ∧
    (∃ (s : State) (l : LoadRun) (r : Record), s.mgmt.load = some l ∧ l.atS10 = false ∧ s.sourceGives l r = true ∧ r.frame < 2 ^ 32 ∧ r.target < 2 ^ 32 ∧ (l.src = LoadSrc.loft → l.pos +
    recSize r + 20 ≤ l.len) ∧ recCheck l 3 r = 0) ∧
    (∃ (s : State) (l : LoadRun) (r : Record) (h : LoadHdr) (b : List Byte), s.mgmt.load = some l ∧ l.atS10 = false ∧ s.sourceGives l r = true ∧ r.frame < 2 ^ 32 ∧ r.target < 2 ^ 32 ∧
    (l.src = LoadSrc.loft → l.pos + recSize r ≤ l.len) ∧ recCheck l 6 r = 0 ∧ l.hdr = some h ∧ recPlain l r = Except.ok b ∧ toVals b = sha256 (toVals h.digest)) ∧
    (∃ (s : State) (l : LoadRun) (r : Record) (h : LoadHdr) (b : List Byte), s.mgmt.load = some l ∧ l.atS10 = false ∧ s.sourceGives l r = true ∧ r.frame < 2 ^ 32 ∧ r.target < 2 ^ 32 ∧
    (l.src = LoadSrc.loft → l.pos + recSize r ≤ l.len) ∧ recCheck l 6 r = 0 ∧ l.hdr = some h ∧ recPlain l r = Except.ok b ∧ toVals b ≠ sha256 (toVals h.digest)) :=
  ⟨⟨wRun |>.onMgmt (fun m => { m with load := some wLoad }), wLoad, mkRec 1 0 0 0 [], ({} : CellEnv), (1, Instr.streamHdr (mkRec 1 0 0 0 [])), by decide +kernel⟩,
   ⟨wRun.onMgmt fun m => { m with load := some { wLoad with segSeen := true } }, { wLoad with segSeen := true }, wRec, by decide +kernel⟩,
   ⟨wRun.onMgmt fun m => { m with load := some { wLoad with segSeen := true } }, { wLoad with segSeen := true }, (mkRec 1 0 0 0 (List.replicate 64 0)), by decide +kernel⟩,
   ⟨wRun |>.onMgmt (fun m => { m with load := some wLoaded }), wLoaded, mkRec 2 1 0 1 (List.replicate 32 7), by decide +kernel⟩,
   ⟨wRun.onMgmt fun m => { m with load := some wLoaded }, wLoaded, mkRec 3 1 (2048 * 6) 0 (List.replicate 4096 7), rfl, rfl, rfl, by decide, by decide, fun h => absurd h (by decide), by
      unfold recCheck
      rw [if_neg (by decide), if_neg (not_not_intro (mkRec_crc ..)), if_neg (by decide), if_neg (by decide), if_neg, if_neg (by decide), if_neg (by decide), if_neg (by decide)]
      exact not_not_intro (congrArg some List.length_replicate.symm)⟩,
   ⟨wRun.onMgmt fun m => { m with load := some { wLoaded with nextFrame := 3 } }, { wLoaded with nextFrame := 3 }, (mkRec 6 3 0 0 (toBytes (sha256 [1, 2]))), wHdr, toBytes (sha256 [1, 2]), by (repeat' apply And.intro) <;> first | decide +kernel | exact rfl⟩,
   ⟨wRun.onMgmt fun m => { m with load := some { wLoaded with nextFrame := 3 } }, { wLoaded with nextFrame := 3 }, (mkRec 6 3 0 0 (List.replicate 32 9)), wHdr, List.replicate 32 9, by (repeat' apply And.intro) <;> first | decide +kernel | exact rfl⟩⟩

theorem witness_RefreshAndLevelling :
    (∃ (s : State) (worst : List (Nat × Nat)) (env : CellEnv), s.cellWorks = true ∧ env.ue = [] ∧ env.corrected = 0 ∧ (∀ (w : Nat × Nat), w ∈ worst → w.snd < s.get Reg.CELL_ECC_REFR_THR) ∧
    s.get Reg.CELL_REFR_EXTENT < 65535) ∧
    (∃ (s : State) (worst : List (Nat × Nat)) (env : CellEnv), s.cellWorks = true ∧ env.ue = [] ∧ env.corrected = 0 ∧ (∀ (w : Nat × Nat), w ∈ worst → w.snd < s.get Reg.CELL_ECC_REFR_THR) ∧
    s.get Reg.CELL_REFR_EXTENT = 65535) ∧
    (∃ (s : State) (page n : Nat) (env : CellEnv), s.cellWorks = true ∧ env.ue = [] ∧ s.get Reg.CELL_ECC_REFR_THR ≤ n ∧ s.get Reg.CELL_REFR_EXTENT < 65535 ∧ s.refreshable (s.get
    Reg.CELL_REFR_EXTENT) page = true ∧ s.get Reg.CELL_STAT_WIN = 1 ∧ env.winCloses ≠ some 0) ∧
    (∃ (s : State) (page n : Nat) (env : CellEnv), s.cellWorks = true ∧ env.ue = [] ∧ s.get Reg.CELL_ECC_REFR_THR ≤ n ∧ s.get Reg.CELL_REFR_EXTENT < 65535 ∧ s.refreshable (s.get
    Reg.CELL_REFR_EXTENT) page = true ∧ s.get Reg.CELL_STAT_WIN = 0 ∧ (s.nv.extents s.mgmt.deferred).length < 1024) ∧
    (∃ (s : State) (page : Nat), s.cellWorks = true ∧ s.nv.extentOf page = s.get Reg.CELL_REFR_EXTENT ∧ inUser page = true ∧ page < 2 ^ 24) ∧
    (∃ (s : State) (page o : Nat), s.cellWorks = true ∧ s.nv.extentOf page = s.get Reg.CELL_REFR_EXTENT ∧ page < pageOf calBase ∧ loftOf page = some o) ∧
    (∃ (s : State), s.cellWorks = true ∧ s.get Reg.CELL_STAT_REFR_BEHIND = 0 ∧ s.keep.mgmtOn = true) ∧
    (∃ (s : State), s.cellWorks = true ∧ s.frozen = false ∧ s.get Reg.CELL_CFG_WL_EN = 1 ∧ s.mgmt.wl = none ∧ s.mgmt.wlRetry = none ∧ s.get Reg.CELL_CFG_WL_DELTA * 1024 * 256 < tget 0
    s.nv.wear s.nv.mostWorn - tget 0 s.nv.wear s.nv.leastWorn) ∧
    (∃ (s : State), s.cellWorks = true ∧ tget 0 s.nv.wear s.nv.mostWorn - tget 0 s.nv.wear s.nv.leastWorn ≤ s.get Reg.CELL_CFG_WL_DELTA * 1024 * 256) ∧
    (∃ (s : State) (l hi lo : Nat) (env : CellEnv), s.cellWorks = true ∧ s.frozen = false ∧ s.mgmt.wl = some (l, hi, lo) ∧ s.mgmt.cellWait = [] ∧ hi ≠ lo ∧ s.nv.logicalOf lo ≠ l ∧ s.get
    Reg.CELL_STAT_WIN = 1 ∧ env.ue = [] ∧ env.retire = [] ∧ env.verify = []) ∧
    (∃ (s : State) (w : Nat × Nat × Nat) (env : CellEnv), s.cellWorks = true ∧ s.frozen = false ∧ s.mgmt.wl = some w ∧ s.mgmt.cellWait = [] ∧ s.get Reg.CELL_STAT_WIN = 0 ∧ env.ue = []) :=
  ⟨⟨wRun, [(5, 3)], ({} : CellEnv), by decide +kernel⟩,
   ⟨wRun |>.put Reg.CELL_REFR_EXTENT (65535), [(5, 3)], ({} : CellEnv), by decide +kernel⟩,
   ⟨wRun, 0, 0x510001, ({} : CellEnv), by decide +kernel⟩,
   ⟨wRun |>.put Reg.CELL_STAT_WIN (0), 0, 0x510001, ({} : CellEnv), by decide +kernel⟩,
   ⟨wRun |>.put Reg.CELL_REFR_EXTENT 0x5100, 0x510001, by decide +kernel⟩,
   ⟨wRun, 0, 0, by decide +kernel⟩,
   ⟨wRun |>.put Reg.CELL_REFR_EXTENT (65535), by decide +kernel⟩,
   ⟨wRun |>.onNv (fun v => { v with wear := [(3, 10 ^ 9)] }), by decide +kernel⟩,
   ⟨wRun |>.put Reg.CELL_REFR_EXTENT (65535), by decide +kernel⟩,
   ⟨wRun |>.onMgmt (fun m => { m with wl := some (3, 3, 9) }), 3, 3, 9, ({} : CellEnv), by decide +kernel⟩,
   ⟨wRun |>.onMgmt (fun m => { m with wl := some (3, 3, 9) }) |>.put Reg.CELL_STAT_WIN (0), (3, 3, 9), ({} : CellEnv), by decide +kernel⟩⟩

theorem witness_RegisterAccessesAnswerTheirStatus :
    (∃ (s : State) (p : Path) (a : RegAddr) (st : Nat), s.serves p = true ∧ s.accFault a = some st) ∧
    (∃ (s : State) (p : Path) (a : RegAddr), s.serves p = true ∧ s.accFault a = none ∧ ownerOnly (a / 4096) (a % 4096) = true ∧ s.get Reg.MBOX_OWN_OWNER ≠ pathCode p) ∧
    (∃ (s : State) (p : Path) (a : RegAddr) (v : Word), s.serves p = true ∧ s.accFault a = none ∧ ownerOnly (a / 4096) (a % 4096) = false ∧ s.refuses (a / 4096) (a % 4096) (BitVec.toNat v)
    = true) ∧
    (∃ (s : State) (p : Path) (a : RegAddr), s.serves p = true ∧ s.accFault a = none ∧ s.keep.mgmtOn = true ∧ a / 4096 ≠ 3) ∧
    (∃ (s : State) (p : Path) (a : RegAddr), s.serves p = true ∧ s.accFault a = none ∧ s.keep.mgmtOn = true ∧ a / 4096 = 3) ∧
    (∃ (s : State) (p : Path) (v : Word), s.serves p = true ∧ s.keep.mgmtOn = true ∧ s.get (Reg.LOCK 4) ≠ 0 ∧ heatThrOk (BitVec.toNat v) = true) ∧
    (∃ (s : State) (p : Path) (page : Page), s.serves p = true ∧ s.writable p (page.val * 4096 + 8) 0 = true ∧ s.get (Reg.IRQ_EN page.val) < 2) ∧
    (∃ (s : State) (p : Path) (v : Word) (w : Watermark), s.serves p = true ∧ (s.accFault (wmAddr w)).isNone = true ∧ s.keep.mgmtOn = true ∧ BitVec.toNat v % 65536 ≤ BitVec.toNat v / 65536) ∧
    (∃ (s : State) (p : Path) (v : Word) (w : Watermark), s.serves p = true ∧ (s.accFault (wmAddr w)).isNone = true ∧ s.keep.mgmtOn = true ∧ BitVec.toNat v / 65536 < BitVec.toNat v % 65536) :=
  ⟨⟨wRun, Path.msp, 3, 2, by decide +kernel⟩,
   ⟨wRun, Path.hatch, 0xE044, by decide +kernel⟩,
   ⟨wRun, Path.msp, 0x90A0, 1, by decide +kernel⟩,
   ⟨wRun, Path.hatch, 0xE044, by decide +kernel⟩,
   ⟨wRun, Path.msp, 0x3048, by decide +kernel⟩,
   ⟨wRun |>.put (Reg.LOCK (4)) 1, Path.msp, 0x55F5A50, by decide +kernel⟩,
   ⟨wRun, Path.msp, 6, by decide +kernel⟩,
   ⟨wRun, Path.msp, 0, Watermark.strmTag, by decide +kernel⟩,
   ⟨wRun, Path.msp, 1, Watermark.strmTag, by decide +kernel⟩⟩

theorem witness_RelayedFramesGoOnOrAreCounted :
    (∃ (s : State) (n : OpId) (f : Frame) (port : Nat) (dl : Bool) (u : State), f.dst ≠ s.get Reg.ROUTE_NODE_NODE ∧ f.ftype ≠ 5 ∧ s.intake n.val f = true ∧ f.hop ≠ 0 ∧ s.pickRoute f.dst
    f.dsid false = (some (port, dl), u) ∧ s.brynn n.val = s.brynn port) ∧
    (∃ (s : State) (n : OpId) (f : Frame), f.dst ≠ s.get Reg.ROUTE_NODE_NODE ∧ f.ftype ≠ 5 ∧ s.intake n.val f = true ∧ f.hop = 0 ∧ s.keep.mgmtOn = true) ∧
    (∃ (s : State) (n : OpId) (f : Frame) (u : State), f.dst ≠ s.get Reg.ROUTE_NODE_NODE ∧ f.ftype ≠ 5 ∧ s.intake n.val f = true ∧ f.hop ≠ 0 ∧ s.pickRoute f.dst f.dsid false = (none, u) ∧
    s.keep.mgmtOn = true) ∧
    (∃ (s : State) (n : OpId) (f : Frame), f.dst ≠ s.get Reg.ROUTE_NODE_NODE ∧ f.ftype ≠ 5 ∧ s.trained n.val = true ∧ (s.opAt n.val).rxOcc.getD (poolOf f.tc f.rl) 0 + (s.opAt
    n.val).rxFreed.getD (poolOf f.tc f.rl) 0 + frameBlocks f ≤ 512 ∧ crcStomped (s.brynn n.val) f = true) ∧
    (∃ (s : State) (n : OpId) (f : Frame), f.dst ≠ s.get Reg.ROUTE_NODE_NODE ∧ f.ftype ≠ 5 ∧ s.trained n.val = true ∧ (s.opAt n.val).rxOcc.getD (poolOf f.tc f.rl) 0 + (s.opAt
    n.val).rxFreed.getD (poolOf f.tc f.rl) 0 + frameBlocks f ≤ 512 ∧ crcStomped (s.brynn n.val) f = false ∧ (crcGood (s.brynn n.val) f = false ∨ f.ftype ∈ [3, 6, 7])) ∧
    (∃ (s : State) (n : OpId) (f : Frame), f.dst ≠ s.get Reg.ROUTE_NODE_NODE ∧ f.ftype ≠ 5 ∧ s.trained n.val = true ∧ (s.opAt n.val).rxOcc.getD (poolOf f.tc f.rl) 0 + (s.opAt
    n.val).rxFreed.getD (poolOf f.tc f.rl) 0 + frameBlocks f ≤ 512 ∧ crcStomped (s.brynn n.val) f = false ∧ crcGood (s.brynn n.val) f = true ∧ ¬f.ftype ∈ [3, 6, 7] ∧ s.fenced f.src = true) ∧
    (∃ (s : State) (n : OpId) (f : Frame) (word : List Nat) (fs : List Frame), f.dst ≠ s.get Reg.ROUTE_NODE_NODE ∧ f.ftype ≠ 5 ∧ s.trained n.val = true ∧ (s.fec n.val).decode word = none ∧
    (∀ (g : Frame), g ∈ fs → g.dst = s.get Reg.ROUTE_NODE_NODE ∧ (s.opAt n.val).rxOcc.getD (poolOf g.tc g.rl) 0 + (s.opAt n.val).rxFreed.getD (poolOf g.tc g.rl) 0 + frameBlocks g ≤ 512) ∧
    fs.length ≤ 1) ∧
    (∃ (s : State) (n : OpId) (f : Frame) (word : List Nat) (x : List Nat × List Nat), f.dst ≠ s.get Reg.ROUTE_NODE_NODE ∧ f.ftype ≠ 5 ∧ (s.fec n.val).decode word = some x) :=
  ⟨⟨wPort, 3, (withCrc { wFrame with dst := 8 }), 4, false, wPort, by decide +kernel⟩,
   ⟨wPort, 3, (withCrc { wFrame with dst := 8, hop := 0 }), by decide +kernel⟩,
   ⟨wPort, 3, (withCrc { wFrame with dst := 99 }), wPort, by decide +kernel⟩,
   ⟨wPort, 3, { withCrc { wFrame with dst := 8 } with crc := ~~~(withCrc { wFrame with dst := 8 }).crc }, by decide +kernel⟩,
   ⟨wPort |>.put (Reg.MBOX_ARG_ARG 0) 3 |>.put (Reg.MBOX_ARG_ARG 1) 1 |>.put (Reg.MBOX_ARG_ARG 2) 255 |>.put (Reg.LINK_CTL_COMPAT 3) 1, 3, (withCrc { wFrame with dst := 8 }), by decide +kernel⟩,
   ⟨wPort |>.onStrm (fun m => m) |> fun s => { s with routes := [(7, 2 ^ 25)] }, 3, (withCrc { wFrame with dst := 8 }), by decide +kernel⟩,
   ⟨wPort, 3, { wFrame with dst := 8 }, List.replicate 43 1, [wFrame], by decide +kernel⟩,
   ⟨wPort, 3, { wFrame with dst := 8 }, List.replicate 64 0, (List.replicate 60 0, []), by decide +kernel⟩⟩

theorem witness_ResetsAndTheirRelease :
    (∃ (s : State), s.keep.vauxGood = true ∧ s.keep.resetN = true ∧ s.nv.intents = []) ∧
    (∃ (s : State), s.keep.vauxGood = true ∧ s.keep.resetN = true ∧ s.nv.intents ≠ []) ∧
    (∃ (s : State), s.keep.vauxGood = true ∧ s.keep.hold = some HoldCause.pin ∧ s.keep.inReset = true) ∧
    (∃ (s : State), s.keep.vauxGood = true ∧ s.keep.resetN = false ∧ s.keep.hold = none ∧ s.onBlocked = false ∧ s.power = 0 ∧ s.get Reg.PWR_STAT_STAY = 0 ∧ s.keep.pwrEnTaken = true ∧ 1 ≤
    s.get Reg.PWR_TGT_STATE) ∧
    (∃ (s : State) (p : Path), s.keep.vauxGood = true ∧ s.writable p 8256 4 = true ∧ s.keep.inReset = false ∧ s.keep.hold = none ∧ s.nv.intents = [] ∧ s.keep.pwrEnTaken = false) ∧
    (∃ (s : State) (p : Path), s.keep.vauxGood = true ∧ s.writable p 68 1 = true ∧ s.get Reg.KEEP_REC_RAIL_LOST = 1 ∧ s.get Reg.KEEP_REC_REFCLK_LOST = 0 ∧ s.get Reg.KEEP_REC_MGMT_PLL_LOST =
    0 ∧ s.keep.thermLatch = false ∧ s.get Reg.PWR_STAT_BUSY = 0 ∧ s.power = 0 ∧ s.keep.inReset = false ∧ s.keep.hold = none ∧ s.get Reg.PWR_STAT_STAY = 0 ∧ s.keep.pwrEnTaken = true ∧ 1 ≤
    s.get Reg.PWR_TGT_STATE) :=
  ⟨⟨wRun, by decide +kernel⟩,
   ⟨wRun |>.onNv (fun v => { v with intents := [⟨7, [], 0⟩] }), by decide +kernel⟩,
   ⟨wRun |>.onKeep (fun v => { v with hold := some .pin, inReset := true }), by decide +kernel⟩,
   ⟨wKeep |>.onKeep (fun v => { v with resetN := false, inReset := true, pwrEn := true, pwrEnTaken := true }), by decide +kernel⟩,
   ⟨wRun |>.onKeep (fun m => { m with pwrEnTaken := false }), Path.msp, by decide +kernel⟩,
   ⟨wKeep |>.put Reg.KEEP_REC_RAIL_LOST (1) |>.onKeep (fun m => { m with pwrEnTaken := true }), Path.msp, by decide +kernel⟩⟩

theorem witness_RingsLockAndUnlock :
    (∃ (s : State) (r : RingId), s.keep.mgmtOn = true ∧ s.tuneRuns = true ∧ (s.ringOf r).parked = false ∧ (s.opAt r.port.val).exhausted = false) ∧
    (∃ (s : State) (r : RingId), s.keep.mgmtOn = true ∧ s.tuneRuns = true ∧ (s.ringOf r).parked = false ∧ (s.ringOf r).bad = false ∧ (s.ringOf r).absent = false ∧ r.rx = false ∧ 32 ≤
    r.idx.val ∧ lineLane (s.opAt r.port.val).remapTx r.idx.val = none ∧ (s.opAt r.port.val).swapT = none ∧ (s.opAt r.port.val).cal = none) ∧
    (∃ (s : State) (r : RingId), s.keep.mgmtOn = true ∧ s.tuneRuns = true ∧ (s.ringOf r).parked = true ∧ (s.opAt r.port.val).exhausted = false) ∧
    (∃ (s : State) (r : RingId), s.keep.mgmtOn = true ∧ s.tuneRuns = true ∧ (s.ringOf r).lock = false) ∧
    (∃ (s : State) (r : RingId) (lane k : Nat), s.keep.mgmtOn = true ∧ s.tuneRuns = true ∧ (s.ringOf r).lock = true ∧ r.rx = false ∧ lineLane (s.opAt r.port.val).remapTx r.idx.val = some
    lane ∧ s.canMove r.port.val lane k ∧ k ≠ r.idx.val ∧ (s.opAt r.port.val).swapQ = []) ∧
    (∃ (s : State) (r : RingId) (lane : Nat), s.keep.mgmtOn = true ∧ s.tuneRuns = true ∧ (s.ringOf r).lock = true ∧ r.rx = true ∧ lineLane (s.opAt r.port.val).remapRx r.idx.val = some lane
    ∧ s.canSwap r.port.val = true ∧ s.get (Reg.LAM_CTL_AUTO_SPARE r.port.val) = 1) ∧
    (∃ (s : State) (r : RingId) (lane : Nat), s.keep.mgmtOn = true ∧ s.tuneRuns = true ∧ r.rx = false ∧ lineLane (s.opAt r.port.val).remapTx r.idx.val = some lane ∧ s.canSwap r.port.val =
    true ∧ s.get (Reg.LAM_CTL_AUTO_SPARE r.port.val) = 1 ∧ (s.opAt r.port.val).swapT = none ∧ (s.opAt r.port.val).swapQ = [] ∧ s.freeSpares r.port.val = []) :=
  ⟨⟨wPort, (⟨3, false, 6⟩ : RingId), by decide +kernel⟩,
   ⟨wPort, ⟨3, false, 32⟩, by decide +kernel⟩,
   ⟨wPort |>.onRing (⟨3, false, 6⟩ : RingId).port (⟨3, false, 6⟩ : RingId).rx (⟨3, false, 6⟩ : RingId).idx (fun m => { m with parked := true }), (⟨3, false, 6⟩ : RingId), by decide +kernel⟩,
   ⟨wPort, (⟨3, false, 6⟩ : RingId), by decide +kernel⟩,
   ⟨(wPort.onRing 3 false 5 fun r => { r with lock := true }), ⟨3, false, 5⟩, 5, 34, by (repeat' apply And.intro) <;> first | decide +kernel⟩,
   ⟨wPort |>.onRing 3 true 6 (fun r => { r with lock := true }), (⟨3, true, 6⟩ : RingId), 6, by decide +kernel⟩,
   ⟨wPort |>.put (Reg.MBOX_ARG_ARG 0) 3 |>.put (Reg.MBOX_ARG_ARG 1) 1 |>.put (Reg.MBOX_ARG_ARG 2) 255 |>.onRing 3 false 34 (fun _ => {}) |>.onRing 3 false 35 (fun _ => {}), (⟨3, false, 6⟩ : RingId), 6, by decide +kernel⟩⟩

theorem witness_RoundsMissesAndTheTokenRecount :
    (∃ (s : State) (pt : PointId), (s.point pt.val).drawn + s.get Reg.QOS_CFG_TC0_RSV + (List.map (s.shareOf pt.val) (List.range 29)).sum ≤ 1024) ∧
    (∃ (s : State) (pt : PointId) (master tc : Nat) (q : QReq), List.find? (fun (q : QReq) => q.master == master && q.tc == tc) (s.point pt.val).heads = some q ∧ q.judged = false ∧ tc < 8 ∧
    s.get (Reg.QOS_TGT_TARGET tc) ≠ 0 ∧ 4 * s.get (Reg.QOS_TGT_TARGET tc) ≤ s.now - q.born ∧ master < 29 ∧ s.keep.mgmtOn = true) ∧
    (∃ (s : State) (pt : PointId) (master tc : Nat), (∀ (q : QReq), q ∈ (s.point pt.val).heads → q.master = master → q.tc = tc → q.judged = true ∨ s.now - q.born < 4 * s.get
    (Reg.QOS_TGT_TARGET tc))) ∧
    (∃ (s : State) (pt : PointId), (s.point pt.val).drawn ≤ 1024 ∧ s.keep.mgmtOn = true) ∧
    (∃ (s : State) (p : Path), s.readable p 32920 = true ∧ s.keep.domainsOn = true ∧ s.tokensBalance) :=
  ⟨⟨wRun, 4, by decide +kernel⟩,
   ⟨{ wPt 4 wReq with now := 1000000000 }.put (Reg.QOS_TGT_TARGET 2) 1, 4, 3, 2, wReq, by decide +kernel⟩,
   ⟨wRun, 4, 3, 2, by decide +kernel⟩,
   ⟨wRun, 4, by decide +kernel⟩,
   ⟨wRun, .msp, by decide +kernel, by decide +kernel, wRun_tokens⟩⟩

theorem witness_RoutesAndFences :
    (∃ (s : State) (p : Path) (v : Word), s.writable p 41024 (BitVec.toNat v) = true ∧ s.get (Reg.LOCK 10) = 0) ∧
    (∃ (s : State) (p : Path) (v : Word), s.writable p 41040 (BitVec.toNat v) = true ∧ s.get Reg.ROUTE_SEL_BANK = 0 ∧ s.get Reg.ROUTE_BANK_ACTIVE ≤ 1) ∧
    (∃ (s : State) (p : Path) (v : Word), s.writable p 41040 (BitVec.toNat v) = true ∧ s.get Reg.ROUTE_SEL_BANK = 1 ∧ bitOf (BitVec.toNat v) 25 = true ∧ s.get Reg.ROUTE_SEL_ENTRY ≠ s.get
    Reg.ROUTE_NODE_NODE ∧ s.fenced (s.get Reg.ROUTE_SEL_ENTRY) = false ∧ Table.wf { } s.strm.larder = true) ∧
    (∃ (s : State) (p : Path) (v : Word), s.writable p 41040 (BitVec.toNat v) = true ∧ s.get Reg.ROUTE_SEL_BANK = 1 ∧ bitOf (BitVec.toNat v) 25 = false) ∧
    (∃ (s : State) (p : Path), s.writable p 41032 2 = true ∧ s.get Reg.ROUTE_BANK_ACTIVE ≤ 1) :=
  ⟨⟨(wStep 1 7 |>.put Reg.PWR_STAT_STATE 2), Path.msp, 0, by decide +kernel⟩,
   ⟨(wStep 1 7 |>.put Reg.PWR_STAT_STATE 2), Path.msp, 0, by decide +kernel⟩,
   ⟨wRun |>.put Reg.ROUTE_SEL_BANK (1) |>.put Reg.ROUTE_SEL_ENTRY 7 |>.onCtx 9 (fun c => { c with state := 1, peerNode := 7, unack := [⟨4, 3, 17, 3, 2, 2, 1, false⟩] }), Path.msp, 2 ^ 25, by decide +kernel⟩,
   ⟨wRun |>.put Reg.ROUTE_SEL_BANK (1), Path.msp, 0, by decide +kernel⟩,
   ⟨(wStep 1 7 |>.put Reg.PWR_STAT_STATE 2), Path.msp, by decide +kernel⟩⟩

theorem witness_SearchesAndFeedForward :
    (∃ (s : State) (q : QuadId) (peaks : List Peak) (k left : Nat) (rest : List (Nat × Nat)) (x : Nat × List (Option Nat)), s.tuneRuns = true ∧ s.get (Reg.LAM_STAT_SEARCHING (keyPort k)) =
    1 ∧ tget [] s.mgmt.sweep q.val = (k, left) :: rest ∧ nameLines peaks (s.get (Reg.LAM_WIN_LO (keyPort k))) (s.get (Reg.LAM_WIN_HI (keyPort k))) = some x ∧ rest ≠ []) ∧
    (∃ (s : State) (q : QuadId) (peaks : List Peak) (k left : Nat) (rest : List (Nat × Nat)) (pitch : Nat) (cs : List (Option Nat)), s.tuneRuns = true ∧ s.get (Reg.LAM_STAT_SEARCHING
    (keyPort k)) = 0 ∧ tget [] s.mgmt.sweep q.val = (k, left) :: rest ∧ nameLines peaks (s.get (Reg.LAM_WIN_LO (keyPort k))) (s.get (Reg.LAM_WIN_HI (keyPort k))) = some (pitch, cs)) ∧
    (∃ (s : State) (q : QuadId) (peaks : List Peak) (k left : Nat) (rest : List (Nat × Nat)), s.tuneRuns = true ∧ tget [] s.mgmt.sweep q.val = (k, left) :: rest ∧ nameLines peaks (s.get
    (Reg.LAM_WIN_LO (keyPort k))) (s.get (Reg.LAM_WIN_HI (keyPort k))) = none ∧ 1 < left) ∧
    (∃ (s : State) (q : QuadId) (peaks : List Peak) (k left : Nat), s.tuneRuns = true ∧ tget [] s.mgmt.sweep q.val = [(k, left)] ∧ ((nameLines peaks (s.get (Reg.LAM_WIN_LO (keyPort k)))
    (s.get (Reg.LAM_WIN_HI (keyPort k)))).isSome = true ∨ left ≤ 1)) ∧
    (∃ (peaks : List Peak) (lo hi pitch : Nat) (cs : List (Option Nat)) (c : Nat), nameLines peaks lo hi = some (pitch, cs) ∧ some c ∈ cs) ∧
    (∃ (s : State) (n : OpId) (r : Int), s.get (Reg.LAM_CTL_FF_EN n.val) = 1 ∧ s.get (Reg.LAM_CTL_FF_ADAPT n.val) = 1 ∧ r % 8 = 0 ∧ -32768 ≤ signed16 (s.get (Reg.LAM_FF_GAIN n.val)) + r / 8
    ∧ signed16 (s.get (Reg.LAM_FF_GAIN n.val)) + r / 8 ≤ 32767) ∧
    (∃ (s : State) (n : OpId), (s.get (Reg.LAM_CTL_FF_EN n.val) = 0 ∨ s.get (Reg.LAM_CTL_FF_ADAPT n.val) = 0)) :=
  ⟨⟨((wRun.put (Reg.LAM_STAT_SEARCHING 0) 1).onMgmt fun m => { m with sweep := [(0, [(2, 3), (3, 3)])] }), 0, wPeaks, 2, 3, [(3, 3)], (100, ((nameLines wPeaks 8192 57344).get!).2), by decide +kernel⟩,
   ⟨wRun |>.onMgmt (fun m => { m with sweep := [(0, [(2, 3)])] }), 0, wPeaks, 2, 3, [], 100, ((nameLines wPeaks 8192 57344).get!).2, by decide +kernel⟩,
   ⟨wRun |>.onMgmt (fun m => { m with sweep := [(0, [(2, 3)])] }), 0, [], 2, 3, [], by decide +kernel⟩,
   ⟨wRun |>.onMgmt (fun m => { m with sweep := [(0, [(2, 3)])] }), 0, wPeaks, 2, 3, by decide +kernel⟩,
   ⟨wPeaks, 8192, 57344, 100, ((nameLines wPeaks 8192 57344).get!).2, 8200, by decide +kernel⟩,
   ⟨wRun, 3, 0, by decide +kernel⟩,
   ⟨wRun |>.put (Reg.LAM_CTL_FF_EN (3 : OpId).val) (0), 3, by decide +kernel⟩⟩

theorem witness_SendsTakeSequenceSlotAndPlace :
    (∃ (s : State) (n : HpId) (sid : Nat) (payload : List Byte) (port : Nat) (dl : Bool) (u : State), s.hostOn n.val = true ∧ payloadOk (s.ctxAt sid).brynn payload = true ∧ (s.ctxAt
    sid).recv = false ∧ (s.ctxAt sid).state = 1 ∧ (s.ctxAt sid).live.length < s.get Reg.STRM_CFG_WIN ∧ (s.ctxAt sid).peerNode ≠ s.get Reg.ROUTE_NODE_NODE ∧ s.pickRoute (s.ctxAt
    sid).peerNode (s.ctxAt sid).peerSid false = (some (port, dl), u) ∧ List.length (s.opAt port).pantry < 4096 ∧ s.sendHeld sid = false) ∧
    (∃ (s : State) (n : HpId) (sid : Nat) (payload : List Byte) (port : Nat) (dl : Bool) (u : State), s.hostOn n.val = true ∧ payloadOk (s.ctxAt sid).brynn payload = true ∧ (s.ctxAt
    sid).recv = false ∧ (s.ctxAt sid).state = 1 ∧ (s.ctxAt sid).live.length < s.get Reg.STRM_CFG_WIN ∧ (s.ctxAt sid).peerNode ≠ s.get Reg.ROUTE_NODE_NODE ∧ s.pickRoute (s.ctxAt
    sid).peerNode (s.ctxAt sid).peerSid false = (some (port, dl), u) ∧ (4096 ≤ List.length (s.opAt port).pantry ∨ s.sendHeld sid = true)) ∧
    (∃ (s : State) (n : HpId) (sid : Nat) (payload : List Byte), s.hostOn n.val = true ∧ payloadOk (s.ctxAt sid).brynn payload = true ∧ (s.ctxAt sid).recv = false ∧ (s.ctxAt sid).state = 1
    ∧ (s.ctxAt sid).live.length < s.get Reg.STRM_CFG_WIN ∧ (s.ctxAt sid).peerNode = s.get Reg.ROUTE_NODE_NODE) ∧
    (∃ (s : State) (n : HpId) (sid : Nat) (payload : List Byte), s.hostOn n.val = true ∧ payloadOk (s.ctxAt sid).brynn payload = true ∧ ((s.ctxAt sid).recv = true ∨ ¬(s.ctxAt sid).state ∈
    [1, 2])) ∧
    (∃ (s : State) (n : HpId) (sid : Nat) (payload : List Byte), s.hostOn n.val = true ∧ payloadOk (s.ctxAt sid).brynn payload = true ∧ (s.ctxAt sid).recv = false ∧ ((s.ctxAt sid).state = 2
    ∨ (s.ctxAt sid).state = 1 ∧ s.get Reg.STRM_CFG_WIN ≤ (s.ctxAt sid).live.length)) :=
  ⟨⟨(wPort.onCtx 9 (fun c => { c with state := 1, peerNode := 7 })), 2, 9, List.replicate 64 1, 3, false, (wPort.onCtx 9 (fun c => { c with state := 1, peerNode := 7 })), by decide +kernel⟩,
   ⟨((wSend fun c => { c with unack := [] }).onPoint 0 fun p => { p with waiting := [⟨2, 2, 2, 0, 0, [0, 0, 0, 0], false, false, 0, .hold 9 []⟩] }), 2, 9, List.replicate 64 1, 3, false, ((wSend fun c => { c with unack := [] }).onPoint 0 fun p => { p with waiting := [⟨2, 2, 2, 0, 0, [0, 0, 0, 0], false, false, 0, .hold 9 []⟩] }), by decide +kernel⟩,
   ⟨wSend fun c => { c with peerNode := 5 }, 2, 9, List.replicate 64 1, by decide +kernel⟩,
   ⟨(wPort.onCtx 9 (fun c => { c with state := 1, peerNode := 7 })) |>.onCtx 9 (fun c => { c with recv := true }), 2, 9, List.replicate 64 1, by decide +kernel⟩,
   ⟨(wPort.onCtx 9 (fun c => { c with state := 1, peerNode := 7 })) |>.onCtx 9 (fun c => { c with state := 2 }), 2, 9, List.replicate 64 1, by decide +kernel⟩⟩

theorem witness_SensorsAndThresholds :
    (∃ (s : State) (i : SensorId) (tj : Int), s.keep.mgmtOn = true ∧ s.power ≠ 0 ∧ -320 ≤ tj ∧ tj ≤ 1200 ∧ (s.sensor i.val).fault = false ∧ s.get (Reg.HEAT_THR_DIS i.val) = 0 ∧ tj < (8 *
    s.get (Reg.HEAT_THR_SHUT i.val)).cast ∧ (s.sensor i.val).st = 0 ∧ (8 * s.get (Reg.HEAT_THR_WARN i.val)).cast ≤ tj ∧ tj < (8 * s.get (Reg.HEAT_THR_THROT i.val)).cast) ∧
    (∃ (s : State) (i : SensorId) (tj : Int), s.keep.mgmtOn = true ∧ s.power ≠ 0 ∧ -320 ≤ tj ∧ tj ≤ 1200 ∧ (s.sensor i.val).fault = false ∧ s.get (Reg.HEAT_THR_DIS i.val) = 0 ∧ tj < (8 *
    s.get (Reg.HEAT_THR_SHUT i.val)).cast ∧ (s.sensor i.val).st ≤ 1 ∧ (8 * s.get (Reg.HEAT_THR_THROT i.val)).cast ≤ tj) ∧
    (∃ (s : State) (i : SensorId) (tj : Int), s.keep.mgmtOn = true ∧ s.power ≠ 0 ∧ -320 ≤ tj ∧ tj ≤ 1200 ∧ (s.sensor i.val).fault = false ∧ s.get (Reg.HEAT_THR_DIS i.val) = 0 ∧ tj < (8 *
    s.get (Reg.HEAT_THR_SHUT i.val)).cast ∧ (s.sensor i.val).st = 2 ∧ tj < (8 * s.get (Reg.HEAT_THR_THROT i.val)).cast - (8 * s.get (Reg.HEAT_THR_HYST i.val)).cast) ∧
    (∃ (s : State) (i : SensorId) (tj : Int), s.keep.mgmtOn = true ∧ s.power ≠ 0 ∧ -320 ≤ tj ∧ tj ≤ 1200 ∧ (s.sensor i.val).fault = false ∧ s.get (Reg.HEAT_THR_DIS i.val) = 0 ∧ tj < (8 *
    s.get (Reg.HEAT_THR_SHUT i.val)).cast ∧ (s.sensor i.val).st = 1 ∧ tj < (8 * s.get (Reg.HEAT_THR_WARN i.val)).cast - (8 * s.get (Reg.HEAT_THR_HYST i.val)).cast ∧ tj < (8 * s.get
    (Reg.HEAT_THR_THROT i.val)).cast) ∧
    (∃ (s : State) (i : SensorId), s.keep.mgmtOn = true ∧ s.power ≠ 0 ∧ (s.sensor i.val).fault = false ∧ (s.sensor i.val).fails ≤ 1) ∧
    (∃ (s : State) (i : SensorId), s.keep.mgmtOn = true ∧ s.power ≠ 0 ∧ (s.sensor i.val).fault = false ∧ (s.sensor i.val).fails = 2) ∧
    (∃ (s : State) (i : SensorId) (tj : Int), s.keep.mgmtOn = true ∧ s.power ≠ 0 ∧ (tj < -320 ∨ 1200 < tj) ∧ (s.sensor i.val).fault = false) ∧
    (∃ (s : State) (i : SensorId) (tj : Int), s.keep.mgmtOn = true ∧ s.power ≠ 0 ∧ -320 ≤ tj ∧ tj ≤ 1200 ∧ (s.sensor i.val).fault = true ∧ 2 ≤ (s.sensor i.val).goods) :=
  ⟨⟨wRun, 40, 8 * 96, by decide +kernel⟩,
   ⟨wRun, 40, 900, by decide +kernel⟩,
   ⟨wRun |>.onSensor (40 : SensorId).val (fun m => { m with st := 2 }), 40, 0, by decide +kernel⟩,
   ⟨wRun |>.onSensor (40 : SensorId).val (fun m => { m with st := 1 }), 40, 0, by decide +kernel⟩,
   ⟨wRun, 40, by decide +kernel⟩,
   ⟨wRun |>.onSensor (40 : SensorId).val (fun m => { m with fails := 2 }), 40, by decide +kernel⟩,
   ⟨wRun, 40, 1201, by decide +kernel⟩,
   ⟨wRun |>.onSensor (40 : SensorId).val (fun m => { m with fault := true }) |>.onSensor 40 (fun x => { x with goods := 2 }), 40, 0, by decide +kernel⟩⟩

theorem witness_SidebandMspAndHatch :
    (∃ (s : State) (n : HpId), n.val ≠ 0 ∧ (s.hpAt n.val).sbUp = true) ∧
    (∃ (s : State) (n : HpId) (o : Nat) (r : SbRequest), n.val = 0 ∧ s.serves Path.sideband = true ∧ (4 ≤ o ∨ r.width ≠ 32 ∨ r.config = true)) ∧
    (∃ (s : State) (n : HpId) (o : Nat) (r : SbRequest), n.val = 0 ∧ o < 4 ∧ r.width = 32 ∧ r.config = false ∧ r.write = true ∧ s.writable Path.sideband r.addr (BitVec.toNat r.data) = true) ∧
    (∃ (s : State) (n : HpId) (o : Nat) (r : SbRequest), n.val = 0 ∧ o < 4 ∧ r.width = 32 ∧ r.config = false ∧ r.write = false ∧ s.readable Path.sideband r.addr = true) ∧
    (∃ (s : State) (f : MspFrame) (k : Nat), s.keep.vauxGood = true ∧ f.cmd = 2 ∧ f.cut = some k ∧ k < 32) ∧
    (∃ (s : State) (f : MspFrame), s.keep.vauxGood = true ∧ f.cmd = 2 ∧ f.cut = none ∧ s.writable Path.msp f.addr.toNat (BitVec.toNat f.data) = true) ∧
    (∃ (s : State) (f : MspFrame) (k : Nat), s.keep.vauxGood = true ∧ f.cmd = 2 ∧ f.cut = some k ∧ 32 ≤ k ∧ s.writable Path.msp f.addr.toNat (BitVec.toNat f.data) = true) ∧
    (∃ (s : State) (f : MspFrame), s.keep.vauxGood = true ∧ f.cmd = 3 ∧ f.cut ≠ none ∧ s.readable Path.msp f.addr.toNat = true) ∧
    (∃ (s : State) (f : MspFrame), s.keep.vauxGood = true ∧ f.cmd = 3 ∧ f.cut = none ∧ s.readable Path.msp f.addr.toNat = true) ∧
    (∃ (s : State) (f : MspFrame), s.keep.vauxGood = true ∧ f.cmd ≠ 2 ∧ f.cmd ≠ 3 ∧ f.cut = none) ∧
    (∃ (s : State) (a : Nat), s.keep.mgmtOn = true ∧ s.regaccLate = false ∧ s.readable Path.hatch (a % 1048576) = true ∧ s.accFault a ≠ some 2) ∧
    (∃ (s : State) (r : RegAccRun), s.keep.mgmtOn = true ∧ s.regaccLate = false ∧ s.mgmt.regacc = some r) ∧
    (∃ (s : State) (a st : Nat), s.keep.mgmtOn = true ∧ s.regaccLate = false ∧ s.accFault (a % 1048576) = some st) ∧
    (∃ (s : State) (a : Nat) (d : Word), s.keep.mgmtOn = true ∧ s.regaccLate = false ∧ s.regaccCapture.writable Path.hatch (a % 1048576) (BitVec.toNat d) = true) ∧
    (∃ (s : State) (w : Bool) (a : RegAddr) (d : Word) (b : List Bool) (c : Instr), s.keep.vauxGood = true ∧ s.keep.mgmtOn = false ∧ c ∈ [Instr.regacc w a d, Instr.extest b,
    Instr.samplePreload none, Instr.samplePreload (some b)]) ∧
    (∃ (s : State) (op : Byte), s.keep.vauxGood = true ∧ (hatchKnown (BitVec.toNat op) = false ∨ s.keep.mgmtOn = false ∧ op ≠ 1)) :=
  ⟨⟨wHost, 2, by decide +kernel⟩,
   ⟨wRun |>.onHp 0 (fun h => { h with sbUp := true }), 0, 4, (⟨32, false, true, 0x9048, 0⟩ : SbRequest), by decide +kernel⟩,
   ⟨wRun |>.onHp 0 (fun h => { h with sbUp := true }), 0, 0, (⟨32, false, true, 0x9048, 0⟩ : SbRequest), by decide +kernel⟩,
   ⟨wRun |>.onHp 0 (fun h => { h with sbUp := true }), 0, 0, (⟨32, false, false, 0x9048, 0⟩ : SbRequest), by decide +kernel⟩,
   ⟨wRun, (⟨2, 0x9048, 5, some 0⟩ : MspFrame), 0, by decide +kernel⟩,
   ⟨wRun, (⟨2, 0x9048, 5, none⟩ : MspFrame), by decide +kernel⟩,
   ⟨wRun, ⟨2, 0x9048, 5, some 32⟩, 32, by decide +kernel⟩,
   ⟨wRun, ⟨3, 0x9048, 5, some 3⟩, by decide +kernel⟩,
   ⟨wRun, (⟨3, 0x9048, 5, none⟩ : MspFrame), by decide +kernel⟩,
   ⟨wRun, (⟨4, 0x9048, 5, none⟩ : MspFrame), by decide +kernel⟩,
   ⟨wRun, 0x9048, by decide +kernel⟩,
   ⟨wRun.onMgmt fun m => { m with regacc := some ⟨0, 5, 0, false⟩ }, ⟨0, 5, 0, false⟩, by decide +kernel⟩,
   ⟨wRun, 3, 2, by decide +kernel⟩,
   ⟨wRun, 0x9048, 0, by decide +kernel⟩,
   ⟨wKeep, true, 0x9048, 5, [], .regacc true 0x9048 5, by decide +kernel⟩,
   ⟨wKeep, 0x33, by decide +kernel⟩⟩

theorem witness_SilencePromotionAndHandOver :
    (∃ (s : State), s.keep.mgmtOn = true ∧ s.get Reg.TWIN_STAT_LINK_UP = 0) ∧
    (∃ (s : State), s.keep.mgmtOn = true ∧ s.get Reg.TWIN_STAT_LINK_UP ≠ 0 ∧ s.twin.laneRx = false) ∧
    (∃ (s : State), s.keep.mgmtOn = true ∧ s.get Reg.TWIN_STAT_LINK_UP ≠ 0 ∧ s.twin.laneTx = false) ∧
    (∃ (s : State) (lane : Option Bool), s.keep.mgmtOn = true ∧ s.get Reg.TWIN_STAT_LINK_UP ≠ 0 ∧ (lane = some true → s.twin.laneRx = true) ∧ (lane = some false → s.twin.laneTx = true) ∧
    s.get Reg.TWIN_STAT_PAIRED = 0) ∧
    (∃ (s : State) (lane : Option Bool), s.keep.mgmtOn = true ∧ s.get Reg.TWIN_STAT_LINK_UP ≠ 0 ∧ (lane = some true → s.twin.laneRx = true) ∧ (lane = some false → s.twin.laneTx = true) ∧
    s.get Reg.TWIN_STAT_PAIRED ≠ 0) ∧
    (∃ (s : State) (c : Instr) (cause : Nat), s.keep.mgmtOn = true ∧ (c = Instr.twinSilence ∧ cause = 1 ∨ ∃ (reason : Nat), c = Instr.twinDown reason ∧ cause = 2) ∧ s.get
    Reg.TWIN_STAT_PAIRED = 0) ∧
    (∃ (s : State) (c : Instr) (cause : Nat), s.keep.mgmtOn = true ∧ (c = Instr.twinSilence ∧ cause = 1 ∨ ∃ (reason : Nat), c = Instr.twinDown reason ∧ cause = 2) ∧ s.get
    Reg.TWIN_STAT_PAIRED ≠ 0 ∧ s.get Reg.TWIN_STAT_ROLE = 1) ∧
    (∃ (s : State) (c : Instr) (cause : Nat), s.keep.mgmtOn = true ∧ (c = Instr.twinSilence ∧ cause = 1 ∨ ∃ (reason : Nat), c = Instr.twinDown reason ∧ cause = 2) ∧ s.get
    Reg.TWIN_STAT_PAIRED ≠ 0 ∧ s.get Reg.TWIN_STAT_ROLE ≠ 1 ∧ s.get Reg.TWIN_STAT_STATE = 3) ∧
    (∃ (s : State) (c : Instr) (cause : Nat), s.keep.mgmtOn = true ∧ (c = Instr.twinSilence ∧ cause = 1 ∨ ∃ (reason : Nat), c = Instr.twinDown reason ∧ cause = 2) ∧ s.get
    Reg.TWIN_STAT_PAIRED ≠ 0 ∧ s.get Reg.TWIN_STAT_ROLE ≠ 1 ∧ s.get Reg.TWIN_STAT_STATE = 2) ∧
    (∃ (s : State), s.keep.mgmtOn = true ∧ s.get Reg.TWIN_STAT_STATE = 5 ∧ s.twin.claim ≠ none) ∧
    (∃ (s : State), s.keep.mgmtOn = true ∧ s.twin.claim = none) ∧
    (∃ (s : State) (b c : Nat) (a k : Bool) (node count : Nat), s.keep.mgmtOn = true ∧ s.twin.claim = some (b, c, a, k) ∧ (node ≠ s.get Reg.ROUTE_NODE_NODE ∨ count ≠ s.get
    Reg.TWIN_PROM_COUNT)) ∧
    (∃ (s : State) (b c : Nat) (a : Bool), s.keep.mgmtOn = true ∧ s.twin.claim = some (b, c, a, true)) ∧
    (∃ (s : State) (b c : Nat), s.keep.mgmtOn = true ∧ s.twin.claim = some (b, c, false, false) ∧ s.twin.quiet = true) ∧
    (∃ (s : State) (b c : Nat), s.keep.mgmtOn = true ∧ s.twin.claim = some (b, c, false, false) ∧ s.twin.quiet = false) ∧
    (∃ (s : State) (b c : Nat), s.keep.mgmtOn = true ∧ s.twin.claim = some (b, c, true, false)) ∧
    (∃ (s : State) (n : OpId), s.keep.mgmtOn = true ∧ (s.trained n.val = false ∨ s.brynn n.val = true)) ∧
    (∃ (s : State) (n : OpId) (phase : Nat), s.keep.mgmtOn = true ∧ s.trained n.val = true ∧ s.brynn n.val = false ∧ phase ≠ 1) ∧
    (∃ (s : State) (n : OpId), s.keep.mgmtOn = true ∧ (s.opAt n.val).claim = none) ∧
    (∃ (s : State) (n : OpId) (node count : Nat), s.keep.mgmtOn = true ∧ (s.opAt n.val).claim = some (node, count)) ∧
    (∃ (s : State), s.keep.mgmtOn = true ∧ s.copies = true ∧ s.get Reg.TWIN_STAT_STATE = 3) ∧
    (∃ (s : State), s.keep.mgmtOn = true ∧ (s.copies = false ∨ s.get Reg.TWIN_STAT_STATE ≠ 3)) ∧
    (∃ (s : State) (sid : Nat), s.keep.mgmtOn = true ∧ (s.ctxAt sid).state ≠ 0 ∧ (s.ctxAt sid).recv = true ∧ (s.ctxAt sid).resume = 2) ∧
    (∃ (s : State) (sid : Nat), s.keep.mgmtOn = true ∧ (s.ctxAt sid).resume ≠ 2) :=
  ⟨⟨wRun, by decide +kernel⟩,
   ⟨wRun |>.put Reg.TWIN_STAT_LINK_UP 1, by decide +kernel⟩,
   ⟨wRun |>.put Reg.TWIN_STAT_LINK_UP 1, by decide +kernel⟩,
   ⟨wRun.put Reg.TWIN_STAT_LINK_UP 1, none, by decide +kernel⟩,
   ⟨wTwin 1 3, none, by decide +kernel⟩,
   ⟨wRun, .twinSilence, 1, by (repeat' apply And.intro) <;> first | decide +kernel | exact .inl ⟨rfl, rfl⟩⟩,
   ⟨wTwin 1 3, .twinSilence, 1, by (repeat' apply And.intro) <;> first | decide +kernel | exact .inl ⟨rfl, rfl⟩⟩,
   ⟨wTwin 2 3, .twinSilence, 1, by (repeat' apply And.intro) <;> first | decide +kernel | exact .inl ⟨rfl, rfl⟩⟩,
   ⟨wTwin 2 2, .twinSilence, 1, by (repeat' apply And.intro) <;> first | decide +kernel | exact .inl ⟨rfl, rfl⟩⟩,
   ⟨(wTwin 2 5) |>.onTwin (fun w => { w with claim := some (0, 1, true, false) }), by decide +kernel⟩,
   ⟨wRun, by decide +kernel⟩,
   ⟨wRun |>.onTwin (fun m => { m with claim := some (0, 0, false, false) }), 0, 0, false, false, 0, 0, by decide +kernel⟩,
   ⟨wRun |>.onTwin (fun m => { m with claim := some (0, 0, false, true) }), 0, 0, false, by decide +kernel⟩,
   ⟨(wTwin 2 5).onTwin fun w => { w with claim := some (0, 1, false, false), quiet := true }, 0, 1, by decide +kernel⟩,
   ⟨wRun |>.onTwin (fun m => { m with claim := some (0, 0, false, false) }), 0, 0, by decide +kernel⟩,
   ⟨(wTwin 2 5) |>.onTwin (fun m => { m with claim := some (0, 0, true, false) }), 0, 0, by decide +kernel⟩,
   ⟨wPort |>.put (Reg.OP_STAT_PSTATE 3) 0, 3, by decide +kernel⟩,
   ⟨(wTwin 2 3), 3, 3, by decide +kernel⟩,
   ⟨wPort |>.put (Reg.OP_STAT_PSTATE 3) 0, 3, by decide +kernel⟩,
   ⟨wPort |>.onOp (3 : OpId).val (fun m => { m with claim := some (7, 0) }) |>.put (Reg.OP_PEER_ROLE 3) 1, 3, 7, 0, by decide +kernel⟩,
   ⟨(wTwin 2 3), by decide +kernel⟩,
   ⟨wRun, by decide +kernel⟩,
   ⟨wRun |>.onCtx 9 (fun c => { c with state := 1, recv := true, resume := 2 }), 9, by decide +kernel⟩,
   ⟨(wTwin 2 5) |>.onTwin (fun w => { w with claim := some (0, 1, true, false) }), 3, by decide +kernel⟩⟩

theorem witness_SlowPinsStormsAndUnmasking :
    (∃ (s : State) (pin : SlowPin), s.keep.vauxGood = true ∧ s.keep.edges pin = 1000 ∧ s.get (stormMask pin) = 0) ∧
    (∃ (s : State), s.keep.vauxGood = true ∧ s.keep.faultInN = true ∧ s.get Reg.KEEP_STORM_FAULT_IN_MASK = 0 ∧ s.keep.edgesFaultInN ≠ 1000) ∧
    (∃ (s : State), s.keep.vauxGood = true ∧ s.keep.faultInN = false ∧ s.get Reg.KEEP_STORM_FAULT_IN_MASK = 0 ∧ s.keep.edgesFaultInN ≠ 1000) ∧
    (∃ (s : State), s.keep.vauxGood = true ∧ s.keep.wakeN = false ∧ s.get Reg.KEEP_STORM_WAKE_N_MASK = 0 ∧ s.keep.edgesWakeN ≠ 1000) ∧
    (∃ (s : State) (p : Path), s.keep.vauxGood = true ∧ s.writable p 76 1024 = true ∧ s.get Reg.KEEP_STORM_FAULT_IN_MASK = 1 ∧ s.keep.faultInN = false) :=
  ⟨⟨wRun |>.onKeep (fun x => { x with edgesPwrEn := 1000 }), SlowPin.pwrEn, by decide +kernel⟩,
   ⟨wRun, by decide +kernel⟩,
   ⟨wRun |>.onKeep (fun m => { m with faultInN := false }), by decide +kernel⟩,
   ⟨wRun |>.onKeep (fun m => { m with wakeN := false }), by decide +kernel⟩,
   ⟨wRun |>.put Reg.KEEP_STORM_FAULT_IN_MASK (1) |>.onKeep (fun m => { m with faultInN := false }), Path.msp, by decide +kernel⟩⟩

theorem witness_SourcesAndTheChain :
    (∃ (s : State) (l : LoadRun), l.atS10 = false ∧ s.keep.mgmtOn = true ∧ s.mgmt.load = some l ∧ l.src = LoadSrc.hatch ∧ s.mgmt.hatchFifo.length < 16384) ∧
    (∃ (s : State) (l : LoadRun), l.atS10 = false ∧ s.keep.mgmtOn = true ∧ s.mgmt.load = some l ∧ l.src = LoadSrc.hatch ∧ s.mgmt.hatchFifo.length = 16384) ∧
    (∃ (s : State) (l : LoadRun) (r : Record), l.atS10 = false ∧ s.mgmt.load = some l ∧ l.src = LoadSrc.hatch ∧ s.fifoGives r = true ∧ recCheck l 5 r = 0 ∧ 1 ≤ bodyNat r 0 4 ∧ bodyNat r 0 4
    ≤ 8 ∧ bodyNat r 4 4 < bodyNat r 0 4) ∧
    (∃ (s : State) (l : LoadRun) (r : Record), l.atS10 = false ∧ s.mgmt.load = some l ∧ l.src = LoadSrc.hatch ∧ s.fifoGives r = true ∧ recCheck l 5 r = 0 ∧ (bodyNat r 0 4 = 0 ∨ 8 < bodyNat
    r 0 4)) ∧
    (∃ (s : State) (l : LoadRun) (r : Record), l.atS10 = false ∧ s.mgmt.load = some l ∧ s.sourceGives l r = true ∧ recCheck l 7 r = 0) ∧
    (∃ (s : State) (l : LoadRun), l.atS10 = false ∧ s.mgmt.load = some l ∧ l.src = LoadSrc.chain ∧ l.segSeen = true) ∧
    (∃ (s : State) (l : LoadRun), l.atS10 = false ∧ s.mgmt.chain.ownDone = true ∧ s.get Reg.CFG_CHAIN_FWD_BUSY = 0) ∧
    (∃ (s : State) (l : LoadRun) (r : Record), l.atS10 = false ∧ s.mgmt.load = none ∧ s.get Reg.CFG_CHAIN_FWD_BUSY = 1 ∧ s.chainGives r = true ∧ r.rtype = 7) :=
  ⟨⟨wRun |>.onMgmt (fun m => { m with load := some ({ wLoad with src := .hatch }) }), { wLoad with src := .hatch }, by decide +kernel⟩,
   ⟨wRun |>.onMgmt (fun m => { m with load := some ({ wLoad with src := .hatch }) }) |>.onMgmt (fun m => { m with hatchFifo := List.replicate 16384 0 }), { wLoad with src := .hatch }, by decide +kernel⟩,
   ⟨wRun.onMgmt fun m => { m with load := some { wLoad with src := .hatch }, hatchFifo := wWords (mkRec 5 0xFFFFFFFF 0 0 (toBytes (natBe 4 2 ++ natBe 4 1 ++ natBe 4 0))) }, { wLoad with src := .hatch }, (mkRec 5 0xFFFFFFFF 0 0 (toBytes (natBe 4 2 ++ natBe 4 1 ++ natBe 4 0))), by decide +kernel⟩,
   ⟨wRun.onMgmt fun m => { m with load := some { wLoad with src := .hatch }, hatchFifo := wWords (mkRec 5 0xFFFFFFFF 0 0 (toBytes (natBe 4 9 ++ natBe 4 1 ++ natBe 4 0))) }, { wLoad with src := .hatch }, (mkRec 5 0xFFFFFFFF 0 0 (toBytes (natBe 4 9 ++ natBe 4 1 ++ natBe 4 0))), by decide +kernel⟩,
   ⟨wRun |>.onMgmt (fun m => { m with load := some wLoad }), wLoad, mkRec 7 0xFFFFFFFF 0 0 [], by decide +kernel⟩,
   ⟨wRun |>.onMgmt (fun m => { m with load := some ({ wLoad with src := .chain, started := true, segSeen := true }) }), { wLoad with src := .chain, started := true, segSeen := true }, by decide +kernel⟩,
   ⟨wRun |>.onMgmt (fun m => { m with chain := { m.chain with ownDone := true } }), wLoad, by decide +kernel⟩,
   ⟨wRun |>.put Reg.CFG_CHAIN_FWD_BUSY (1), wLoad, mkRec 7 0xFFFFFFFF 0 0 [], by decide +kernel⟩⟩

theorem witness_StepRunsTheFrontCommand :
    (∃ (c : Instr) (rest : List Instr) (s : State), s.pending = c :: rest) ∧
    (∃ (s : State), s.pending = []) :=
  ⟨⟨Instr.idcode, [Instr.vauxPowerGood], ({ wRun with pending := [Instr.idcode, Instr.vauxPowerGood] }), by decide +kernel⟩,
   ⟨wKeep, by decide +kernel⟩⟩

theorem witness_StreamsOpenAndClose :
    (∃ (s : State) (n : HpId) (req : OpenReq) (sid : Nat), s.hostOn n.val = true ∧ req.sid = some sid ∧ sid < 2097152 ∧ List.length s.strm.larder < 2097152 ∧ (s.ctxAt sid).state = 0 ∧
    s.fenced req.peerNode = false) ∧
    (∃ (s : State) (n : HpId) (req : OpenReq), s.hostOn n.val = true ∧ req.sid = none ∧ Table.wf { } s.strm.larder = true ∧ (∀ (e : Nat × Ctx), e ∈ s.strm.larder → e.snd.state ≠ 0) ∧
    List.length s.strm.larder < 2097152 ∧ s.fenced req.peerNode = false) ∧
    (∃ (s : State) (n : HpId), s.hostOn n.val = true ∧ 2097152 ≤ List.length s.strm.larder ∧ s.keep.mgmtOn = true) ∧
    (∃ (s : State) (n : HpId) (req : OpenReq) (sid : Nat), s.hostOn n.val = true ∧ req.sid = some sid ∧ sid < 2097152 ∧ List.length s.strm.larder < 2097152 ∧ (s.ctxAt sid).state ≠ 0) ∧
    (∃ (s : State) (n : HpId) (req : OpenReq) (sid : Nat), s.hostOn n.val = true ∧ req.sid = some sid ∧ sid < 2097152 ∧ List.length s.strm.larder < 2097152 ∧ (s.ctxAt sid).state = 0 ∧
    s.fenced req.peerNode = true) ∧
    (∃ (s : State) (n : HpId) (sid : Nat), s.hostOn n.val = true ∧ ¬(s.ctxAt sid).state ∈ [0, 3] ∧ ((s.ctxAt sid).recv = true ∨ (s.ctxAt sid).state = 4 ∨ (s.ctxAt sid).unack = [])) ∧
    (∃ (s : State) (n : HpId) (sid : Nat), s.hostOn n.val = true ∧ (s.ctxAt sid).state ∈ [1, 2] ∧ (s.ctxAt sid).recv = false ∧ (s.ctxAt sid).unack ≠ []) ∧
    (∃ (s : State) (n : HpId) (p : Path), s.hostOn n.val = true ∧ s.writable p 36956 1 = true ∧ (s.ctxAt (s.get Reg.STRM_SEL_SID)).state ≠ 0) :=
  ⟨⟨wHost, 2, (⟨true, some 9, 7, 1, 2, true, false⟩ : OpenReq), 9, by decide +kernel⟩,
   ⟨wHost, 2, ⟨true, none, 7, 1, 2, true, false⟩, by decide +kernel⟩,
   ⟨wHost.onStrm fun m => { m with larder := List.replicate 2097152 (0, {}) }, 2, by decide +kernel, Nat.le_of_eq List.length_replicate.symm, rfl⟩,
   ⟨wHost |>.onCtx 9 (fun c => { c with state := 1 }), 2, (⟨true, some 9, 7, 1, 2, true, false⟩ : OpenReq), 9, by decide +kernel⟩,
   ⟨wHost |>.onStrm (fun m => m) |> fun s => { s with routes := [(7, 2 ^ 25)] }, 2, (⟨true, some 9, 7, 1, 2, true, false⟩ : OpenReq), 9, by decide +kernel⟩,
   ⟨wHost |>.onCtx 9 (fun c => { c with state := 1, peerNode := 7 }), 2, 9, by decide +kernel⟩,
   ⟨wHost |>.onCtx 9 (fun c => { c with state := 1, peerNode := 7, unack := [⟨4, 3, 17, 3, 2, 2, 1, false⟩] }), 2, 9, by decide +kernel⟩,
   ⟨wHost |>.onCtx 0 (fun c => { c with state := 1, peerNode := 7, unack := [⟨4, 3, 17, 3, 2, 2, 1, false⟩] }), 2, Path.msp, by decide +kernel⟩⟩

theorem witness_SuppliesAndClocksLostAndFound :
    (∃ (s : State), s.keep.vauxGood = false) ∧
    (∃ (s : State), s.keep.vauxGood = true ∧ s.keep.railWatch = true) ∧
    (∃ (s : State), s.keep.vauxGood = true ∧ s.keep.railWatch = false) ∧
    (∃ (s : State), s.keep.mgmtOn = true) ∧
    (∃ (s : State), s.keep.mgmtOn = false ∧ s.atStep 3 = false) ∧
    (∃ (s : State) (c : Instr) (cause : Nat), s.keep.mgmtOn = false ∧ s.atStep 3 = true ∧ s.get Reg.PWR_STAT_OFF_PEND = 0 ∧ (c, cause) ∈ [(Instr.refclkAbsent, 1), (Instr.mgmtPllLost, 2)]) ∧
    (∃ (s : State) (d : DomainPll), bitOf (s.get Reg.CLK_STAT_LOCK) (pllBits d).fst = true) ∧
    (∃ (s : State), s.keep.domainsOn = true ∧ bitOf (s.get Reg.CLK_STAT_LOCK) 4 = true) ∧
    (∃ (s : State), s.mgmt.fabHold = true) ∧
    (∃ (s : State) (p : Path) (v : Word), s.writable p 4176 (BitVec.toNat v) = true ∧ s.keep.domainsOn = true) :=
  ⟨⟨wRun |>.onKeep (fun m => { m with vauxGood := false }), by decide +kernel⟩,
   ⟨wRun, by decide +kernel⟩,
   ⟨wKeep, by decide +kernel⟩,
   ⟨wRun |>.onKeep (fun m => { m with vauxGood := false }), by decide +kernel⟩,
   ⟨wKeep, by decide +kernel⟩,
   ⟨wStep 0 3, .refclkAbsent, 1, by decide +kernel⟩,
   ⟨wRun, DomainPll.te, by decide +kernel⟩,
   ⟨wRun |>.onKeep (fun m => { m with vauxGood := false }), by decide +kernel⟩,
   ⟨wRun |>.onMgmt (fun m => { m with fabHold := true }), by decide +kernel⟩,
   ⟨wRun, Path.msp, 0, by decide +kernel⟩⟩

theorem witness_SwapsAtTheReceivingEnd :
    (∃ (s : State) (n : OpId) (id lane : Nat), s.canSwap n.val = true ∧ lane < 32 ∧ (∀ (r : SwapR), (s.opAt n.val).swapR = some r → r.id ≠ id)) ∧
    (∃ (s : State) (n : OpId) (lane : Nat) (r : SwapR), s.canSwap n.val = true ∧ lane < 32 ∧ (s.opAt n.val).swapR = some r ∧ r.ready = true ∧ r.nak = 0) ∧
    (∃ (s : State) (n : OpId) (r : SwapR), (s.opAt n.val).swapR = some r ∧ r.ready = false ∧ r.nak = 0 ∧ r.lane < (s.opAt n.val).remapRx.length) ∧
    (∃ (s : State) (n : OpId) (r : SwapR), (s.opAt n.val).swapR = some r ∧ r.lane < (s.opAt n.val).remapRx.length ∧ s.canSwap n.val = true) ∧
    (∃ (s : State) (n : OpId), s.brynn n.val = false) :=
  ⟨⟨wPort |>.onRing ({ port := 3, rx := true, idx := 6 } : RingId).port ({ port := 3, rx := true, idx := 6 } : RingId).rx ({ port := 3, rx := true, idx := 6 } : RingId).idx (fun m => { m with bad := true }), 3, 0, 0, by decide +kernel⟩,
   ⟨wPort |>.onOp (3 : OpId).val (fun m => { m with swapR := some (⟨1, 6, 6, 33, 0, true⟩ : SwapR) }), 3, 0, (⟨1, 6, 6, 33, 0, true⟩ : SwapR), by decide +kernel⟩,
   ⟨wPort |>.onOp (3 : OpId).val (fun m => { m with swapR := some (⟨1, 6, 6, 33, 0, false⟩ : SwapR) }), 3, (⟨1, 6, 6, 33, 0, false⟩ : SwapR), by decide +kernel⟩,
   ⟨wPort |>.onOp (3 : OpId).val (fun m => { m with swapR := some (⟨1, 6, 6, 33, 0, true⟩ : SwapR) }), 3, (⟨1, 6, 6, 33, 0, true⟩ : SwapR), by decide +kernel⟩,
   ⟨wRun, 3, by decide +kernel⟩⟩

theorem witness_SwapsAtTheTransmittingEnd :
    (∃ (s : State) (n : OpId) (w : SwapT), s.keep.mgmtOn = true ∧ (s.opAt n.val).swapT = some w ∧ w.cancel = false ∧ w.cmd = false ∧ w.lane < (s.opAt n.val).remapTx.length ∧ (s.opAt
    n.val).swapQ = [] ∧ (s.opAt n.val).exhausted = false ∧ s.inStep n.val 6 = false) ∧
    (∃ (s : State) (n : OpId) (id : Nat), s.keep.mgmtOn = true ∧ (s.opAt n.val).swapT = none ∧ (s.opAt n.val).swapDone = some id) ∧
    (∃ (s : State) (n : OpId) (w : SwapT) (k : Nat), s.keep.mgmtOn = true ∧ (s.opAt n.val).swapT = some w ∧ w.cancel = false ∧ w.again = false ∧ (List.filter (fun (j : Nat) => some j !=
    some w.new) (s.freeSpares n.val)).head? = some k) ∧
    (∃ (s : State) (n : OpId) (w : SwapT), s.keep.mgmtOn = true ∧ (s.opAt n.val).swapT = some w ∧ w.cancel = true ∧ w.cmd = false ∧ (s.opAt n.val).swapQ = [] ∧ (s.opAt n.val).exhausted =
    false) ∧
    (∃ (s : State) (n : OpId) (lane k : Nat), s.keep.mgmtOn = true ∧ (s.opAt n.val).swapQ = [] ∧ s.canMove n.val lane k ∧ lane < s.laneCount n.val) ∧
    (∃ (s : State) (n : OpId) (lane : Nat), s.keep.mgmtOn = true ∧ s.canSwap n.val = true ∧ s.get (Reg.LAM_CTL_AUTO_SPARE n.val) = 1 ∧ (s.opAt n.val).swapT = none ∧ (s.opAt n.val).swapQ =
    [] ∧ s.freeSpares n.val = [] ∧ lane < s.laneCount n.val) ∧
    (∃ (s : State) (n : OpId) (k : Nat), s.keep.mgmtOn = true ∧ s.get (Reg.LAM_CTL_CAL_EN n.val) = 1 ∧ s.trained n.val = true ∧ s.brynn n.val = false ∧ (s.opAt n.val).cal = none ∧ (s.opAt
    n.val).swapT = none ∧ (s.opAt n.val).swapQ = [] ∧ s.tuneRuns = true ∧ s.calNext n.val (s.get (Reg.LAM_CAL_NEXT n.val)) = some k ∧ k < 36 ∧ lineLane (s.opAt n.val).remapTx k = none) ∧
    (∃ (s : State) (n : OpId) (k lane j : Nat), s.keep.mgmtOn = true ∧ s.get (Reg.LAM_CTL_CAL_EN n.val) = 1 ∧ s.trained n.val = true ∧ s.brynn n.val = false ∧ (s.opAt n.val).cal = none ∧
    (s.opAt n.val).swapT = none ∧ (s.opAt n.val).swapQ = [] ∧ s.tuneRuns = true ∧ s.calNext n.val (s.get (Reg.LAM_CAL_NEXT n.val)) = some k ∧ k < 36 ∧ lineLane (s.opAt n.val).remapTx k =
    some lane ∧ (s.freeSpares n.val).head? = some j) ∧
    (∃ (s : State) (n : OpId) (k lane : Nat), s.keep.mgmtOn = true ∧ s.get (Reg.LAM_CTL_CAL_EN n.val) = 1 ∧ s.trained n.val = true ∧ s.brynn n.val = false ∧ (s.opAt n.val).cal = none ∧
    (s.opAt n.val).swapT = none ∧ (s.opAt n.val).swapQ = [] ∧ s.tuneRuns = true ∧ s.calNext n.val (s.get (Reg.LAM_CAL_NEXT n.val)) = some k ∧ k < 36 ∧ lineLane (s.opAt n.val).remapTx k =
    some lane ∧ s.freeSpares n.val = []) ∧
    (∃ (s : State) (n : OpId) (k : Nat), s.keep.mgmtOn = true ∧ (s.opAt n.val).cal = some (k, none) ∧ (s.opAt n.val).exhausted = false) ∧
    (∃ (s : State) (n : OpId) (k lane : Nat), s.keep.mgmtOn = true ∧ (s.opAt n.val).cal = some (k, some lane) ∧ s.canSwap n.val = true ∧ (s.opAt n.val).swapT = none ∧ (s.opAt n.val).swapQ =
    [] ∧ (s.ringAt n.val false k).good = true ∧ lineLane (s.opAt n.val).remapTx k = none) :=
  ⟨⟨wPort |>.onOp (3 : OpId).val (fun m => { m with swapT := some (⟨1, 6, 6, 33, false, false, false, false, false⟩ : SwapT) }), 3, (⟨1, 6, 6, 33, false, false, false, false, false⟩ : SwapT), by decide +kernel⟩,
   ⟨wPort |>.onOp (3 : OpId).val (fun m => { m with swapDone := some 0 }), 3, 0, by decide +kernel⟩,
   ⟨wPort |>.onOp (3 : OpId).val (fun m => { m with swapT := some (⟨1, 6, 6, 33, false, false, false, false, false⟩ : SwapT) }), 3, (⟨1, 6, 6, 33, false, false, false, false, false⟩ : SwapT), 34, by decide +kernel⟩,
   ⟨wPort |>.onOp (3 : OpId).val (fun m => { m with swapT := some (⟨1, 6, 6, 33, false, false, false, true, false⟩ : SwapT) }), 3, (⟨1, 6, 6, 33, false, false, false, true, false⟩ : SwapT), by decide +kernel⟩,
   ⟨wPort, 3, 5, 34, by (repeat' apply And.intro) <;> first | decide +kernel⟩,
   ⟨wPort |>.onRing 3 false 34 (fun _ => {}) |>.onRing 3 false 35 (fun _ => {}), 3, 0, by decide +kernel⟩,
   ⟨wPort |>.put (Reg.LAM_CAL_NEXT 3) 34, 3, 34, by decide +kernel⟩,
   ⟨wPort, 3, 0, 0, 34, by decide +kernel⟩,
   ⟨wPort |>.onRing 3 false 34 (fun _ => {}) |>.onRing 3 false 35 (fun _ => {}), 3, 0, 0, by decide +kernel⟩,
   ⟨wPort |>.onOp (3 : OpId).val (fun m => { m with cal := some (0, none) }), 3, 0, by decide +kernel⟩,
   ⟨wPort |>.onOp (3 : OpId).val (fun m => { m with cal := some (34, some 0) }), 3, 34, 0, by decide +kernel⟩⟩

theorem witness_TilesRotateMeasureAndFail :
    (∃ (s : State), s.keep.mgmtOn = true ∧ s.keep.domainsOn = true ∧ s.te.start = true ∧ s.teLit = true ∧ s.get Reg.TEG_FAIL_TILE = 0 ∧ s.get Reg.TEG_CFG_CAL_EN = 1 ∧ (s.tileAt 31).sets =
    []) ∧
    (∃ (s : State), s.keep.mgmtOn = true ∧ s.keep.domainsOn = true ∧ s.te.start = false) ∧
    (∃ (s : State) (sp : Nat), s.keep.mgmtOn = true ∧ s.keep.domainsOn = true ∧ s.teLit = true ∧ s.get Reg.TEG_STAT_READY = 1 ∧ s.te.phase ∈ [RotPhase.rest, RotPhase.none] ∧ s.te.calCmd =
    none ∧ s.get Reg.TEG_CFG_CAL_EN ≠ 0 ∧ s.te.calNow = none ∧ s.get Reg.TEG_FAIL_TILE = 0 ∧ s.get Reg.TEG_CAL_NEXT < 32 ∧ s.te.spare = some sp ∧ sp ≠ s.get Reg.TEG_CAL_NEXT) ∧
    (∃ (s : State) (sp : Nat), s.keep.mgmtOn = true ∧ s.keep.domainsOn = true ∧ s.teLit = true ∧ s.get Reg.TEG_STAT_READY = 1 ∧ s.te.phase ∈ [RotPhase.rest, RotPhase.none] ∧ s.te.calCmd =
    none ∧ s.get Reg.TEG_CFG_CAL_EN = 0 ∧ s.te.spare = some sp) ∧
    (∃ (s : State) (x : Nat), s.keep.mgmtOn = true ∧ s.keep.domainsOn = true ∧ s.teLit = true ∧ s.get Reg.TEG_STAT_READY = 1 ∧ s.te.phase ∈ [RotPhase.rest, RotPhase.none] ∧ s.get
    Reg.TEG_CFG_CAL_EN ≠ 0 ∧ s.te.calNow = some x ∧ s.tileFailed x = false ∧ s.te.spare ≠ some x) ∧
    (∃ (s : State) (x : Nat) (r : MboxRun), s.keep.mgmtOn = true ∧ s.keep.domainsOn = true ∧ s.teLit = true ∧ s.get Reg.TEG_STAT_READY = 1 ∧ s.te.phase = RotPhase.rest ∧ s.te.calCmd = some
    x ∧ s.te.calNow = none ∧ s.mgmt.mbox = some r ∧ r.op = 64 ∧ r.wait = true) ∧
    (∃ (s : State), s.keep.mgmtOn = true ∧ s.keep.domainsOn = true ∧ ¬s.te.phase ∈ [RotPhase.rest, RotPhase.none]) ∧
    (∃ (s : State) (x : Nat), s.keep.mgmtOn = true ∧ s.keep.domainsOn = true ∧ s.teLit = true ∧ s.te.outg = some x ∧ s.te.phase = RotPhase.drain ∧ (s.tileAt x).win = 0) ∧
    (∃ (s : State) (x : Nat), s.keep.mgmtOn = true ∧ s.keep.domainsOn = true ∧ s.teLit = true ∧ s.te.outg = some x ∧ s.te.phase = RotPhase.drain ∧ (s.tileAt x).win ≠ 0) ∧
    (∃ (s : State) (x sp : Nat), s.keep.mgmtOn = true ∧ s.keep.domainsOn = true ∧ s.teLit = true ∧ s.te.outg = some x ∧ s.te.phase = RotPhase.copy ∧ s.te.spare = some sp ∧ sp ≠ x ∧ x < 32) ∧
    (∃ (s : State) (x : Nat), s.keep.mgmtOn = true ∧ s.keep.domainsOn = true ∧ s.teLit = true ∧ s.te.outg = some x ∧ s.te.phase = RotPhase.measure ∧ x < 32 ∧ s.te.failWait = none ∧
    (s.tileAt x).sets = []) ∧
    (∃ (s : State) (x : Nat) (b : Bool), s.keep.mgmtOn = true ∧ s.keep.domainsOn = true ∧ s.teLit = true ∧ s.te.outg = some x ∧ s.te.phase = RotPhase.measure ∧ x < 32 ∧ tget none
    s.nv.tileCorr x = some b) ∧
    (∃ (s : State) (x f : Nat), s.keep.mgmtOn = true ∧ s.keep.domainsOn = true ∧ s.teLit = true ∧ s.te.outg = some x ∧ s.te.phase = RotPhase.measure ∧ x < 32 ∧ s.te.failWait = some f ∧ f ≠
    x) ∧
    (∃ (s : State) (p : Path) (v : Word), s.keep.mgmtOn = true ∧ s.keep.domainsOn = true ∧ s.writable p 53312 (BitVec.toNat v) = true) ∧
    (∃ (s : State) (p : Path) (v : Word), s.keep.mgmtOn = true ∧ s.keep.domainsOn = true ∧ s.writable p 53324 (BitVec.toNat v) = true) ∧
    (∃ (s : State) (x : TileId), s.keep.mgmtOn = true ∧ s.keep.domainsOn = true ∧ s.tileFailed x.val = true) ∧
    (∃ (s : State) (x : TileId) (sp : Nat), s.keep.mgmtOn = true ∧ s.keep.domainsOn = true ∧ s.tileFailed x.val = false ∧ s.tileState x.val = 0 ∧ s.te.outg ≠ some (Fin.toNat x) ∧ s.te.spare
    = some sp) ∧
    (∃ (s : State) (x : TileId), s.keep.mgmtOn = true ∧ s.keep.domainsOn = true ∧ s.tileFailed x.val = false ∧ s.tileState x.val = 0 ∧ s.te.outg ≠ some (Fin.toNat x) ∧ s.te.spare = none ∧
    s.te.phase = RotPhase.measure ∧ s.te.failWait = none) ∧
    (∃ (s : State) (x : TileId), s.keep.mgmtOn = true ∧ s.keep.domainsOn = true ∧ s.tileFailed x.val = false ∧ s.tileState x.val = 2) :=
  ⟨⟨wRun |>.onTe (fun m => { m with start := true }), by decide +kernel⟩,
   ⟨wRun, by decide +kernel⟩,
   ⟨wRun |>.onTe (fun m => { m with spare := some 31 }), 31, by decide +kernel⟩,
   ⟨wRun |>.put Reg.TEG_CFG_CAL_EN (0) |>.onTe (fun m => { m with spare := some 0 }), 0, by decide +kernel⟩,
   ⟨wRun |>.onTe (fun m => { m with calNow := some 9 }), 9, by decide +kernel⟩,
   ⟨wRun |>.onTe (fun m => { m with phase := RotPhase.rest }) |>.onTe (fun m => { m with calCmd := some 9 }) |>.onMgmt (fun m => { m with mbox := some (⟨64, [], 0, [], 0, true⟩ : MboxRun) }), 9, (⟨64, [], 0, [], 0, true⟩ : MboxRun), by decide +kernel⟩,
   ⟨wRun |>.onTe (fun e => { e with phase := .copy }), by decide +kernel⟩,
   ⟨wRun |>.onTe (fun m => { m with outg := some 9 }) |>.onTe (fun m => { m with phase := RotPhase.drain }), 9, by decide +kernel⟩,
   ⟨wRun |>.onTe (fun m => { m with outg := some 9 }) |>.onTe (fun m => { m with phase := RotPhase.drain }) |>.onTile 9 (fun t => { t with win := 1 }), 9, by decide +kernel⟩,
   ⟨wRun |>.onTe (fun m => { m with outg := some 9 }) |>.onTe (fun m => { m with phase := RotPhase.copy }) |>.onTe (fun m => { m with spare := some 31 }), 9, 31, by decide +kernel⟩,
   ⟨wRun |>.onTe (fun m => { m with outg := some 9 }) |>.onTe (fun m => { m with phase := RotPhase.measure }), 9, by decide +kernel⟩,
   ⟨(wRun.onTe fun e => { e with outg := some 9, phase := .measure }).onNv fun v => { v with tileCorr := [(9, some true)] }, 9, true, by decide +kernel⟩,
   ⟨wRun |>.onTe (fun m => { m with outg := some 9 }) |>.onTe (fun m => { m with phase := RotPhase.measure }) |>.onTe (fun m => { m with failWait := some 4 }), 9, 4, by decide +kernel⟩,
   ⟨wRun, Path.msp, 0, by decide +kernel⟩,
   ⟨wRun, Path.msp, 0, by decide +kernel⟩,
   ⟨wRun |>.put Reg.TEG_FAIL_TILE (2 ^ 9), 9, by decide +kernel⟩,
   ⟨wRun |>.onTe (fun m => { m with spare := some 0 }), 9, 0, by decide +kernel⟩,
   ⟨wRun |>.onTe (fun m => { m with phase := RotPhase.measure }), 9, by decide +kernel⟩,
   ⟨wRun |>.onTe (fun e => { e with spare := some 9 }), 9, by decide +kernel⟩⟩

theorem witness_TrainingStepByStep :
    (∃ (s : State) (n : OpId), s.keep.mgmtOn = true ∧ s.inStep n.val 1 = true) ∧
    (∃ (s : State) (n : OpId) (lanes : Word), s.keep.mgmtOn = true ∧ lanes ≠ 0 ∧ s.inStep n.val 2 = true) ∧
    (∃ (s : State) (n : OpId) (ms : List LaneMarker), s.keep.mgmtOn = true ∧ s.inStep n.val 3 = true ∧ (s.darkLanes n.val ms).length ≤ 1 ∧ (s.brynn n.val = true → s.darkLanes n.val ms = [])
    ∧ markerSkew ms ≤ 64) ∧
    (∃ (s : State) (n : OpId), s.keep.mgmtOn = true ∧ s.inStep n.val 4 = true ∧ s.get Reg.ROUTE_NODE_VALID = 1 ∧ (s.opAt n.val).peerId = none) ∧
    (∃ (s : State) (n : OpId), s.keep.mgmtOn = true ∧ s.inStep n.val 4 = true ∧ s.get Reg.ROUTE_NODE_VALID = 0) ∧
    (∃ (s : State) (n : OpId), s.keep.mgmtOn = true ∧ (s.inStep n.val 5 = true ∨ s.inStep n.val 6 = true)) ∧
    (∃ (s : State) (n : OpId), s.keep.mgmtOn = true ∧ s.get (Reg.LINK_CTL_RETRY n.val) = 0 ∧ s.inStep n.val 2 = true) ∧
    (∃ (s : State) (n : OpId) (ms : List LaneMarker), s.keep.mgmtOn = true ∧ s.get (Reg.LINK_CTL_RETRY n.val) = 0 ∧ s.inStep n.val 3 = true ∧ 1 < (s.darkLanes n.val ms).length) ∧
    (∃ (s : State) (n : OpId) (ms : List LaneMarker), s.keep.mgmtOn = true ∧ s.get (Reg.LINK_CTL_RETRY n.val) = 0 ∧ s.inStep n.val 3 = true ∧ s.darkLanes n.val ms = [] ∧ 64 < markerSkew ms) ∧
    (∃ (s : State) (n : OpId) (k : Nat), s.keep.mgmtOn = true ∧ s.get (Reg.LINK_CTL_RETRY n.val) = 0 ∧ s.inStep n.val k = true ∧ 1 ≤ k ∧ k ≤ 6 ∧ (s.opAt n.val).held = false) ∧
    (∃ (s : State) (n : OpId), s.keep.mgmtOn = true ∧ (s.opAt n.val).held = true) :=
  ⟨⟨wRun |>.put (Reg.OP_STAT_PSTATE (3 : OpId).val) 1 |>.put (Reg.OP_STAT_TSTEP (3 : OpId).val) (1), 3, by decide +kernel⟩,
   ⟨wRun |>.put (Reg.OP_STAT_PSTATE (3 : OpId).val) 1 |>.put (Reg.OP_STAT_TSTEP (3 : OpId).val) (2), 3, 1, by decide +kernel⟩,
   ⟨wTrain 3, 3, wMarks 32, by decide +kernel⟩,
   ⟨wRun |>.put (Reg.OP_STAT_PSTATE (3 : OpId).val) 1 |>.put (Reg.OP_STAT_TSTEP (3 : OpId).val) (4), 3, by decide +kernel⟩,
   ⟨(wTrain 4).put Reg.ROUTE_NODE_VALID 0, 3, by decide +kernel⟩,
   ⟨wRun |>.put (Reg.OP_STAT_PSTATE 3) 1 |>.put (Reg.OP_STAT_TSTEP 3) 5, 3, by decide +kernel⟩,
   ⟨wRun |>.put (Reg.LINK_CTL_RETRY (3 : OpId).val) (0) |>.put (Reg.OP_STAT_PSTATE (3 : OpId).val) 1 |>.put (Reg.OP_STAT_TSTEP (3 : OpId).val) (2), 3, by decide +kernel⟩,
   ⟨(wTrain 3).put (Reg.LINK_CTL_RETRY 3) 0, 3, wMarks 30, by decide +kernel⟩,
   ⟨(wTrain 3).put (Reg.LINK_CTL_RETRY 3) 0, 3, wMarks 31 ++ [⟨31, 0xB5F8, 65⟩], by decide +kernel⟩,
   ⟨wPort |>.put (Reg.LINK_CTL_RETRY (3 : OpId).val) (0) |>.put (Reg.OP_STAT_PSTATE (3 : OpId).val) 1 |>.put (Reg.OP_STAT_TSTEP (3 : OpId).val) 4, 3, 4, by decide +kernel⟩,
   ⟨wPort |>.onOp (3 : OpId).val (fun m => { m with held := true }), 3, by decide +kernel⟩⟩

theorem witness_TransactionsGoOutAndComeBack :
    (∃ (s : State) (n : HpId) (x : Txn), s.hostOn n.val = true ∧ List.length s.strm.tags < 1048576 ∧ (s.window n.val x).fst = false ∧ s.keep.mgmtOn = true) ∧
    (∃ (s : State) (n : HpId) (x : Txn), s.hostOn n.val = true ∧ List.length s.strm.tags < 1048576 ∧ (s.window n.val x).fst = true ∧ s.badReq x = true) ∧
    (∃ (s : State) (n : HpId) (x : Txn), s.hostOn n.val = true ∧ List.length s.strm.tags < 1048576 ∧ (s.window n.val x).fst = true ∧ s.badReq x = false ∧ s.fenced x.node = true) ∧
    (∃ (s : State) (n : HpId) (x : Txn) (port : Nat) (dl : Bool) (u : State), s.hostOn n.val = true ∧ List.length s.strm.tags < 1048576 ∧ (s.window n.val x).fst = true ∧ s.badReq x = false
    ∧ s.fenced x.node = false ∧ s.strm.resetOwed.contains x.node = false ∧ x.node ≠ s.get Reg.ROUTE_NODE_NODE ∧ s.chanRoom x.node = true ∧ s.pickRoute x.node 0 false = (some (port, dl), u)
    ∧ List.length (s.opAt port).pantry < 4096) ∧
    (∃ (s : State) (n : HpId) (x : Txn), s.hostOn n.val = true ∧ List.length s.strm.tags < 1048576 ∧ (s.window n.val x).fst = true ∧ s.badReq x = false ∧ s.fenced x.node = false ∧
    (s.strm.resetOwed.contains x.node = true ∨ x.node ≠ s.get Reg.ROUTE_NODE_NODE ∧ s.chanRoom x.node = false)) ∧
    (∃ (s : State) (n : HpId) (x : Txn), s.hostOn n.val = true ∧ List.length s.strm.tags < 1048576 ∧ (s.window n.val x).fst = true ∧ s.badReq x = false ∧ s.strm.resetOwed.contains x.node =
    false ∧ x.node = s.get Reg.ROUTE_NODE_NODE) ∧
    (∃ (s : State) (n : HpId), s.hostOn n.val = true ∧ 1048576 ≤ List.length s.strm.tags) ∧
    (∃ (s : State) (n : OpId) (f : Frame), s.intake n.val f = true ∧ f.dst = s.get Reg.ROUTE_NODE_NODE ∧ f.ftype = 1 ∧ f.cut = false ∧ isReset f = false ∧ (((s.taken n.val f).chanAck
    f).chanAt (2 * f.src + 1)).seq = f.seq) ∧
    (∃ (s : State) (n : OpId) (f : Frame) (r : TagRec), s.intake n.val f = true ∧ f.dst = s.get Reg.ROUTE_NODE_NODE ∧ f.ftype = 2 ∧ f.cut = false ∧ f.ackV = false ∧ wordAt f.payload 0 / 2 ^
    28 = 2 ∧ wordAt f.payload 4 < 2 ^ 31 ∧ (s.chanAt (2 * f.src + 1)).seq = f.seq ∧ tget none s.strm.tags (wordAt f.payload 0 % 2 ^ 20) = some r ∧ r.node = f.src ∧ r.op = 2) ∧
    (∃ (s : State) (n : OpId) (f : Frame), s.intake n.val f = true ∧ f.dst = s.get Reg.ROUTE_NODE_NODE ∧ f.ftype = 2 ∧ f.cut = false ∧ f.ackV = false ∧ wordAt f.payload 4 < 2 ^ 31 ∧ wordAt
    f.payload 0 / 2 ^ 28 = 0 ∧ bits (wordAt f.payload 0) 20 8 = 255) ∧
    (∃ (s : State) (n : OpId) (f : Frame) (port : Nat) (dl : Bool) (u : State), s.intake n.val f = true ∧ f.dst = s.get Reg.ROUTE_NODE_NODE ∧ isReset f = true ∧ f.cut = false ∧ s.pickRoute
    f.src 0 false = (some (port, dl), u)) ∧
    (∃ (s : State) (n : HpId) (c : TargetCpl) (port : Nat) (dl : Bool) (u : State), s.hostOn n.val = true ∧ s.fenced c.node = false ∧ c.node ≠ s.get Reg.ROUTE_NODE_NODE ∧ s.chanRoom c.node
    = true ∧ s.pickRoute c.node 0 false = (some (port, dl), u) ∧ List.length (s.opAt port).pantry < 4096) ∧
    (∃ (s : State) (n : HpId) (c : TargetCpl) (r : TagRec), s.hostOn n.val = true ∧ c.node = s.get Reg.ROUTE_NODE_NODE ∧ tget none s.strm.tags c.tag = some r) :=
  ⟨⟨(wPort.put (Reg.HP_WINCFG_DEF_ALLOW 2) 1) |>.put (Reg.HP_WINCFG_DEF_ALLOW 2) 0, 2, (⟨7, TxnOp.write, 0, 0x10000, 0, List.replicate 64 1⟩ : Txn), by decide +kernel⟩,
   ⟨(wPort.put (Reg.HP_WINCFG_DEF_ALLOW 2) 1), 2, (⟨7, TxnOp.read, 0, 0x10000, 32, []⟩ : Txn), by decide +kernel⟩,
   ⟨(wPort.put (Reg.HP_WINCFG_DEF_ALLOW 2) 1) |>.onStrm (fun m => m) |> fun s => { s with routes := [(7, 2 ^ 25)] }, 2, (⟨7, TxnOp.write, 0, 0x10000, 0, List.replicate 64 1⟩ : Txn), by decide +kernel⟩,
   ⟨(wPort.put (Reg.HP_WINCFG_DEF_ALLOW 2) 1), 2, (⟨7, TxnOp.write, 0, 0x10000, 0, List.replicate 64 1⟩ : Txn), 3, false, (wPort.put (Reg.HP_WINCFG_DEF_ALLOW 2) 1), by decide +kernel⟩,
   ⟨(wPort.onCtx 9 (fun c => { c with state := 1, peerNode := 7, seq := 5, acked := 4, unack := [⟨4, 3, 17, 3, 2, 2, 1, false⟩] })) |>.onStrm (fun m => { m with resetOwed := [7] }), 2, (⟨7, TxnOp.write, 0, 0x10000, 0, List.replicate 64 1⟩ : Txn), by decide +kernel⟩,
   ⟨wPort |>.put (Reg.OP_STAT_PSTATE (3 : OpId).val) 1 |>.put (Reg.OP_STAT_TSTEP (3 : OpId).val) (5) |>.put Reg.ROUTE_NODE_NODE ((⟨7, 1, 0, 3, false, false, 0⟩ : TrainId).node), 2, (⟨7, TxnOp.write, 0, 0x10000, 0, List.replicate 64 1⟩ : Txn), by decide +kernel⟩,
   ⟨wPort.onStrm fun m => { m with tags := List.replicate 1048576 (0, none) }, 2, by decide +kernel, Nat.le_of_eq List.length_replicate.symm⟩,
   ⟨(wPort.put (Reg.HP_WINCFG_DEF_ALLOW 2) 1) |>.onChan 15 (fun c => { c with seq := 5 }), 3, (withCrc { wFrame with ftype := 1 }), by decide +kernel⟩,
   ⟨(wPort.put (Reg.HP_WINCFG_DEF_ALLOW 2) 1) |>.onChan 15 (fun c => { c with seq := 5 }) |>.onStrm (fun m => { m with tags := [(77, some ⟨2, 7, 2, 0, 4096⟩)] }), 3, (withCrc { wFrame with ftype := 2, payload := toBytes (natBe 4 (2 ^ 29 + 77)) ++ List.replicate 60 0 }), (⟨2, 7, 2, 0, 4096⟩ : TagRec), by decide +kernel⟩,
   ⟨(wPort.put (Reg.HP_WINCFG_DEF_ALLOW 2) 1), 3, (withCrc { wFrame with ftype := 2, payload := toBytes (natBe 4 (255 * 2 ^ 20)) ++ List.replicate 60 0 }), by decide +kernel⟩,
   ⟨wPort, 3, wReset, 3, false, wPort, by decide +kernel⟩,
   ⟨(wPort.put (Reg.HP_WINCFG_DEF_ALLOW 2) 1), 2, (⟨7, 5, TxnOp.write, 0, []⟩ : TargetCpl), 3, false, (wPort.put (Reg.HP_WINCFG_DEF_ALLOW 2) 1), by decide +kernel⟩,
   ⟨(wPort.put (Reg.HP_WINCFG_DEF_ALLOW 2) 1) |>.onStrm (fun m => { m with tags := [(5, some ⟨2, 5, 1, 0, 4096⟩)] }), 2, (⟨5, 5, TxnOp.write, 0, []⟩ : TargetCpl), (⟨2, 5, 1, 0, 4096⟩ : TagRec), by decide +kernel⟩⟩

theorem witness_TwinsPairAndCopyUnderSeal :
    (∃ (s : State), s.keep.mgmtOn = true ∧ 2 ≤ s.power ∧ s.twin.enabled = true ∧ s.twin.hello = none) ∧
    (∃ (s : State), s.keep.mgmtOn = true ∧ (s.twin.enabled = false ∨ s.power < 2)) ∧
    (∃ (s : State), s.keep.mgmtOn = true ∧ s.twin.enabled = false) ∧
    (∃ (s : State), s.keep.mgmtOn = true ∧ s.twin.enabled = true ∧ s.get Reg.TWIN_STAT_STATE = 1 ∧ s.get Reg.TWIN_STAT_LINK_UP = 0) ∧
    (∃ (s : State) (h : Hello), s.keep.mgmtOn = true ∧ s.twin.enabled = true ∧ s.get Reg.TWIN_STAT_STATE = 1 ∧ s.get Reg.TWIN_STAT_LINK_UP ≠ 0 ∧ h.enabled = true ∧ (h.node ≠ s.get
    Reg.ROUTE_NODE_NODE ∨ h.domain ≠ s.get Reg.ROUTE_NODE_DOMAIN ∨ h.nodeValid = false ∨ s.get Reg.ROUTE_NODE_VALID = 0)) ∧
    (∃ (s : State) (h : Hello) (role : Nat), s.keep.mgmtOn = true ∧ s.twin.enabled = true ∧ s.get Reg.TWIN_STAT_STATE = 1 ∧ s.get Reg.TWIN_STAT_LINK_UP ≠ 0 ∧ h.enabled = true ∧ h.node =
    s.get Reg.ROUTE_NODE_NODE ∧ h.domain = s.get Reg.ROUTE_NODE_DOMAIN ∧ h.nodeValid = true ∧ s.get Reg.ROUTE_NODE_VALID ≠ 0 ∧ (s.carries = true ∧ h.traffic = false ∧ role = 1 ∨ s.carries =
    false ∧ h.traffic = true ∧ role = 2 ∨ s.carries = false ∧ h.traffic = false ∧ h.strap ≠ s.bit Reg.KEEP_STRAP_TWIN_ROLE ∧ role = if s.bit Reg.KEEP_STRAP_TWIN_ROLE = true then 2 else 1)) ∧
    (∃ (s : State) (h : Hello), s.keep.mgmtOn = true ∧ s.twin.enabled = true ∧ s.get Reg.TWIN_STAT_STATE = 1 ∧ s.get Reg.TWIN_STAT_LINK_UP ≠ 0 ∧ h.enabled = true ∧ h.node = s.get
    Reg.ROUTE_NODE_NODE ∧ h.domain = s.get Reg.ROUTE_NODE_DOMAIN ∧ h.nodeValid = true ∧ s.get Reg.ROUTE_NODE_VALID ≠ 0 ∧ (s.carries = true ∧ h.traffic = true ∨ s.carries = false ∧ h.traffic
    = false ∧ h.strap = s.bit Reg.KEEP_STRAP_TWIN_ROLE)) ∧
    (∃ (s : State), s.keep.mgmtOn = true ∧ s.get Reg.TWIN_STAT_STATE ≠ 1) ∧
    (∃ (s : State), s.keep.mgmtOn = true ∧ s.copying = true ∧ s.get Reg.TWIN_STAT_LINK_UP ≠ 0 ∧ s.twin.hand = none ∧ s.twin.recs.length ≤ 255 ∧ 16 ≤ s.twin.batches.length) ∧
    (∃ (s : State), s.keep.mgmtOn = true ∧ s.copying = true ∧ s.get Reg.TWIN_STAT_LINK_UP ≠ 0 ∧ s.twin.hand = none ∧ s.twin.recs.length ≤ 255 ∧ s.twin.batches.length < 16) ∧
    (∃ (s : State) (c : Instr) (r : TwinRec), s.keep.mgmtOn = true ∧ s.copies = true ∧ ((∃ (x : CtxRec), c = Instr.ctx x ∧ r = TwinRec.ctx x) ∨ (∃ (x : RouteRec), c = Instr.route x ∧ r =
    TwinRec.route x) ∨ ∃ (n : Nat), c = Instr.chan n ∧ r = TwinRec.chan n)) ∧
    (∃ (s : State), s.keep.mgmtOn = true ∧ s.copies = false) ∧
    (∃ (s : State) (crc : Word), s.keep.mgmtOn = true ∧ s.copies = true ∧ BitVec.toNat crc = crc32c (List.map recBytes s.twin.rx).flatten) ∧
    (∃ (s : State) (e k : Nat) (crc : Word), s.keep.mgmtOn = true ∧ s.copies = true ∧ (e ≠ (s.get Reg.TWIN_EPOCH_S_EPOCH + 1) % 2 ^ 32 ∨ k ≠ s.twin.rx.length ∨ BitVec.toNat crc ≠ crc32c
    (List.map recBytes s.twin.rx).flatten)) ∧
    (∃ (s : State) (b : Batch) (rest : List Batch), s.keep.mgmtOn = true ∧ s.copying = true ∧ s.twin.batches = b :: rest ∧ b.epoch < 2 ^ 32 ∧ s.twin.hand ≠ some b.epoch) ∧
    (∃ (s : State) (b : Batch), s.keep.mgmtOn = true ∧ s.copying = true ∧ s.twin.batches = [b] ∧ b.epoch < 2 ^ 32 ∧ s.twin.hand = some b.epoch ∧ b.recs = []) ∧
    (∃ (s : State) (e : Nat), s.keep.mgmtOn = true ∧ (∀ (b : Batch), b ∈ s.twin.batches → b.epoch ≠ e)) ∧
    (∃ (s : State), s.keep.mgmtOn = true ∧ s.twin.batches = []) ∧
    (∃ (s : State) (kind : Byte), s.keep.mgmtOn = true ∧ s.get Reg.TWIN_STAT_LINK_UP ≠ 0 ∧ ¬kind ∈ [1, 2, 3, 15, 16, 17, 18, 19, 20, 21]) ∧
    (∃ (s : State), s.keep.mgmtOn = true ∧ s.get Reg.TWIN_STAT_PAIRED ≠ 0 ∧ s.get Reg.TWIN_STAT_STATE = 2 ∧ (s.get Reg.TWIN_STAT_ROLE = 2 ∨ ∃ (e : Nat), s.get Reg.TWIN_STAT_ROLE ≠ 2 ∧
    s.twin.sweepEnd = some e ∧ (∀ (b : Batch), b ∈ s.twin.batches → b.epoch ≠ e) ∧ e ≠ (s.get Reg.TWIN_EPOCH_S_EPOCH + 1) % 2 ^ 32)) ∧
    (∃ (s : State), s.keep.mgmtOn = true ∧ s.get Reg.TWIN_STAT_PAIRED ≠ 0 ∧ s.get Reg.TWIN_STAT_STATE = 2 ∧ s.get Reg.TWIN_STAT_ROLE ≠ 2 ∧ s.twin.sweepEnd = none) ∧
    (∃ (s : State), s.keep.mgmtOn = true ∧ s.get Reg.TWIN_STAT_STATE ≠ 2) :=
  ⟨⟨wRun |>.onTwin (fun m => { m with enabled := true }), by decide +kernel⟩,
   ⟨wRun, by decide +kernel⟩,
   ⟨wRun, by decide +kernel⟩,
   ⟨(((wRun.put Reg.TWIN_STAT_STATE 1).onTwin fun w => { w with enabled := true })), by decide +kernel⟩,
   ⟨(((wRun.put Reg.TWIN_STAT_STATE 1).onTwin fun w => { w with enabled := true })) |>.put Reg.TWIN_STAT_LINK_UP 1 |>.onMgmt (fun m => { m with mbox := some (⟨80, [], 0, [], 0, true⟩ : MboxRun) }), (⟨6, 1, true, true, false, true⟩ : Hello), by decide +kernel⟩,
   ⟨(((wRun.put Reg.TWIN_STAT_STATE 1).onTwin fun w => { w with enabled := true })) |>.put Reg.TWIN_STAT_LINK_UP 1 |>.onMgmt (fun m => { m with mbox := some (⟨80, [], 0, [], 0, true⟩ : MboxRun) }), (⟨5, 1, true, true, true, true⟩ : Hello), 2, by decide +kernel⟩,
   ⟨(((wRun.put Reg.TWIN_STAT_STATE 1).onTwin fun w => { w with enabled := true })) |>.put Reg.TWIN_STAT_LINK_UP 1 |>.onMgmt (fun m => { m with mbox := some (⟨80, [], 0, [], 0, true⟩ : MboxRun) }), (⟨5, 1, true, false, false, true⟩ : Hello), by decide +kernel⟩,
   ⟨wRun |>.onTwin (fun m => { m with enabled := true }), by decide +kernel⟩,
   ⟨(wTwin 1 3) |>.onTwin (fun w => { w with batches := List.replicate 16 ⟨1, []⟩ }), by decide +kernel⟩,
   ⟨(wTwin 1 3), by decide +kernel⟩,
   ⟨wTwin 2 2, .chan 5, .chan 5, by (repeat' apply And.intro) <;> first | decide +kernel | exact .inr (.inr ⟨5, rfl, rfl⟩)⟩,
   ⟨wRun |>.onTwin (fun m => { m with enabled := true }), by decide +kernel⟩,
   ⟨(wTwin 2 3), 0, by decide +kernel⟩,
   ⟨(wTwin 2 3), 5, 0, 0, by decide +kernel⟩,
   ⟨(wTwin 1 3) |>.onTwin (fun m => { m with batches := (⟨1, []⟩ : Batch) :: ([] : List Batch) }), (⟨1, []⟩ : Batch), ([] : List Batch), by decide +kernel⟩,
   ⟨(wTwin 1 3) |>.onTwin (fun m => { m with batches := (⟨1, []⟩ : Batch) :: ([]) }) |>.onTwin (fun m => { m with hand := some (⟨1, []⟩ : Batch).epoch }) |>.onMgmt (fun m => { m with mbox := some (⟨80, [], 0, [], 0, true⟩ : MboxRun) }), (⟨1, []⟩ : Batch), by decide +kernel⟩,
   ⟨wRun, 0, by decide +kernel⟩,
   ⟨wRun |>.onTwin (fun m => { m with enabled := true }), by decide +kernel⟩,
   ⟨(((wRun.put Reg.TWIN_STAT_STATE 1).onTwin fun w => { w with enabled := true })) |>.put Reg.TWIN_STAT_LINK_UP 1 |>.onMgmt (fun m => { m with mbox := some (⟨80, [], 0, [], 0, true⟩ : MboxRun) }), 0x33, by decide +kernel⟩,
   ⟨wTwin 2 2, by (repeat' apply And.intro) <;> first | decide +kernel | exact .inl (by decide +kernel)⟩,
   ⟨(wTwin 1 2), by decide +kernel⟩,
   ⟨wRun |>.onTwin (fun m => { m with enabled := true }), by decide +kernel⟩⟩

theorem witness_UrgencyWires :
    (∃ (s : State) (n : HpId), s.coreClocked = true ∧ s.urgSeen n.val = true ∧ s.held n.val = false ∧ (s.hpAt n.val).urgEdges ≠ 1000) ∧
    (∃ (s : State) (n : HpId), s.coreClocked = true ∧ s.urgSeen n.val = false) ∧
    (∃ (s : State) (n : HpId), (s.hpAt n.val).urg = true ∧ s.urgIn n.val = true ∧ s.keep.mgmtOn = true) ∧
    (∃ (s : State) (n : HpId), s.urgSeen n.val = true ∧ (s.hpAt n.val).level = false ∧ s.get (Reg.HP_URG_MASK n.val) = 0) ∧
    (∃ (s : State) (n : HpId) (c : Instr), c ∈ [Instr.urgStorm n, Instr.urgEdge n !(s.hpAt n.val).level] ∧ s.coreClocked = true ∧ s.urgSeen n.val = true ∧ (s.hpAt n.val).urgEdges = 1000 ∧
    s.get (Reg.HP_URG_MASK n.val) = 0 ∧ s.keep.mgmtOn = true) ∧
    (∃ (s : State) (n : HpId) (p : Path) (v : Word), s.writable p ((16 + n.val) * 4096 + 96) (BitVec.toNat v) = true) :=
  ⟨⟨wHost, 2, by decide +kernel⟩,
   ⟨(wStep 1 8) |>.onNv (fun v => { v with loft := [(0, { committed := true, digest := toBytes (sha256 []) })] }), 2, by decide +kernel⟩,
   ⟨wHost |>.onHp (2 : HpId).val (fun m => { m with urg := true }), 2, by decide +kernel⟩,
   ⟨wHost, 2, by decide +kernel⟩,
   ⟨wHost.onHp 2 fun h => { h with urgEdges := 1000 }, 2, .urgStorm 2, by decide +kernel⟩,
   ⟨wRun |>.put (Reg.HP_URG_MASK 2) 1, 2, Path.msp, 0x20003E8, by decide +kernel⟩⟩

theorem witness_WaitForTheNodeId :
    (∃ (s : State), s.atStep 9 = true ∧ s.climbsPast 2 = true ∧ s.get Reg.ROUTE_NODE_VALID = 0) ∧
    (∃ (s : State), s.power = 2 ∧ 3 ≤ s.climbTarget ∧ s.get Reg.ROUTE_NODE_VALID = 0) ∧
    (∃ (s : State), s.get Reg.PWR_STAT_WAIT_NODE_ID = 1 ∧ s.get Reg.ROUTE_NODE_VALID = 0) ∧
    (∃ (s : State), s.get Reg.PWR_STAT_WAIT_NODE_ID = 1 ∧ s.get Reg.ROUTE_NODE_VALID = 1 ∧ s.climbsPast s.power = true) ∧
    (∃ (s : State), s.get Reg.PWR_STAT_WAIT_NODE_ID = 1 ∧ s.get Reg.PWR_STAT_BUSY = 1 ∧ s.get Reg.PWR_STAT_DIR = 0 ∧ s.get Reg.PWR_STAT_OFF_PEND = 1) ∧
    (∃ (s : State), s.get Reg.PWR_STAT_WAIT_NODE_ID = 1 ∧ s.get Reg.PWR_STAT_BUSY = 1 ∧ s.get Reg.PWR_STAT_DIR = 0 ∧ s.get Reg.PWR_STAT_OFF_PEND = 0 ∧ s.keep.trapStop = false ∧
    s.climbTarget < s.power) :=
  ⟨⟨(wStep 1 9), by decide +kernel⟩,
   ⟨wRun |>.put Reg.PWR_STAT_STATE 2 |>.put Reg.ROUTE_NODE_VALID (0), by decide +kernel⟩,
   ⟨wRun |>.put Reg.PWR_STAT_WAIT_NODE_ID (1) |>.put Reg.ROUTE_NODE_VALID (0), by decide +kernel⟩,
   ⟨wRun |>.put Reg.PWR_STAT_WAIT_NODE_ID (1) |>.put Reg.PWR_STAT_STATE 2 |>.put Reg.PWR_STAT_BUSY 1, by decide +kernel⟩,
   ⟨wRun |>.put Reg.PWR_STAT_WAIT_NODE_ID (1) |>.put Reg.PWR_STAT_BUSY (1) |>.put Reg.PWR_STAT_OFF_PEND (1) |>.put Reg.PWR_STAT_STATE 2, by decide +kernel⟩,
   ⟨wRun |>.put Reg.PWR_STAT_WAIT_NODE_ID (1) |>.put Reg.PWR_STAT_BUSY (1) |>.put Reg.PWR_TGT_STATE 1 |>.put Reg.PWR_STAT_STATE 2, by decide +kernel⟩⟩

theorem witness_WidePorts :
    (∃ (s : State) (k : WideId) (failing : List Nat), s.get (Reg.HP_STAT_WIDE (2 * k.val)) = 1 ∧ failing ≠ [] ∧ s.hpState (2 * k.val) = 3) ∧
    (∃ (s : State) (k : WideId), s.get (Reg.HP_STAT_WIDE (2 * k.val)) = 1 ∧ s.hpState (2 * k.val) = 3 ∧ (s.hpAt (2 * k.val)).wideLock = true) ∧
    (∃ (s : State) (k : WideId) (p : Path) (v : Word), s.get (Reg.HP_STAT_WIDE (2 * k.val)) = 1 ∧ 2 * k.val < 24 ∧ s.writable p ((16 + 2 * k.val) * 4096 + 80) (BitVec.toNat v) = true ∧
    BitVec.toNat v % 4 ≠ s.get (Reg.HP_WIDE_RATE (2 * k.val))) :=
  ⟨⟨wHost |>.put (Reg.HP_STAT_WIDE (2 * (1 : WideId).val)) (1) |>.put (Reg.HP_STAT_STATE (2 * (1 : WideId).val)) 3, 1, [70, 3], by decide +kernel⟩,
   ⟨wHost |>.put (Reg.HP_STAT_WIDE (2 * (1 : WideId).val)) (1) |>.put (Reg.HP_STAT_STATE (2 * (1 : WideId).val)) 3 |>.onHp (2 * (1 : WideId).val) (fun m => { m with wideLock := true }), 1, by decide +kernel⟩,
   ⟨wRun |>.put (Reg.HP_STAT_WIDE (2 * (1 : WideId).val)) (1), 1, Path.msp, 0, by decide +kernel⟩⟩

end Sys2Proof.Tests
end

section
/-! SUPPORT. Register fields at different places, bits of a register, and what an event leaves. -/

namespace Sys2Proof.Machine

/-! Fields at different places. -/

/-- The fields lie at different offsets, or at different low bits, of any pages and banks. -/
def Fld.apart (f g : Fld) : Bool :=
  decide (f.off < 4096) && decide (g.off < 4096) && decide (f.lsb < 32) && decide (g.lsb < 32) && !(f.off == g.off && f.lsb == g.lsb)

theorem Fld.key_ne_of_apart {f g : Fld} (h : f.apart g = true) : f.key ≠ g.key := by
  simp only [Fld.apart, Bool.and_eq_true, decide_eq_true_eq, Bool.not_eq_true', Bool.and_eq_false_iff, beq_eq_false_iff_ne] at h
  unfold Fld.key
  omega

theorem State.get_put_apart (s : State) {f g : Fld} (v : Nat) (h : g.apart f = true) : (s.put f v).get g = s.get g :=
  s.get_put_ne v (Fld.key_ne_of_apart h)

theorem State.get_bump_ne (s : State) {f g : Fld} (n : Nat) (h : g.key ≠ f.key) : (s.bump f n).get g = s.get g := s.get_put_ne _ h

theorem State.get_bump_apart (s : State) {f g : Fld} (n : Nat) (h : g.apart f = true) : (s.bump f n).get g = s.get g :=
  s.get_put_apart _ h

/-- A counter raised reads as its sum, held at what its width can hold. -/
@[simp] theorem State.get_bump_self (s : State) (f : Fld) (n : Nat) : (s.bump f n).get f = min (s.get f + n) (2 ^ f.width - 1) := by
  have : 0 < 2 ^ f.width := Nat.two_pow_pos _
  rw [State.bump, State.get_put_self, Nat.mod_eq_of_lt (by omega)]

@[simp] theorem State.bump_keep (s : State) (f : Fld) (n : Nat) : (s.bump f n).keep = s.keep := rfl
@[simp] theorem State.opAt_bump (s : State) (f : Fld) (k n : Nat) : (s.bump f k).opAt n = s.opAt n := rfl

/-- What is read of the registers depends on the register store alone. -/
theorem State.get_congr {s t : State} (h : t.regs = s.regs) (f : Fld) : t.get f = s.get f := by rw [State.get, State.get, h]

/-- A field that reads 1 reads as true. -/
theorem State.bit_of_get_one {s : State} {f : Fld} (h : s.get f = 1) : s.bit f = true := by rw [State.bit, h]; rfl

theorem State.cond_true (s : State) {c : Bool} (f : State → State) (h : c = true) : s.cond c f = f s := if_pos h

theorem State.cond_false (s : State) {c : Bool} (f : State → State) (h : c = false) : s.cond c f = s := by simp [State.cond, h]

/-- Commands with equal next states answer alike. -/
theorem next_congr {t u : State} (h : t = u) : (.next t : Result) = .next u := congrArg _ h

/-! Bits. -/

/-- A bit set leaves what stands above it. -/
theorem setBitOf_div_above (v : Nat) {i j : Nat} (h : j < i) : setBitOf v j / 2 ^ i = v / 2 ^ i := by
  unfold setBitOf
  split
  · rfl
  · rename_i hj
    obtain ⟨d, rfl⟩ : ∃ d, i = j + (1 + d) := ⟨i - j - 1, by omega⟩
    have even : v / 2 ^ j % 2 = 0 := by
      simp only [bitOf, beq_iff_eq] at hj
      omega
    have half : (v / 2 ^ j + 1) / 2 = v / 2 ^ j / 2 := by omega
    rw [Nat.pow_add, Nat.pow_add, Nat.pow_one, ← Nat.div_div_eq_div_mul, ← Nat.div_div_eq_div_mul, Nat.add_div_right _ (Nat.two_pow_pos j),
      ← Nat.div_div_eq_div_mul, ← Nat.div_div_eq_div_mul, half]

@[simp] theorem bitOf_setBitOf_self (v i : Nat) : bitOf (setBitOf v i) i = true := by
  unfold setBitOf
  split
  · assumption
  · rename_i h
    simp only [bitOf, beq_iff_eq] at h ⊢
    rw [Nat.add_div_right _ (Nat.two_pow_pos i)]
    omega

/-- Setting a bit clears none. -/
theorem bitOf_setBitOf_of_bitOf {v i : Nat} (j : Nat) (h : bitOf v i = true) : bitOf (setBitOf v j) i = true := by
  rcases Nat.lt_trichotomy i j with hij | rfl | hij
  · unfold setBitOf
    split
    · exact h
    · have := Nat.testBit_two_pow_add_gt hij v
      simp only [Nat.testBit_eq_decide_div_mod_eq, decide_eq_decide] at this
      simp only [bitOf, beq_iff_eq] at h ⊢
      rwa [Nat.add_comm, this]
  · exact bitOf_setBitOf_self v i
  · simpa only [bitOf, setBitOf_div_above v hij] using h

@[simp] theorem bitOf_clrBitOf_self (v i : Nat) : bitOf (clrBitOf v i) i = false := by
  unfold clrBitOf
  split
  · rename_i h
    simp only [bitOf, beq_iff_eq, beq_eq_false_iff_ne] at h ⊢
    have := Nat.sub_mul_div v (2 ^ i) 1
    rw [Nat.mul_one] at this
    omega
  · exact Bool.eq_false_iff.mpr ‹_›

/-- A number cut to a width keeps the bits within it. -/
theorem bitOf_mod {i w : Nat} (v : Nat) (h : i < w) : bitOf (v % 2 ^ w) i = bitOf v i := by
  have := Nat.testBit_mod_two_pow v w i
  simp only [Nat.testBit_eq_decide_div_mod_eq, h, decide_true, Bool.true_and, decide_eq_decide] at this
  exact Bool.eq_iff_iff.mpr (by simpa only [bitOf, beq_iff_eq] using this)

/-! Events. -/

/-- An event changes nothing but registers, and what is sent grows by at most its page's interrupt message (R96). -/
theorem raiseEvt_frame (s : State) (p b : Nat) :
    ∃ r l, s.raiseEvt p b = { s with regs := r, sent := l ++ s.sent } ∧ ∀ o ∈ l, o = .sbMsg 0 0x20 p := by
  obtain ⟨-, e⟩ | ⟨-, e | e⟩ := raiseEvt_eq s p b
  · exact ⟨s.regs, [], e, by simp⟩
  · exact ⟨_, [], e, by simp⟩
  · exact ⟨_, [.sbMsg 0 0x20 p], e, by simp⟩

@[simp] theorem raiseEvt_op (s : State) (p b : Nat) : (s.raiseEvt p b).op = s.op := by
  obtain ⟨r, l, e, -⟩ := raiseEvt_frame s p b; rw [e]
@[simp] theorem raiseEvt_keep (s : State) (p b : Nat) : (s.raiseEvt p b).keep = s.keep := by
  obtain ⟨r, l, e, -⟩ := raiseEvt_frame s p b; rw [e]
@[simp] theorem raiseEvt_qos (s : State) (p b : Nat) : (s.raiseEvt p b).qos = s.qos := by
  obtain ⟨r, l, e, -⟩ := raiseEvt_frame s p b; rw [e]
@[simp] theorem raiseEvt_strm (s : State) (p b : Nat) : (s.raiseEvt p b).strm = s.strm := by
  obtain ⟨r, l, e, -⟩ := raiseEvt_frame s p b; rw [e]
@[simp] theorem raiseEvt_opAt (s : State) (p b n : Nat) : (s.raiseEvt p b).opAt n = s.opAt n := by
  rw [State.opAt, raiseEvt_op, ← State.opAt]

theorem get_raiseEvt_apart (s : State) (p b : Nat) {f : Fld} (h : f.apart (Reg.EVT p) = true) : (s.raiseEvt p b).get f = s.get f :=
  get_raiseEvt_ne s p b (Fld.key_ne_of_apart h)

/-- Every page lives while MGMT is powered (R68). -/
theorem pageLive_of_mgmtOn {s : State} (p : Nat) (h : s.keep.mgmtOn = true) : s.pageLive p = true := by
  simp [State.pageLive, h]

/-- EVT of a page that is powered, after one of its events. -/
theorem get_evt_raiseEvt {s : State} (p b : Nat) (h : s.keep.mgmtOn = true) :
    (s.raiseEvt p b).get (Reg.EVT p) = setBitOf (s.get (Reg.EVT p)) b % 2 ^ 32 := by
  obtain ⟨k, -⟩ | ⟨-, e | e⟩ := raiseEvt_eq s p b
  · rw [pageLive_of_mgmtOn p h] at k
    contradiction
  · rw [e, State.get_put_self]; rfl
  · rw [e, State.get_emit, State.get_put_self]; rfl

/-- An event of a page that is powered shows in EVT (R96). -/
theorem bitOf_evt_raiseEvt {s : State} (p : Nat) {b : Nat} (h : s.keep.mgmtOn = true) (hb : b < 32) :
    bitOf ((s.raiseEvt p b).get (Reg.EVT p)) b = true := by
  rw [get_evt_raiseEvt p b h, bitOf_mod _ hb, bitOf_setBitOf_self]

/-- An event leaves those that stand (R96). -/
theorem bitOf_evt_raiseEvt_of_bitOf {s : State} (p : Nat) {b c : Nat} (hc : c < 32) (h : bitOf (s.get (Reg.EVT p)) c = true) :
    bitOf ((s.raiseEvt p b).get (Reg.EVT p)) c = true := by
  have k := bitOf_setBitOf_of_bitOf b h
  obtain ⟨-, e⟩ | ⟨-, e | e⟩ := raiseEvt_eq s p b
  · rwa [e]
  · rw [e, State.get_put_self]; exact (bitOf_mod _ hc).trans k
  · rw [e, State.get_emit, State.get_put_self]; exact (bitOf_mod _ hc).trans k

end Sys2Proof.Machine
end

section
/-! SUPPORT. Link-control messages and low power (R207, R214, R215, R250): what a message that is sent, or waits, does to its port. -/

namespace Sys2Proof.Machine

theorem opAt_congr {s t : State} (h : t.op = s.op) (n : Nat) : t.opAt n = s.opAt n := by rw [State.opAt, State.opAt, h]

@[simp] theorem State.opAt_put (s : State) (f : Fld) (v n : Nat) : (s.put f v).opAt n = s.opAt n := rfl
@[simp] theorem State.opAt_emit (s : State) (o : Out) (n : Nat) : (s.emit o).opAt n = s.opAt n := rfl

/-- A port's link-control messages are addressed by registers alone (R207). -/
theorem lctlFrame_congr {s t : State} (h : t.regs = s.regs) (n code : Nat) (fields : List Nat) :
    t.lctlFrame n code fields = s.lctlFrame n code fields := by
  have g : t.get = s.get := funext (State.get_congr h)
  rw [State.lctlFrame, State.lctlDst, State.trained, g]
  rfl

/-- A trained port addresses its peer (R207). -/
theorem lctlDst_of_trained {s : State} {n : Nat} (h : s.trained n = true) : s.lctlDst n = s.get (Reg.OP_PEER_NODE n) := by
  simp [State.lctlDst, h]

/-- What waits stands last in its port's queue. -/
theorem opAt_lctlWait (s : State) (n code : Nat) (fields : List Nat) :
    (s.lctlWait n code fields).opAt n = { s.opAt n with lctlQ := (s.opAt n).lctlQ ++ [(code, fields)] } := State.opAt_onOp_self _ _ _

/-- A message that carries no time leaves as it is; an ACTIVE port notes that it has sent a frame without a token (R250). -/
theorem lctlGo_plain (s : State) (n : Nat) {code : Nat} (fields : List Nat) (h : code ≠ 0x30) (k : code ≠ 0x31) :
    s.lctlGo n code fields = (s.cond (s.get (Reg.OP_STAT_PSTATE n) == 2) (·.onOp n fun o => { o with owed := true })).emit (s.lctlFrame n code fields) := by
  have f : (s.cond (s.get (Reg.OP_STAT_PSTATE n) == 2) (·.onOp n fun o => { o with owed := true })).lctlFrame n code fields = s.lctlFrame n code fields := by
    unfold State.cond
    split <;> rfl
  rw [← f]
  unfold State.lctlGo
  split
  · contradiction
  · contradiction
  · rfl

/-- Outside ACTIVE nothing has its turn before a message: it leaves at once. -/
theorem lctlTurn_of_not_active (s : State) (n : Nat) {code : Nat} (fields : List Nat) (h : code ≠ 0x30) (k : code ≠ 0x31)
    (hp : s.get (Reg.OP_STAT_PSTATE n) ≠ 2) : s.lctlTurn n code fields = s.emit (s.lctlFrame n code fields) := by
  rw [State.lctlTurn, if_neg fun c => hp c.1, lctlGo_plain s n fields h k, State.cond_false _ _ (by simpa using hp)]

/-- A message waits, or it has left and the port may have noted it (R250). -/
theorem lctlTurn_cases (s : State) (n : Nat) {code : Nat} (fields : List Nat) (h : code ≠ 0x30) (k : code ≠ 0x31) :
    s.lctlTurn n code fields = s.onOp n (fun o => { o with lctlQ := o.lctlQ ++ [(code, fields)] }) ∨
    s.lctlTurn n code fields = (s.onOp n fun o => { o with owed := true }).emit (s.lctlFrame n code fields) ∨
    s.lctlTurn n code fields = s.emit (s.lctlFrame n code fields) := by
  unfold State.lctlTurn
  split
  · exact .inl rfl
  · rw [lctlGo_plain s n fields h k, State.cond]
    split
    · exact .inr (.inl rfl)
    · exact .inr (.inr rfl)

/-- A message sent is said: it has left, or it waits for its turn. -/
theorem says_lctlTurn (s : State) (n : Nat) {code : Nat} (fields : List Nat) (h : code ≠ 0x30) (k : code ≠ 0x31) :
    Says s (s.lctlTurn n code fields) n code fields := by
  obtain e | e | e := lctlTurn_cases s n fields h k <;> rw [e]
  · exact .inr (by simp)
  · exact .inl (by simp)
  · exact .inl (by simp)

theorem regs_lctlTurn (s : State) (n : Nat) {code : Nat} (fields : List Nat) (h : code ≠ 0x30) (k : code ≠ 0x31) :
    (s.lctlTurn n code fields).regs = s.regs := by
  obtain e | e | e := lctlTurn_cases s n fields h k <;> rw [e] <;> rfl

/-- Of its port a message touches the queue, and the note that the last frame took no token. -/
theorem opAt_lctlTurn (s : State) (n : Nat) {code : Nat} (fields : List Nat) (h : code ≠ 0x30) (k : code ≠ 0x31) :
    ∃ q b, (s.lctlTurn n code fields).opAt n = { s.opAt n with lctlQ := q, owed := b } := by
  obtain e | e | e := lctlTurn_cases s n fields h k <;> rw [e]
  · exact ⟨_, (s.opAt n).owed, State.opAt_onOp_self _ _ _⟩
  · exact ⟨(s.opAt n).lctlQ, true, by rw [State.opAt_emit, State.opAt_onOp_self]⟩
  · exact ⟨(s.opAt n).lctlQ, (s.opAt n).owed, rfl⟩

/-- Frames that take no token have their turn where nothing waits at the transmitter (R250). -/
theorem freeTurn_of_txIdle {s : State} {n : Nat} (h : s.txIdle n = true) : s.freeTurn n = true := by
  simp only [State.txIdle, Bool.and_eq_true, List.isEmpty_iff] at h
  obtain ⟨-, hw⟩ := h
  have heads : (s.point (1 + n)).heads = [] := by simp [QosPoint.heads, hw]
  have ready : s.portReady n = [] := by simp [State.portReady, heads]
  simp [State.freeTurn, State.tc0Waits, State.canGrant, ready]

/-- From an idle transmit side a message leaves at once. -/
theorem lctlTurn_of_txIdle {s : State} {n : Nat} {code : Nat} (fields : List Nat) (h : code ≠ 0x30) (k : code ≠ 0x31) (hi : s.txIdle n = true) :
    (s.lctlTurn n code fields).sent = s.lctlFrame n code fields :: s.sent := by
  have q : (s.opAt n).lctlQ = [] := by
    simp only [State.txIdle, Bool.and_eq_true, List.isEmpty_iff] at hi
    exact hi.1.2
  rw [State.lctlTurn, if_neg (by simp [q, freeTurn_of_txIdle hi]), lctlGo_plain s n fields h k, State.emit_sent]
  unfold State.cond
  split <;> rfl

/-! Waking a port. -/

theorem wakePort_cases (s : State) (n : Nat) :
    s.wakePort n = (s.onOp n fun o => { o with waking := true, lps := .none }).emit (.wake n) ∨ s.wakePort n = s := by
  unfold State.wakePort
  split
  · exact .inl rfl
  · exact .inr rfl

/-- A port in NAP or DOZE that does not wake yet starts to (R215). -/
theorem wakePort_of_asleep {s : State} {n : Nat} (h : s.get (Reg.OP_STAT_PSTATE n) ∈ [3, 4]) (k : (s.opAt n).waking = false) :
    s.wakePort n = (s.onOp n fun o => { o with waking := true, lps := .none }).emit (.wake n) :=
  if_pos ⟨h, by simp [k]⟩

@[simp] theorem regs_wakePort (s : State) (n : Nat) : (s.wakePort n).regs = s.regs := by
  obtain e | e := wakePort_cases s n <;> rw [e]
  rfl

theorem opAt_wakePort (s : State) (n : Nat) : ∃ w l, (s.wakePort n).opAt n = { s.opAt n with waking := w, lps := l } := by
  obtain e | e := wakePort_cases s n <;> rw [e]
  · exact ⟨true, .none, by rw [State.opAt_emit, State.opAt_onOp_self]⟩
  · exact ⟨(s.opAt n).waking, (s.opAt n).lps, rfl⟩

/-! A message that wakes its port (R215). -/

theorem says_lctlSend (s : State) (n : Nat) {code : Nat} (fields : List Nat) (h : code ≠ 0x30) (k : code ≠ 0x31) :
    Says s (s.lctlSend n code fields) n code fields := by
  unfold State.lctlSend
  split
  · obtain ⟨w, l, e⟩ := opAt_wakePort (s.lctlWait n code fields) n
    exact .inr (by simp [e, opAt_lctlWait])
  · exact says_lctlTurn s n fields h k

theorem regs_lctlSend (s : State) (n : Nat) {code : Nat} (fields : List Nat) (h : code ≠ 0x30) (k : code ≠ 0x31) :
    (s.lctlSend n code fields).regs = s.regs := by
  unfold State.lctlSend
  split
  · exact regs_wakePort _ _
  · exact regs_lctlTurn s n fields h k

theorem opAt_lctlSend (s : State) (n : Nat) {code : Nat} (fields : List Nat) (h : code ≠ 0x30) (k : code ≠ 0x31) :
    ∃ q b w l, (s.lctlSend n code fields).opAt n = { s.opAt n with lctlQ := q, owed := b, waking := w, lps := l } := by
  unfold State.lctlSend
  split
  · obtain ⟨w, l, e⟩ := opAt_wakePort (s.lctlWait n code fields) n
    exact ⟨(s.opAt n).lctlQ ++ [(code, fields)], (s.opAt n).owed, w, l, by simp [e, opAt_lctlWait]⟩
  · obtain ⟨q, b, e⟩ := opAt_lctlTurn s n fields h k
    exact ⟨q, b, (s.opAt n).waking, (s.opAt n).lps, e⟩

/-- What is said from a state that addresses the message alike. -/
theorem Says.of_regs {s u t : State} {n code : Nat} {fields : List Nat} (h : Says u t n code fields) (hr : u.regs = s.regs) :
    Says s t n code fields := by
  rwa [Says, ← lctlFrame_congr hr]

end Sys2Proof.Machine
end

section
/-! SUPPORT. The low-power handshakes of a port (R26, R214, R215). -/

namespace Sys2Proof.Machine

/-- A request goes out by a message: the port notes it, and no register changes (R214). -/
theorem lpsAsk_spec (s : State) (n : Nat) (want : LpsReq) {code : Nat} (h : code ≠ 0x30) (k : code ≠ 0x31) :
    Says s ((s.onOp n fun o => { o with lps := want }).lctlTurn n code []) n code [] ∧
      (((s.onOp n fun o => { o with lps := want }).lctlTurn n code []).opAt n).lps = want ∧
      ((s.onOp n fun o => { o with lps := want }).lctlTurn n code []).regs = s.regs := by
  refine ⟨(says_lctlTurn _ n [] h k).of_regs rfl, ?_, regs_lctlTurn _ n [] h k⟩
  obtain ⟨q, b, e⟩ := opAt_lctlTurn (s.onOp n fun o => { o with lps := want }) n [] h k
  rw [e, State.opAt_onOp_self]

/-- An idle port asks for NAP (R214). -/
theorem exec_idleToNap {s : State} {n : OpId} (hp : s.get (Reg.OP_STAT_PSTATE n) = 2) (ho : s.lpsOk n = true) (hi : s.get (Reg.OP_LPS_IDLE_NAP n) ≠ 0)
    (hl : (s.opAt n).lps = .none) : exec (.idleToNap n) s = .next ((s.onOp n fun o => { o with lps := .nap }).lctlTurn n 0x20 []) :=
  next_congr (s.cond_true _ (by simp [hp, ho, hi, hl]))

/-- A port long in NAP asks for DOZE (R214). -/
theorem exec_napToDoze {s : State} {n : OpId} (hp : s.get (Reg.OP_STAT_PSTATE n) = 3) (ho : s.lpsOk n = true) (hi : s.get (Reg.OP_LPS_NAP_DOZE n) ≠ 0)
    (hl : (s.opAt n).lps = .none) : exec (.napToDoze n) s = .next ((s.onOp n fun o => { o with lps := .doze }).lctlTurn n 0x23 []) :=
  next_congr (s.cond_true _ (by simp [hp, ho, hi, hl]))

/-! The answer to a request. -/

section
variable {s : State} {n : Nat} {mine : LpsReq} {src dst ack : Nat}

/-- Requests that cross agree (R214). -/
theorem lpsRequest_crossed (hs : s.get (Reg.OP_STAT_PSTATE n) = src) (hb : s.brynn n = false) (hl : (s.opAt n).lps = mine) :
    s.lpsRequest n mine src dst ack = s.lpsEnter n dst := by
  simp [State.lpsRequest, hs, hb, hl]

/-- An idle transmit side agrees (R214). -/
theorem lpsRequest_agreed (hs : s.get (Reg.OP_STAT_PSTATE n) = src) (hb : s.brynn n = false) (hl : (s.opAt n).lps ≠ mine) (ho : s.lpsOk n = true)
    (hi : s.txIdle n = true) : s.lpsRequest n mine src dst ack = (s.lctlTurn n ack []).lpsEnter n dst := by
  simp [State.lpsRequest, hs, hb, hl, ho, hi]

/-- A busy transmit side, or one without low power, refuses (R214). -/
theorem lpsRequest_refused (hs : s.get (Reg.OP_STAT_PSTATE n) = src) (hb : s.brynn n = false) (hl : (s.opAt n).lps ≠ mine)
    (h : s.lpsOk n = false ∨ s.txIdle n = false) : s.lpsRequest n mine src dst ack = s.lctlTurn n (ack + 1) [] := by
  have c : ¬(s.lpsOk n && s.txIdle n) = true := by rcases h with h | h <;> simp [h]
  rw [State.lpsRequest, if_neg (by simp [hs, hb]), if_neg hl, if_neg c]

end

/-- Entering a low-power state writes the state and settles the request; credits and all else of the port stay (R214). -/
theorem lpsEnter_spec (s : State) (n : Nat) {p : Nat} (hp : p < 8) :
    (s.lpsEnter n p).get (Reg.OP_STAT_PSTATE n) = p ∧ (s.lpsEnter n p).opAt n = { s.opAt n with lps := .none } ∧
      OnlyRegs { s with op := (s.lpsEnter n p).op } (s.lpsEnter n p) [Reg.OP_STAT_PSTATE n] ∧ (s.lpsEnter n p).sent = s.sent := by
  refine ⟨?_, ?_, ⟨rfl, fun f hf => ?_⟩, rfl⟩
  · rw [State.lpsEnter, State.get_put_self]
    exact Nat.mod_eq_of_lt hp
  · rw [State.lpsEnter, State.opAt_put, State.opAt_onOp_self]
  · exact State.get_put_ne _ _ (by simpa using hf)

/-- Requests that cross lead to the state without an answer. -/
theorem lpsCrossed_spec (s : State) (n : Nat) {p : Nat} (hp : p < 8) :
    (s.lpsEnter n p).get (Reg.OP_STAT_PSTATE n) = p ∧ (s.lpsEnter n p).sent = s.sent ∧ ((s.lpsEnter n p).opAt n).lps = .none := by
  obtain ⟨hg, ho, -, hs⟩ := lpsEnter_spec s n hp
  exact ⟨hg, hs, by rw [ho]⟩

/-- An answered request leads to the state, with the port's credits kept. -/
theorem lpsAnswered_spec (s : State) (n : Nat) {p : Nat} (hp : p < 8) :
    (s.lpsEnter n p).get (Reg.OP_STAT_PSTATE n) = p ∧ OnlyRegs { s with op := (s.lpsEnter n p).op } (s.lpsEnter n p) [Reg.OP_STAT_PSTATE n] ∧
      ((s.lpsEnter n p).opAt n).txCr = (s.opAt n).txCr := by
  obtain ⟨hg, ho, honly, -⟩ := lpsEnter_spec s n hp
  exact ⟨hg, honly, by rw [ho]⟩

/-- The agreement leaves before the port sleeps. -/
theorem lpsAgree_spec {s : State} {n ack p : Nat} (hp : p < 8) (h : ack ≠ 0x30) (k : ack ≠ 0x31) (hi : s.txIdle n = true) :
    ((s.lctlTurn n ack []).lpsEnter n p).get (Reg.OP_STAT_PSTATE n) = p ∧
      ((s.lctlTurn n ack []).lpsEnter n p).sent = s.lctlFrame n ack [] :: s.sent := by
  obtain ⟨hg, -, -, hs⟩ := lpsEnter_spec (s.lctlTurn n ack []) n hp
  exact ⟨hg, hs.trans (lctlTurn_of_txIdle [] h k hi)⟩

/-- A refusal, or an answer that does not come, ends the request and nothing else (R214). -/
theorem lpsEnd_spec (s : State) (n : Nat) :
    (s.onOp n fun o => { o with lps := .none }).opAt n = { s.opAt n with lps := .none } ∧
      (s.onOp n fun o => { o with lps := .none }) = { s with op := (s.onOp n fun o => { o with lps := .none }).op } :=
  ⟨State.opAt_onOp_self _ _ _, rfl⟩

/-! Waking (R215). -/

/-- The port is ACTIVE again, its exit time past; what waits has not left yet. -/
def State.awake (s : State) (n : Nat) : State := (s.onOp n fun o => { o with waking := false }).put (Reg.OP_STAT_PSTATE n) 2

theorem exec_portWakeDone {s : State} {n : OpId} (h : (s.opAt n).waking = true) : exec (.portWakeDone n) s = .next ((s.awake n).lctlFlush n) :=
  next_congr (s.cond_true _ h)

@[simp] theorem get_awake_pstate (s : State) (n : Nat) : (s.awake n).get (Reg.OP_STAT_PSTATE n) = 2 := State.get_put_self _ _ _
@[simp] theorem opAt_awake (s : State) (n : Nat) : (s.awake n).opAt n = { s.opAt n with waking := false } := by
  rw [State.awake, State.opAt_put, State.opAt_onOp_self]
theorem get_awake_ne (s : State) {n : Nat} {f : Fld} (h : f.key ≠ (Reg.OP_STAT_PSTATE n).key) : (s.awake n).get f = s.get f :=
  State.get_put_ne _ 2 h

/-- A wake leaves the address of a trained port's messages (R207). -/
theorem lctlFrame_awake {s : State} {n : Nat} (h : s.trained n = true) (code : Nat) (fields : List Nat) :
    (s.awake n).lctlFrame n code fields = s.lctlFrame n code fields := by
  have t : (s.awake n).trained n = true := by simp [State.trained]
  have p : (s.awake n).get (Reg.OP_PEER_NODE n) = s.get (Reg.OP_PEER_NODE n) := get_awake_ne s (Fld.key_ne_of_apart rfl)
  have r : (s.awake n).get Reg.ROUTE_NODE_NODE = s.get Reg.ROUTE_NODE_NODE := get_awake_ne s (Fld.key_ne_of_apart rfl)
  rw [State.lctlFrame, State.lctlFrame, lctlDst_of_trained t, lctlDst_of_trained h, p, r]

/-- With nothing waiting, a flush changes nothing of the port. -/
theorem lctlFlush_nil {s : State} {n : Nat} (h : (s.opAt n).lctlQ = []) : s.lctlFlush n = s.onOp n fun o => { o with lctlQ := [] } := by
  rw [State.lctlFlush, h]
  rfl

theorem lctlFlush_one {s : State} {n code : Nat} {fields : List Nat} (h : (s.opAt n).lctlQ = [(code, fields)]) :
    s.lctlFlush n = (s.onOp n fun o => { o with lctlQ := [] }).lctlTurn n code fields := by
  rw [State.lctlFlush, h]
  rfl

theorem wakeDone_quiet {s : State} {n : Nat} (h : (s.opAt n).lctlQ = []) :
    ((s.awake n).lctlFlush n).get (Reg.OP_STAT_PSTATE n) = 2 ∧ ((s.awake n).lctlFlush n).opAt n = { s.opAt n with waking := false } ∧
      OnlyRegs { s with op := ((s.awake n).lctlFlush n).op } ((s.awake n).lctlFlush n) [Reg.OP_STAT_PSTATE n] := by
  rw [lctlFlush_nil (by simpa using h)]
  refine ⟨?_, ?_, rfl, fun f hf => get_awake_ne s (by simpa using hf)⟩
  · rw [State.get_onOp, get_awake_pstate]
  · rw [State.opAt_onOp_self, opAt_awake, ← h]

theorem wakeDone_says {s : State} {n code : Nat} {fields : List Nat} (ht : s.trained n = true) (h : (s.opAt n).lctlQ = [(code, fields)])
    (hc : code ≠ 0x30) (hd : code ≠ 0x31) :
    ((s.awake n).lctlFlush n).get (Reg.OP_STAT_PSTATE n) = 2 ∧ Says s ((s.awake n).lctlFlush n) n code fields ∧
      (((s.awake n).lctlFlush n).opAt n).waking = false := by
  rw [lctlFlush_one (by simpa using h)]
  refine ⟨?_, ?_, ?_⟩
  · rw [State.get_congr (regs_lctlTurn _ n fields hc hd), State.get_onOp, get_awake_pstate]
  · have said := (says_lctlTurn ((s.awake n).onOp n fun o => { o with lctlQ := [] }) n fields hc hd).of_regs (s := s.awake n) rfl
    rwa [Says, lctlFrame_awake ht] at said
  · obtain ⟨q, b, e⟩ := opAt_lctlTurn ((s.awake n).onOp n fun o => { o with lctlQ := [] }) n fields hc hd
    rw [e, State.opAt_onOp_self, opAt_awake]

end Sys2Proof.Machine
end

section
open Sys2Proof Sys2Proof.Machine

/-- Settles O47: each handshake by the lemma on what it sends, and every entry into a state by `lpsEnter_spec`. -/
theorem lowPowerHandshakes : Obligations.LowPowerHandshakes := by
  unfold Obligations.LowPowerHandshakes
  intro s n
  refine ⟨?idle, ?doze, ?napReq, ?dozeReq, ?napAck, ?dozeAck, ?napNak, ?dozeNak, ?timeout, ?wake, ?quiet, ?queued⟩
  case idle =>
    intro hp ho hi hl
    exact ⟨_, exec_idleToNap hp ho hi hl, lpsAsk_spec s n .nap (by decide) (by decide)⟩
  case doze =>
    intro hp ho hi hl
    obtain ⟨-, hlps, hregs⟩ := lpsAsk_spec s n .doze (code := 0x23) (by decide) (by decide)
    refine ⟨_, exec_napToDoze hp ho hi hl, ?_, hlps, hregs⟩
    have asleep : (s.onOp n fun o => { o with lps := .doze }).get (Reg.OP_STAT_PSTATE n) ≠ 2 := by rw [State.get_onOp, hp]; decide
    rw [lctlTurn_of_not_active _ n [] (by decide) (by decide) asleep]
    rfl
  case napReq =>
    intro hp hb
    refine ⟨fun hl => ?_, fun hl ho hi => ?_, fun hl h => ?_⟩
    · exact ⟨_, next_congr (lpsRequest_crossed hp hb hl), lpsCrossed_spec s n (by decide)⟩
    · exact ⟨_, next_congr (lpsRequest_agreed hp hb hl ho hi), lpsAgree_spec (by decide) (by decide) (by decide) hi⟩
    · exact ⟨_, next_congr (lpsRequest_refused hp hb hl h), says_lctlTurn s n [] (by decide) (by decide),
        regs_lctlTurn s n [] (by decide) (by decide)⟩
  case dozeReq =>
    intro hp hb
    refine ⟨fun hl => ?_, fun hl ho hi => ?_, fun hl h => ?_⟩
    · exact ⟨_, next_congr (lpsRequest_crossed hp hb hl), lpsCrossed_spec s n (by decide)⟩
    · exact ⟨_, next_congr (lpsRequest_agreed hp hb hl ho hi), lpsAgree_spec (by decide) (by decide) (by decide) hi⟩
    · have turn := lctlTurn_of_not_active s n (code := 0x25) [] (by decide) (by decide) (by rw [hp]; decide)
      exact next_congr ((lpsRequest_refused hp hb hl h).trans turn)
  case napAck =>
    intro hl hp
    exact ⟨_, next_congr (s.cond_true _ (by simp [hl, hp])), lpsAnswered_spec s n (by decide)⟩
  case dozeAck =>
    intro hl hp
    exact ⟨_, next_congr (s.cond_true _ (by simp [hl, hp])), lpsAnswered_spec s n (by decide)⟩
  case napNak =>
    intro hl
    exact ⟨_, next_congr (s.cond_true _ (by simp [hl])), lpsEnd_spec s n⟩
  case dozeNak =>
    intro hl
    exact ⟨_, next_congr (s.cond_true _ (by simp [hl])), lpsEnd_spec s n⟩
  case timeout => exact ⟨_, rfl, lpsEnd_spec s n⟩
  case wake =>
    intro hp hw
    refine ⟨_, next_congr (wakePort_of_asleep hp hw), rfl, ?_, rfl⟩
    rw [State.opAt_emit, State.opAt_onOp_self]
  case quiet =>
    intro hw hq
    exact ⟨_, exec_portWakeDone hw, wakeDone_quiet hq⟩
  case queued =>
    intro code fields ht hw hq hc hd
    exact ⟨_, exec_portWakeDone hw, wakeDone_says ht hq hc hd⟩

end

section
/-! SUPPORT. Relayed frames (R39, R199, R200, R244, R249): what becomes of a frame as it arrives, where it is routed, and its request for a transmitter. -/

namespace Sys2Proof.Machine

/-! A frame in the receive buffer. -/

/-- The frame occupies its blocks at its port (R208). -/
def State.rxHeld (s : State) (n : Nat) (f : Frame) : State :=
  s.onOp n fun o => { o with rxOcc := setAt o.rxOcc (poolOf f.tc f.rl) (o.rxOcc.getD (poolOf f.tc f.rl) 0 + frameBlocks f) }

/-- The receive buffer of the port has room for the frame (R208). -/
def State.rxRoom (s : State) (n : Nat) (f : Frame) : Prop :=
  (s.opAt n).rxOcc.getD (poolOf f.tc f.rl) 0 + (s.opAt n).rxFreed.getD (poolOf f.tc f.rl) 0 + frameBlocks f ≤ 512

theorem rxTake_of_rxRoom {s : State} {n : Nat} {f : Frame} (h : s.rxRoom n f) : s.rxTake n f = (true, s.rxHeld n f) :=
  if_neg (Nat.not_lt.mpr h)

/-- Blocks occupied say nothing of the mode a port runs. -/
@[simp] theorem brynn_rxHeld (s : State) (n : Nat) (f : Frame) (p : Nat) : (s.rxHeld n f).brynn p = s.brynn p := by
  have mode : ((s.rxHeld n f).opAt p).brynn = (s.opAt p).brynn := by
    by_cases h : p = n
    · rw [h, State.rxHeld, State.opAt_onOp_self]
    · rw [State.rxHeld, State.opAt_onOp_ne _ _ h]
  rw [State.brynn, mode]
  rfl

/-! What arrives. -/

/-- `arrive_kept` with the state named: what follows asks for the frame's blocks. -/
theorem arrive_of_intake {s : State} {n : Nat} {f : Frame} (h : s.intake n f = true) : s.arrive n f = (true, s.rxHeld n f) := by
  simp only [State.intake, Bool.and_eq_true, Bool.not_eq_true', decide_eq_true_eq] at h
  obtain ⟨⟨⟨⟨⟨⟨⟨ht, hr⟩, hs⟩, hc⟩, hk⟩, hf⟩, hg⟩, hz⟩ := h
  have kind : (!crcGood (s.brynn n) f || f.ftype == 3 || f.ftype == 6 || f.ftype == 7) = false := by
    simpa only [hc, Bool.not_true, Bool.false_or] using hk
  simp only [State.arrive, ht, rxTake_of_rxRoom hr, hs, kind, hf, hg, hz, Bool.not_true, Bool.false_eq_true, if_false, Bool.or_self]

section
variable {s : State} {n : Nat} {f : Frame} (ht : s.trained n = true) (hr : s.rxRoom n f)
include ht hr

/-- A stomped frame is counted and goes no further (R200). -/
theorem arrive_stomped (hs : crcStomped (s.brynn n) f = true) :
    s.arrive n f = (false, ((s.rxHeld n f).bump (Reg.OP_FRM_ERR_STOMP n)).rxDone n f) := by
  simp [State.arrive, ht, rxTake_of_rxRoom hr, hs]

/-- A frame with a wrong CRC, or of a type that is not used, is counted and goes no further (R199). -/
theorem arrive_spoilt (hs : crcStomped (s.brynn n) f = false) (hc : crcGood (s.brynn n) f = false ∨ f.ftype ∈ [3, 6, 7]) :
    s.arrive n f = (false, ((s.rxHeld n f).bump (Reg.OP_FRM_ERR_CRC n)).rxDone n f) := by
  have spoilt : (!crcGood (s.brynn n) f || f.ftype == 3 || f.ftype == 6 || f.ftype == 7) = true := by
    simpa [or_assoc] using hc
  simp [State.arrive, ht, rxTake_of_rxRoom hr, hs, spoilt]

/-- A frame from a fenced node is counted and goes no further (R38, R39). -/
theorem arrive_fenced (hs : crcStomped (s.brynn n) f = false) (hc : crcGood (s.brynn n) f = true) (hk : f.ftype ∉ [3, 6, 7])
    (hf : s.fenced f.src = true) : s.arrive n f = (false, ((s.rxHeld n f).bump Reg.ROUTE_FENCED_DISC).rxDone n f) := by
  have sound : (!crcGood (s.brynn n) f || f.ftype == 3 || f.ftype == 6 || f.ftype == 7) = false := by
    simpa [hc, and_assoc] using hk
  simp [State.arrive, ht, rxTake_of_rxRoom hr, hs, sound, hf]

end

/-- Where beside the ports only a counter has moved, no other register has. -/
theorem onlyRegs_bump {s t : State} {fld : Fld} (h : t = { s.bump fld with op := t.op }) :
    OnlyRegs { s with op := t.op } t [fld] ∧ t.get fld = min (s.get fld + 1) (2 ^ fld.width - 1) := by
  have regs : t.regs = (s.bump fld).regs := by rw [h]
  refine ⟨⟨by rw [regs]; exact h, fun g hg => ?_⟩, ?_⟩
  · rw [State.get_congr regs, s.get_bump_ne 1 (by simpa using hg)]
    rfl
  · rw [State.get_congr regs, State.get_bump_self]

/-! Routes. -/

/-- Whether an alternate is usable for a stream that is not bound to a TE queue says nothing of the ports beyond their registers (R26). -/
theorem usable_op (s : State) (o : Table Op) (e : Nat) : State.usable { s with op := o } e false = s.usable e false := by
  funext k
  rw [State.usable, State.usable, Bool.false_and, Bool.false_and]
  rfl

/-- The pick of a route does not see the ports beyond their registers, and leaves them (R27, R28). -/
theorem pickRoute_op (s : State) (o : Table Op) (node dsid : Nat) :
    State.pickRoute { s with op := o } node dsid false = ((s.pickRoute node dsid false).1, { (s.pickRoute node dsid false).2 with op := o }) := by
  have entry : State.routeEntry { s with op := o } node = s.routeEntry node := rfl
  simp only [State.pickRoute, usable_op, entry]
  split
  · split
    · rfl
    · generalize List.find? _ _ = found
      cases found <;> rfl
  · rfl

/-- The pick of a route leaves all but the bindings (R27). -/
theorem pickRoute_binds (s : State) (node dsid : Nat) (te : Bool) :
    ∃ b, (s.pickRoute node dsid te).2 = s.onStrm fun m => { m with binds := b } := by
  simp only [State.pickRoute]
  split
  · split
    · exact ⟨s.strm.binds, rfl⟩
    · split
      · exact ⟨_, rfl⟩
      · exact ⟨s.strm.binds, rfl⟩
  · exact ⟨s.strm.binds, rfl⟩

/-! The request for a transmitter. -/

/-- A deal leaves the requests (R252). -/
theorem waiting_deal (s : State) (pt : Nat) : ((s.deal pt).point pt).waiting = (s.point pt).waiting := by
  simp [State.deal]

/-- A request presented stands last at its point (R251, R252). -/
theorem waiting_present (s : State) (pt m tc cost : Nat) (item : QItem) (ing : Nat) :
    ((s.present pt m tc cost item ing).point pt).waiting =
      (s.point pt).waiting ++ [{ master := m, tc := tc, cost := cost, born := s.now, ing := ing, item := item }] := by
  simp only [State.present]
  split
  · rw [point_onPoint_self]
  · rw [waiting_deal, point_onPoint_self]

/-- A request presented changes nothing but the points. -/
theorem present_frame (s : State) (pt m tc cost : Nat) (item : QItem) (ing : Nat) :
    s.present pt m tc cost item ing = { s with qos := (s.present pt m tc cost item ing).qos } := by
  simp only [State.present]
  split <;> rfl

@[simp] theorem qos_wakePort (s : State) (n : Nat) : (s.wakePort n).qos = s.qos := by
  obtain e | e := wakePort_cases s n <;> rw [e]
  rfl

@[simp] theorem strm_wakePort (s : State) (n : Nat) : (s.wakePort n).strm = s.strm := by
  obtain e | e := wakePort_cases s n <;> rw [e]
  rfl

/-! The relay. -/

/-- A frame that may go no further hop is discarded and counted (R244). -/
theorem relayOn_expired {s : State} {n : Nat} {f : Frame} (h : f.hop = 0) :
    s.relayOn n f = ((s.rxDone n f).bump Reg.ROUTE_DISC_HOP_EXPIRED).raiseEvt 10 0 := if_pos h

/-- A frame without a usable alternate is discarded and counted (R32). -/
theorem relayOn_noRoute {s u : State} {n : Nat} {f : Frame} (h : f.hop ≠ 0) (hp : s.pickRoute f.dst f.dsid false = (none, u)) :
    s.relayOn n f =
      ((((s.rxDone n f).bump Reg.ROUTE_NOROUTE_COUNT).put Reg.ROUTE_NOROUTE_NODE f.dst).put Reg.ROUTE_NOROUTE_AT_RELAY 1).raiseEvt 10 0 := by
  rw [State.relayOn, if_neg h, hp]

/-- The frame as the relay sends it on (R28, R244). -/
def onward (f : Frame) (dl : Bool) : Frame := { f with hop := f.hop - 1, rl := max f.rl (b2n dl) }

/-- A frame with a route of its own mode asks for that port's transmitter (R244, R249). -/
theorem relayOn_routed {s u : State} {n port : Nat} {dl : Bool} {f : Frame} (h : f.hop ≠ 0) (hp : s.pickRoute f.dst f.dsid false = (some (port, dl), u))
    (hb : u.brynn n = u.brynn port) :
    s.relayOn n f = (u.present (1 + port) 28 f.tc (frameBlocks f) (.relay (onward f dl) n (poolOf f.tc f.rl))).wakePort port := by
  rw [State.relayOn, if_neg h, hp]
  exact if_neg fun c => c.1 hb

theorem exec_relayForward_lost {s t : State} {n : OpId} {f : Frame} (hd : f.dst ≠ s.get Reg.ROUTE_NODE_NODE) (hk : f.ftype ≠ 5)
    (h : s.arrive n f = (false, t)) : exec (.relayForward n f) s = .next t := by
  show execRelayForward n f s = _
  rw [execRelayForward, if_neg (by simp [hd, hk]), h]

theorem exec_relayForward_kept {s : State} {n : OpId} {f : Frame} (hd : f.dst ≠ s.get Reg.ROUTE_NODE_NODE) (hk : f.ftype ≠ 5)
    (h : s.intake n f = true) : exec (.relayForward n f) s = .next ((s.rxHeld n f).relayOn n f) := by
  show execRelayForward n f s = _
  rw [execRelayForward, if_neg (by simp [hd, hk]), arrive_of_intake h]

/-! Codewords. -/

/-- An uncorrectable codeword of a trained port is counted, and every frame that overlaps it and is for this node is taken out (R200). -/
theorem exec_codewordUncorrectable {s : State} {n : OpId} {word : List Nat} {fs : List Frame} (ht : s.trained n = true)
    (hw : (s.fec n).decode word = none) (hl : fs.length ≤ 1) (hf : ∀ g ∈ fs, g.dst = s.get Reg.ROUTE_NODE_NODE ∧ s.rxRoom n g) :
    exec (.codewordUncorrectable n word fs) s = .next ((s.bump (Reg.OP_FEC_UNC_CW n)).forAll fs fun g u => (u.rxHeld n g).rxDone n g) := by
  show execCodewordUncorrectable n word fs s = _
  rw [execCodewordUncorrectable, if_neg (by simp [ht, hw])]
  refine next_congr ((if_neg (by simp [ht])).trans ?_)
  match fs, hl, hf with
  | [], _, _ => rfl
  | [g], _, hf =>
    obtain ⟨hd, hr⟩ := hf g (List.mem_singleton_self g)
    have room : (s.bump (Reg.OP_FEC_UNC_CW n)).rxRoom n g := hr
    have here : g.dst = ((s.bump (Reg.OP_FEC_UNC_CW n)).rxHeld n g).get Reg.ROUTE_NODE_NODE := hd.trans (s.get_bump_apart 1 rfl).symm
    simp only [State.forAll, List.foldl_cons, List.foldl_nil, rxTake_of_rxRoom room]
    exact if_pos (.inl here)

theorem exec_codewordUncorrectable_of_decoded {s : State} {n : OpId} {word : List Nat} (fs : List Frame) {x : List Nat × List Nat}
    (h : (s.fec n).decode word = some x) : exec (.codewordUncorrectable n word fs) s = .next s := by
  show execCodewordUncorrectable n word fs s = _
  rw [execCodewordUncorrectable, if_pos (by simp [h])]

/-- Frames taken out leave all but the ports. -/
theorem takenOut_frame (n : Nat) (fs : List Frame) (s : State) :
    s.forAll fs (fun g u => (u.rxHeld n g).rxDone n g) = { s with op := (s.forAll fs fun g u => (u.rxHeld n g).rxDone n g).op } := by
  induction fs generalizing s with
  | nil => rfl
  | cons g fs ih => exact ih ((s.rxHeld n g).rxDone n g)

end Sys2Proof.Machine
end

section
open Sys2Proof Sys2Proof.Machine

/-- Settles O26: what the relay does is said case by case (`relayOn_routed`, `relayOn_expired`, `relayOn_noRoute`), and so is what
goes no further (`arrive_stomped`, `arrive_spoilt`, `arrive_fenced`). -/
theorem relayedFramesGoOnOrAreCounted : Obligations.RelayedFramesGoOnOrAreCounted := by
  unfold Obligations.RelayedFramesGoOnOrAreCounted
  intro s n f hd hk
  refine ⟨?routed, ?expired, ?noRoute, ?lost, ?codeword, ?corrected⟩
  case routed =>
    intro port dl u hi hh hp hb
    have pick : (s.rxHeld n f).pickRoute f.dst f.dsid false = (some (port, dl), { u with op := (s.rxHeld n f).op }) := by
      have := pickRoute_op s (s.rxHeld n f).op f.dst f.dsid
      rwa [hp] at this
    obtain ⟨b, hu⟩ := pickRoute_binds s f.dst f.dsid false
    simp only [hp] at hu
    have mode : ∀ p, State.brynn { u with op := (s.rxHeld n f).op } p = s.brynn p := fun p => by
      rw [← brynn_rxHeld s n f p, hu]
      rfl
    refine ⟨_, (exec_relayForward_kept hd hk hi).trans (next_congr (relayOn_routed hh pick (by rw [mode, mode, hb]))), ?_, ?_, ?_⟩
    · rw [State.point, qos_wakePort, ← State.point, waiting_present]
      exact ⟨_, List.mem_append_right _ (List.mem_singleton_self _), rfl, rfl, rfl, rfl⟩
    · rw [regs_wakePort, present_frame, hu]
      rfl
    · rw [strm_wakePort, present_frame, hu]
      rfl
  case expired =>
    intro hi hh hm
    refine ⟨_, (exec_relayForward_kept hd hk hi).trans (next_congr (relayOn_expired hh)), raiseEvt_qos _ _ _, raiseEvt_strm _ _ _,
      bitOf_evt_raiseEvt 10 hm (by decide), ?_⟩
    rw [get_raiseEvt_apart _ _ _ rfl, State.get_bump_self]
    rfl
  case noRoute =>
    intro u hi hh hp hm
    have pick : (s.rxHeld n f).pickRoute f.dst f.dsid false = (none, { u with op := (s.rxHeld n f).op }) := by
      have := pickRoute_op s (s.rxHeld n f).op f.dst f.dsid
      rwa [hp] at this
    refine ⟨_, (exec_relayForward_kept hd hk hi).trans (next_congr (relayOn_noRoute hh pick)), raiseEvt_qos _ _ _,
      bitOf_evt_raiseEvt 10 hm (by decide), ?_, ?_, ?_⟩
    · rw [get_raiseEvt_apart _ _ _ rfl, State.get_put_apart _ _ rfl, State.get_put_self]
      rfl
    · rw [get_raiseEvt_apart _ _ _ rfl, State.get_put_self]
      rfl
    · rw [get_raiseEvt_apart _ _ _ rfl, State.get_put_apart _ _ rfl, State.get_put_apart _ _ rfl, State.get_bump_self]
      rfl
  case lost =>
    intro ht hr
    refine ⟨fun hs => ?_, fun hs hc => ?_, fun hs hc hn hf => ?_⟩
    · exact ⟨_, exec_relayForward_lost hd hk (arrive_stomped ht hr hs), onlyRegs_bump rfl⟩
    · exact ⟨_, exec_relayForward_lost hd hk (arrive_spoilt ht hr hs hc), onlyRegs_bump rfl⟩
    · exact ⟨_, exec_relayForward_lost hd hk (arrive_fenced ht hr hs hc hn hf), onlyRegs_bump rfl⟩
  case codeword =>
    intro word fs ht hw hf hl
    exact ⟨_, exec_codewordUncorrectable ht hw hl hf, onlyRegs_bump (takenOut_frame n fs _)⟩
  case corrected => exact fun word fs x hx => exec_codewordUncorrectable_of_decoded fs hx

end

section
/-! SUPPORT. Link resets of the optical ports (R212, R245): what they write, and what of a port and of the registers they leave. -/

namespace Sys2Proof.Machine

/-! Loops over ports and pools. -/

/-- What every pass keeps, the loop keeps. -/
theorem State.forAll_keeps {α : Type} {P : State → Prop} {f : α → State → State} {l : List α} (hf : ∀ a ∈ l, ∀ u, P u → P (f a u)) {s : State}
    (h : P s) : P (s.forAll l f) := by
  induction l generalizing s with
  | nil => exact h
  | cons a l ih => exact ih (fun b hb => hf b (List.mem_cons_of_mem _ hb)) (hf a (List.mem_cons_self ..) s h)

/-- What one pass brings about and every pass keeps holds after the loop. -/
theorem State.forAll_reaches {α : Type} {P : State → Prop} {f : α → State → State} {l : List α} {a : α} (ha : a ∈ l) (hs : ∀ u, P (f a u))
    (hk : ∀ b u, P u → P (f b u)) (s : State) : P (s.forAll l f) := by
  induction l generalizing s with
  | nil => exact absurd ha List.not_mem_nil
  | cons b l ih =>
    rcases List.mem_cons.mp ha with rfl | h
    · show P ((f a s).forAll l f)
      exact State.forAll_keeps (P := P) (fun b _ => hk b) (hs s)
    · exact ih h (f b s)

/-! Registers beside a list of fields. -/

theorem SameRegs.refl (s : State) (fs : List Fld) : SameRegs s s fs := fun _ _ => rfl

theorem SameRegs.trans {s t u : State} {fs gs : List Fld} (h : SameRegs s t fs) (k : SameRegs t u gs) : SameRegs s u (fs ++ gs) := by
  intro f hf
  rw [List.map_append, List.mem_append, not_or] at hf
  exact (k f hf.2).trans (h f hf.1)

theorem SameRegs.mono {s t : State} {fs gs : List Fld} (h : SameRegs s t fs) (k : fs ⊆ gs) : SameRegs s t gs :=
  fun f hf => h f fun hm => hf (List.map_subset _ k hm)

theorem SameRegs.of_regs {s t u : State} {fs : List Fld} (h : SameRegs s t fs) (hr : u.regs = t.regs) : SameRegs s u fs :=
  fun f hf => (State.get_congr hr f).trans (h f hf)

theorem SameRegs.put {s t : State} {fs : List Fld} (h : SameRegs s t fs) {f : Fld} (v : Nat) (hf : f ∈ fs) : SameRegs s (t.put f v) fs := by
  intro g hg
  have hne : g.key ≠ f.key := fun e => hg (by rw [e]; exact List.mem_map_of_mem hf)
  rw [State.get_put_ne _ _ hne, h g hg]

theorem SameRegs.bump {s t : State} {fs : List Fld} (h : SameRegs s t fs) {f : Fld} (n : Nat) (hf : f ∈ fs) : SameRegs s (t.bump f n) fs :=
  h.put _ hf

theorem SameRegs.raiseEvt {s t : State} {fs : List Fld} (h : SameRegs s t fs) {p : Nat} (b : Nat) (hf : Reg.EVT p ∈ fs) :
    SameRegs s (t.raiseEvt p b) fs := by
  intro g hg
  have hne : g.key ≠ (Reg.EVT p).key := fun e => hg (by rw [e]; exact List.mem_map_of_mem hf)
  rw [get_raiseEvt_ne _ _ _ hne, h g hg]

/-- A field apart from every one of a list is none of them. -/
theorem Fld.not_mem_of_apart {f : Fld} {fs : List Fld} (h : fs.all f.apart = true) : f.key ∉ fs.map Fld.key := by
  intro hm
  obtain ⟨g, hg, e⟩ := List.mem_map.mp hm
  exact Fld.key_ne_of_apart (List.all_eq_true.mp h g hg) e.symm

/-- The field lies where a card can put it. -/
def Fld.placed (f : Fld) : Bool := decide (f.off < 4096) && decide (f.lsb < 32) && decide (f.page < 256)

theorem Fld.key_ne_of_page {f g : Fld} (hf : f.placed = true) (hg : g.placed = true) (h : f.page ≠ g.page) : f.key ≠ g.key := by
  simp only [Fld.placed, Bool.and_eq_true, decide_eq_true_eq] at hf hg
  unfold Fld.key
  omega

theorem Fld.not_mem_of_page {f : Fld} {fs : List Fld} {p : Nat} (hf : f.placed = true) (h : f.page ≠ p)
    (hp : ∀ g ∈ fs, g.placed = true ∧ g.page = p) : f.key ∉ fs.map Fld.key := by
  intro hm
  obtain ⟨g, hg, e⟩ := List.mem_map.mp hm
  obtain ⟨hgp, hpage⟩ := hp g hg
  exact Fld.key_ne_of_page hf hgp (hpage ▸ h) e.symm

/-! The mailbox's end. -/

/-- The fields that the end of a mailbox command writes (R107). -/
def mboxFlds : List Fld :=
  [Reg.MBOX_ST_CODE, Reg.MBOX_TIME_US, Reg.MBOX_ST_BUSY, Reg.MBOX_CMD_GO, Reg.MBOX_CTL_ABORT, Reg.MBOX_ST_DONE, Reg.EVT 14]

theorem mboxFlds_page : ∀ g ∈ mboxFlds, g.placed = true ∧ g.page = 14 := by decide

theorem mboxFinish_spec (s : State) (c : Nat) (r : List Nat) :
    SameRegs s (s.mboxFinish c r) mboxFlds ∧ (s.mboxFinish c r).op = s.op ∧ (s.mboxFinish c r).keep = s.keep := by
  unfold State.mboxFinish
  split
  · exact ⟨SameRegs.refl _ _, rfl, rfl⟩
  · refine ⟨SameRegs.raiseEvt ?_ _ (by decide), raiseEvt_op _ _ _, raiseEvt_keep _ _ _⟩
    iterate 6 refine SameRegs.put ?_ _ (by decide)
    exact (SameRegs.refl _ _).of_regs rfl

/-- The end of a mailbox command touches registers of its page, and neither the ports nor the keeper (R107). -/
theorem mboxEnd_spec (s : State) (o c : Nat) (r : List Nat) :
    SameRegs s (s.mboxEnd o c r) mboxFlds ∧ (s.mboxEnd o c r).op = s.op ∧ (s.mboxEnd o c r).keep = s.keep := by
  unfold State.mboxEnd
  split
  · split
    · exact mboxFinish_spec s c r
    · exact ⟨SameRegs.refl _ _, rfl, rfl⟩
  · exact ⟨SameRegs.refl _ _, rfl, rfl⟩

/-! Frames stomped. -/

/-- What stomped frames leave: the registers, the keeper, and of each port all but its credits (R200, R208). -/
def CreditsOnly (s t : State) : Prop := t.regs = s.regs ∧ t.keep = s.keep ∧ ∀ p, ∃ c, t.opAt p = { s.opAt p with txCr := c }

theorem CreditsOnly.onOp {s t : State} (h : CreditsOnly s t) (p : Nat) (c : Op → List Nat) :
    CreditsOnly s (t.onOp p fun o => { o with txCr := c o }) := by
  obtain ⟨hr, hk, ho⟩ := h
  refine ⟨hr, hk, fun k => ?_⟩
  obtain ⟨d, hd⟩ := ho k
  by_cases e : k = p
  · subst e
    exact ⟨c (t.opAt k), by rw [State.opAt_onOp_self, hd]⟩
  · exact ⟨d, by rw [State.opAt_onOp_ne _ _ e, hd]⟩

theorem CreditsOnly.emit {s t : State} (h : CreditsOnly s t) (o : Out) : CreditsOnly s (t.emit o) := h

theorem creditsOnly_stompFrom (s : State) (n : Nat) : CreditsOnly s (s.stompFrom n) := by
  refine State.forAll_keeps (P := CreditsOnly s) (fun p _ t ht => State.forAll_keeps (P := CreditsOnly s) (fun q _ u hu => ?_) ht) ⟨rfl, rfl, fun p => ⟨(s.opAt p).txCr, rfl⟩⟩
  split
  · exact (hu.onOp p _).emit _
  · exact hu

/-! The parts of a link reset. -/

/-- What each pool's credits and blocks stood at is reported (R212). -/
def State.resetVoids (s : State) (n : Nat) : State :=
  s.forAll (List.range 16) fun p u => (u.put (Reg.OP_CRA_TX_VOID n p) ((s.opAt n).txCr.getD p 0)).put (Reg.OP_CRA_RX_DISC_BLK n p) ((s.opAt n).rxOcc.getD p 0)

/-- The relayed frames of the buffer go, the transmitter's requests give back their tokens, and the reset is counted (R212, R245, R261). -/
def State.resetBuffer (s : State) (n : Nat) : State :=
  (((((s.resetVoids n).put (Reg.OP_CRA_SUM_DISC_FRM n) (min (s.relayedFrom n) 65535)).stompFrom n).withdraw (·.fromPort n)).onPoint (1 + n) QosPoint.regain).bump
    (Reg.OP_CRA_SUM_RESETS n)

/-- The swap that runs or one that waits was ordered by the mailbox's LINE_SWAP (R189). -/
def State.swapOrdered (s : State) (n : Nat) : Bool := (match (s.opAt n).swapT with | some w => w.cmd | none => false) || (s.opAt n).swapQ.any (·.cmd)

/-- The port drops its link, and with a swap that the mailbox ordered the command ends (R189, R212). -/
def State.resetDrop (s : State) (n : Nat) : State :=
  ((s.resetBuffer n).onOp n Op.dropLink).cond (s.swapOrdered n) (·.mboxEnd 0x32 0x0B [])

/-- The link reset before its event. -/
def State.resetQuiet (s : State) (n pstate : Nat) : State :=
  (((((s.resetDrop n).put (Reg.OP_PEER_VALID n) 0).put (Reg.OP_STAT_CAPS n) 0).put (Reg.OP_STAT_BRYNN n) 0).put (Reg.OP_LB_FAR_OK n) 0).setPort n pstate

theorem linkReset_eq (s : State) (n pstate : Nat) : s.linkReset n pstate = (s.resetQuiet n pstate).raiseEvt (48 + n) 2 := rfl

/-- The fields that report each pool (R212). -/
def voidFlds (n : Nat) : List Fld := (List.range 16).flatMap fun p => [Reg.OP_CRA_TX_VOID n p, Reg.OP_CRA_RX_DISC_BLK n p]

/-- The fields of its page that a link reset writes after the report, but EVT. -/
def dropFlds (n : Nat) : List Fld :=
  [Reg.OP_CRA_SUM_DISC_FRM n, Reg.OP_CRA_SUM_RESETS n, Reg.OP_PEER_VALID n, Reg.OP_STAT_CAPS n, Reg.OP_STAT_BRYNN n, Reg.OP_LB_FAR_OK n,
    Reg.OP_STAT_PSTATE n, Reg.OP_STAT_TSTEP n]

theorem mem_voidFlds {n p : Nat} (h : p < 16) : Reg.OP_CRA_TX_VOID n p ∈ voidFlds n ∧ Reg.OP_CRA_RX_DISC_BLK n p ∈ voidFlds n := by
  constructor <;> exact List.mem_flatMap.mpr ⟨p, List.mem_range.mpr h, by simp⟩

theorem sameRegs_resetVoids (s : State) (n : Nat) : SameRegs s (s.resetVoids n) (voidFlds n) := by
  refine State.forAll_keeps (P := fun u => SameRegs s u (voidFlds n)) (fun p hp u hu => ?_) (SameRegs.refl _ _)
  obtain ⟨ht, hr⟩ := mem_voidFlds (n := n) (List.mem_range.mp hp)
  exact (hu.put _ ht).put _ hr

theorem resetVoids_frame (s : State) (n : Nat) : (s.resetVoids n).op = s.op ∧ (s.resetVoids n).keep = s.keep := by
  unfold State.resetVoids
  refine State.forAll_keeps (P := fun u => u.op = s.op ∧ u.keep = s.keep) (fun _ _ u hu => ?_) ⟨rfl, rfl⟩
  exact hu

/-- Registers that differ in their bank alone. -/
theorem Fld.key_ne_of_bank {f : Fld} {a b : Nat} (h : a ≠ b) : Fld.key { f with bank := a } ≠ Fld.key { f with bank := b } := by
  simp only [Fld.key]
  omega

theorem get_resetVoids (s : State) (n : Nat) {p : Nat} (h : p < 16) :
    (s.resetVoids n).get (Reg.OP_CRA_TX_VOID n p) = (s.opAt n).txCr.getD p 0 % 65536 ∧
      (s.resetVoids n).get (Reg.OP_CRA_RX_DISC_BLK n p) = (s.opAt n).rxOcc.getD p 0 % 65536 := by
  refine State.forAll_reaches (List.mem_range.mpr h) (fun u => ⟨?_, ?_⟩) (fun k u hu => ?_) s
    (P := fun u => u.get (Reg.OP_CRA_TX_VOID n p) = (s.opAt n).txCr.getD p 0 % 65536 ∧ u.get (Reg.OP_CRA_RX_DISC_BLK n p) = (s.opAt n).rxOcc.getD p 0 % 65536)
  · rw [State.get_put_apart _ _ rfl, State.get_put_self]
    rfl
  · rw [State.get_put_self]
    rfl
  · by_cases e : p = k
    · subst e
      exact ⟨by rw [State.get_put_apart _ _ rfl, State.get_put_self]; rfl, by rw [State.get_put_self]; rfl⟩
    · have tx := Fld.key_ne_of_bank (f := Reg.OP_CRA_TX_VOID n 0) e
      have rx := Fld.key_ne_of_bank (f := Reg.OP_CRA_RX_DISC_BLK n 0) e
      exact ⟨(State.get_put_apart _ _ rfl).trans ((State.get_put_ne _ _ tx).trans hu.1),
        (State.get_put_ne _ _ rx).trans ((State.get_put_apart _ _ rfl).trans hu.2)⟩

/-- Requests withdrawn, and tokens given back, leave registers, keeper and ports. -/
theorem points_frame (s : State) (test : QReq → Bool) (pt : Nat) (f : QosPoint → QosPoint) :
    ((s.withdraw test).onPoint pt f).regs = s.regs ∧ ((s.withdraw test).onPoint pt f).keep = s.keep ∧
      ((s.withdraw test).onPoint pt f).op = s.op := ⟨rfl, rfl, rfl⟩

theorem resetBuffer_spec (s : State) (n : Nat) :
    SameRegs (s.resetVoids n) (s.resetBuffer n) (dropFlds n) ∧ (s.resetBuffer n).keep = s.keep ∧ ∃ c, (s.resetBuffer n).opAt n = { s.opAt n with txCr := c } := by
  unfold State.resetBuffer
  generalize ht : (s.resetVoids n).put (Reg.OP_CRA_SUM_DISC_FRM n) (min (s.relayedFrom n) 65535) = t
  obtain ⟨hr, hk, ho⟩ := creditsOnly_stompFrom t n
  obtain ⟨pr, pk, po⟩ := points_frame (t.stompFrom n) (·.fromPort n) (1 + n) QosPoint.regain
  obtain ⟨vo, vk⟩ := resetVoids_frame s n
  have tr : SameRegs (s.resetVoids n) t (dropFlds n) := ht ▸ (SameRegs.refl _ _).put _ (by simp [dropFlds])
  have tports : t.op = s.op := by rw [← ht, State.put_op, vo]
  have tk : t.keep = s.keep := by rw [← ht, State.put_keep, vk]
  obtain ⟨c, hc⟩ := ho n
  refine ⟨(tr.of_regs (pr.trans hr)).bump 1 (by simp [dropFlds]), ?_, c, ?_⟩
  · rw [State.bump_keep, pk, hk, tk]
  · rw [State.opAt_bump, opAt_congr po, hc, opAt_congr tports]

/-- The credits a port had are void whatever they were. -/
theorem dropLink_txCr (o : Op) (c : List Nat) : Op.dropLink { o with txCr := c } = o.dropLink := rfl

theorem resetDrop_spec (s : State) (n : Nat) :
    SameRegs (s.resetVoids n) (s.resetDrop n) (dropFlds n ++ mboxFlds) ∧ (s.resetDrop n).keep = s.keep ∧ (s.resetDrop n).opAt n = (s.opAt n).dropLink := by
  obtain ⟨hr, hk, c, hc⟩ := resetBuffer_spec s n
  unfold State.resetDrop
  generalize s.resetBuffer n = b at hr hk hc ⊢
  have dropped : (b.onOp n Op.dropLink).opAt n = (s.opAt n).dropLink := by rw [State.opAt_onOp_self, hc, dropLink_txCr]
  obtain ⟨mr, mo, mk⟩ := mboxEnd_spec (b.onOp n Op.dropLink) 0x32 0x0B []
  have hb : SameRegs (s.resetVoids n) (b.onOp n Op.dropLink) (dropFlds n) := hr.of_regs (b.onOp_regs n _)
  unfold State.cond
  split
  · exact ⟨hb.trans mr, by rw [mk, State.onOp_keep, hk], by rw [opAt_congr mo, dropped]⟩
  · exact ⟨hb.mono (List.subset_append_left _ _), by rw [State.onOp_keep, hk], dropped⟩

theorem resetQuiet_spec (s : State) (n p : Nat) :
    SameRegs (s.resetVoids n) (s.resetQuiet n p) (dropFlds n ++ mboxFlds) ∧ (s.resetQuiet n p).keep = s.keep ∧
      (s.resetQuiet n p).opAt n = (s.opAt n).dropLink := by
  obtain ⟨hr, hk, ho⟩ := resetDrop_spec s n
  unfold State.resetQuiet State.setPort
  refine ⟨?_, by simp only [State.put_keep, hk], by simp only [State.opAt_put, ho]⟩
  iterate 6 refine SameRegs.put ?_ _ (by simp [dropFlds])
  exact hr

/-! What a link reset leaves, and what it shows. -/

/-- A register that a link reset does not write. -/
theorem get_linkReset_of_apart (s : State) {n p : Nat} {f : Fld} (h : (voidFlds n ++ (dropFlds n ++ mboxFlds)).all f.apart = true)
    (he : f.apart (Reg.EVT (48 + n)) = true) : (s.linkReset n p).get f = s.get f := by
  rw [linkReset_eq, get_raiseEvt_apart _ _ _ he]
  exact (sameRegs_resetVoids s n).trans (resetQuiet_spec s n p).1 f (Fld.not_mem_of_apart h)

theorem opAt_linkReset (s : State) (n p : Nat) : (s.linkReset n p).opAt n = (s.opAt n).dropLink := by
  rw [linkReset_eq, raiseEvt_opAt]
  exact (resetQuiet_spec s n p).2.2

@[simp] theorem keep_linkReset (s : State) (n p : Nat) : (s.linkReset n p).keep = s.keep := by
  rw [linkReset_eq, raiseEvt_keep]
  exact (resetQuiet_spec s n p).2.1

/-- The port goes to the state given. -/
theorem get_linkReset_pstate (s : State) (n : Nat) {p : Nat} (h : p < 8) : (s.linkReset n p).get (Reg.OP_STAT_PSTATE n) = p := by
  rw [linkReset_eq, get_raiseEvt_apart _ _ _ rfl, State.resetQuiet, State.setPort, State.get_put_apart _ _ rfl, State.get_put_self]
  exact Nat.mod_eq_of_lt h

theorem dropFlds_page {n : Nat} (h : n < 16) : ∀ g ∈ voidFlds n ++ dropFlds n, g.placed = true ∧ g.page = 48 + n := by
  have page : 48 + n < 256 := by omega
  intro g hg
  simp only [List.mem_append, voidFlds, dropFlds, List.mem_flatMap, List.mem_cons, List.not_mem_nil, or_false] at hg
  rcases hg with ⟨p, -, rfl | rfl⟩ | rfl | rfl | rfl | rfl | rfl | rfl | rfl | rfl <;> exact ⟨decide_eq_true page, rfl⟩

end Sys2Proof.Machine
end

section
/-! SUPPORT. A link reset as the statements name it (`LinkReset`), and what may follow it without undoing it; how a port leaves service (R209, R212). -/

namespace Sys2Proof.Machine

/-- A register of another page, the mailbox's apart, outlives a link reset. -/
theorem get_linkReset_of_page (s : State) {n p : Nat} {f : Fld} (hn : n < 16) (hf : f.placed = true) (h : f.page ≠ 48 + n) (hm : f.page ≠ 14) :
    (s.linkReset n p).get f = s.get f := by
  have evt : f.key ≠ (Reg.EVT (48 + n)).key := Fld.key_ne_of_page hf (decide_eq_true (by show 48 + n < 256; omega)) h
  have port := Fld.not_mem_of_page hf h (dropFlds_page hn)
  have mbox := Fld.not_mem_of_page hf hm mboxFlds_page
  rw [linkReset_eq, get_raiseEvt_ne _ _ _ evt]
  refine (sameRegs_resetVoids s n).trans (resetQuiet_spec s n p).1 f ?_
  rw [← List.append_assoc, List.map_append, List.mem_append, not_or]
  exact ⟨port, mbox⟩

/-- An event of the port that stands outlives a link reset. -/
theorem bitOf_evt_linkReset {s : State} {n p c : Nat} (hn : n < 16) (hc : c < 32) (h : bitOf (s.get (Reg.EVT (48 + n))) c = true) :
    bitOf ((s.linkReset n p).get (Reg.EVT (48 + n))) c = true := by
  have placed : (Reg.EVT (48 + n)).placed = true := decide_eq_true (by show 48 + n < 256; omega)
  have port : (Reg.EVT (48 + n)).key ∉ (voidFlds n ++ dropFlds n).map Fld.key := Fld.not_mem_of_apart rfl
  have mbox : (Reg.EVT (48 + n)).key ∉ mboxFlds.map Fld.key :=
    Fld.not_mem_of_page placed (by show 48 + n ≠ 14; omega) mboxFlds_page
  have quiet : (s.resetQuiet n p).get (Reg.EVT (48 + n)) = s.get (Reg.EVT (48 + n)) := by
    refine (sameRegs_resetVoids s n).trans (resetQuiet_spec s n p).1 _ ?_
    rw [← List.append_assoc, List.map_append, List.mem_append, not_or]
    exact ⟨port, mbox⟩
  rw [linkReset_eq]
  exact bitOf_evt_raiseEvt_of_bitOf _ hc (by rwa [quiet])

/-- A link reset does what `LinkReset` says (R212, R245). -/
theorem linkReset_spec {s : State} (n p : Nat) (hm : s.keep.mgmtOn = true) : LinkReset s (s.linkReset n p) n := by
  obtain ⟨hr, hk, -⟩ := resetQuiet_spec s n p
  have quiet : (s.resetQuiet n p).keep.mgmtOn = true := by rw [hk, hm]
  have ho := opAt_linkReset s n p
  refine ⟨by rw [ho]; rfl, by rw [ho]; rfl, by rw [ho]; rfl, by rw [ho]; rfl, fun k hk => ?_, bitOf_evt_raiseEvt _ quiet (by decide), ?_⟩
  · obtain ⟨ht, hx⟩ := get_resetVoids s n hk
    have tx : (Reg.OP_CRA_TX_VOID n k).key ∉ (dropFlds n ++ mboxFlds).map Fld.key := Fld.not_mem_of_apart rfl
    have rx : (Reg.OP_CRA_RX_DISC_BLK n k).key ∉ (dropFlds n ++ mboxFlds).map Fld.key := Fld.not_mem_of_apart rfl
    rw [linkReset_eq, get_raiseEvt_apart _ _ _ rfl, get_raiseEvt_apart _ _ _ rfl, hr _ tx, hr _ rx]
    exact ⟨ht, hx⟩
  · rw [linkReset_eq, get_raiseEvt_apart _ _ _ rfl]
    simp only [State.resetQuiet, State.setPort]
    iterate 5 rw [State.get_put_apart _ _ rfl]
    exact State.get_put_self _ _ _

/-! What may follow a link reset. -/

/-- What a link reset shows of a port beyond its registers. -/
def linkParts (o : Op) : List Nat × List Nat × List Nat × Table (Option Frame) := (o.txCr, o.rxOcc, o.rxFreed, o.pantry)

/-- A link reset is seen from any state whose port had the same link. -/
theorem LinkReset.of_before {s u t : State} {n : Nat} (h : LinkReset u t n) (ho : linkParts (u.opAt n) = linkParts (s.opAt n)) : LinkReset s t n := by
  simp only [linkParts, Prod.mk.injEq] at ho
  obtain ⟨ht, hx, -, hp⟩ := ho
  rw [LinkReset, ← hp, ← ht, ← hx]
  exact h

/-- A link reset stands while its registers, its event and the port's link stay. -/
theorem LinkReset.of_after {s t u : State} {n : Nat} (h : LinkReset s t n) (ho : linkParts (u.opAt n) = linkParts (t.opAt n))
    (hv : ∀ f ∈ voidFlds n ++ [Reg.OP_PEER_VALID n], u.get f = t.get f)
    (he : bitOf (t.get (Reg.EVT (48 + n))) 2 = true → bitOf (u.get (Reg.EVT (48 + n))) 2 = true) : LinkReset s u n := by
  simp only [linkParts, Prod.mk.injEq] at ho
  obtain ⟨ot, oo, of, op⟩ := ho
  obtain ⟨ht, hx, hf, hp, hvoid, hevt, hvalid⟩ := h
  refine ⟨ot.trans ht, oo.trans hx, of.trans hf, op.trans hp, fun k hk => ?_, he hevt, ?_⟩
  · obtain ⟨mt, mx⟩ := mem_voidFlds (n := n) hk
    rw [hv _ (List.mem_append_left _ mt), hv _ (List.mem_append_left _ mx)]
    exact hvoid k hk
  · rw [hv _ (List.mem_append_right _ (List.mem_singleton_self _)), hvalid]

/-- What leaves the registers and the port's link leaves the reset. -/
theorem LinkReset.of_regs {s t u : State} {n : Nat} (h : LinkReset s t n) (hr : u.regs = t.regs) (ho : linkParts (u.opAt n) = linkParts (t.opAt n)) :
    LinkReset s u n :=
  h.of_after ho (fun f _ => State.get_congr hr f) fun e => by rwa [State.get_congr hr]

/-- A write of a field that reports nothing of the reset leaves it. -/
theorem LinkReset.put {s t : State} {n : Nat} (h : LinkReset s t n) (f : Fld) (v : Nat)
    (hf : (Reg.EVT (48 + n) :: (voidFlds n ++ [Reg.OP_PEER_VALID n])).all (fun g => g.apart f) = true) : LinkReset s (t.put f v) n := by
  rw [List.all_cons, Bool.and_eq_true, List.all_eq_true] at hf
  obtain ⟨he, hv⟩ := hf
  refine h.of_after rfl (fun g hg => State.get_put_apart _ _ (hv g hg)) fun e => ?_
  rwa [State.get_put_apart _ _ he]

/-- A later event of the port leaves the reset. -/
theorem LinkReset.raiseEvt {s t : State} {n : Nat} (h : LinkReset s t n) (b : Nat) : LinkReset s (t.raiseEvt (48 + n) b) n := by
  have away : (voidFlds n ++ [Reg.OP_PEER_VALID n]).all (fun g => g.apart (Reg.EVT (48 + n))) = true := rfl
  rw [List.all_eq_true] at away
  refine h.of_after (by rw [raiseEvt_opAt]) (fun g hg => get_raiseEvt_apart _ _ _ (away g hg)) fun e => ?_
  exact bitOf_evt_raiseEvt_of_bitOf _ (by decide) e

/-! Leaving service. -/

/-- A training attempt sets the mode and the remaps alone (R205, R217). -/
theorem linkParts_trainMode (s : State) (n : Nat) : linkParts ((s.trainMode n).opAt n) = linkParts (s.opAt n) := by
  simp only [State.trainMode, State.opAt_onOp_self]
  rfl

/-- A trained port that leaves service runs a link reset; where it trains again, its mode and remaps follow, and no register (R209, R212, R217). -/
theorem portRetrain_of_trained {s : State} {n : Nat} (h : s.trained n = true) :
    ∃ p, (s.portRetrain n).regs = (s.linkReset n p).regs ∧ linkParts ((s.portRetrain n).opAt n) = linkParts ((s.linkReset n p).opAt n) := by
  refine ⟨s.outState n, ?_⟩
  have away : s.portRetrain n = (s.linkReset n (s.outState n)).cond (s.outState n == 1) (·.trainMode n) := by
    simp [State.portRetrain, h]
  rw [away]
  unfold State.cond
  split
  · exact ⟨rfl, linkParts_trainMode _ _⟩
  · exact ⟨rfl, rfl⟩

/-- A trained port that leaves service has had its link reset, and its events stand. -/
theorem linkReset_portRetrain {s : State} {n : Nat} (h : s.trained n = true) (hm : s.keep.mgmtOn = true) : LinkReset s (s.portRetrain n) n := by
  obtain ⟨p, hr, ho⟩ := portRetrain_of_trained h
  exact (linkReset_spec n p hm).of_regs hr ho

theorem get_portRetrain {s : State} {n : Nat} (h : s.trained n = true) {f : Fld} {P : Nat → Prop} (hf : ∀ p, P ((s.linkReset n p).get f)) :
    P ((s.portRetrain n).get f) := by
  obtain ⟨p, hr, -⟩ := portRetrain_of_trained h
  rw [State.get_congr hr]
  exact hf p

theorem trained_congr {s t : State} {n : Nat} (h : t.get (Reg.OP_STAT_PSTATE n) = s.get (Reg.OP_STAT_PSTATE n)) : t.trained n = s.trained n := by
  rw [State.trained, State.trained, h]

end Sys2Proof.Machine
end

section
/-! SUPPORT. Register writes of an optical port's page that go through (R90 to R100): the access, LINK_CTL and OP_LB. -/

namespace Sys2Proof.Machine

/-- The register's parity is good again once it is written (R99). -/
def State.rewritten (s : State) (addr : Nat) : State := s.onMgmt fun m => { m with parityBad := m.parityBad.filter (· != addr) }

@[simp] theorem get_rewritten (s : State) (addr : Nat) (f : Fld) : (s.rewritten addr).get f = s.get f := rfl
@[simp] theorem opAt_rewritten (s : State) (addr n : Nat) : (s.rewritten addr).opAt n = s.opAt n := rfl
@[simp] theorem keep_rewritten (s : State) (addr : Nat) : (s.rewritten addr).keep = s.keep := rfl

/-- A write that goes through has its register's effect and is answered OK (R99). -/
theorem pathWrite_of_writable {s : State} {p : Path} {addr v : Nat} (env : MboxEnv) (h : s.writable p addr v = true) :
    s.pathWrite p addr v env = ((s.rewritten addr).writeReg p (addr / 4096) (addr % 4096) v env).emit (.access p 0 0) := by
  simp only [State.writable, Bool.and_eq_true, Bool.not_eq_true', Option.isNone_iff_eq_none] at h
  obtain ⟨⟨⟨⟨⟨hserves, hfault⟩, howner⟩, hrefuses⟩, hpart⟩, hlocked⟩ := h
  simp only [State.pathWrite, hserves, if_true, State.accessWrite, hfault, howner, hrefuses, hpart, hlocked, Bool.false_eq_true, if_false,
    State.cond]
  rfl

/-- Beyond the header a write of a port's page is the port's. -/
theorem writeReg_opPage (s : State) (path : Path) (n : OpId) {off : Nat} (v : Nat) (env : MboxEnv) (h : 0x40 ≤ off) :
    s.writeReg path (48 + n.val) off v env = s.opPageWrite n off v := by
  unfold State.writeReg
  rw [if_neg (by omega)]
  split <;> try omega
  rw [if_neg (by omega), if_neg (by omega), if_pos (by omega), Nat.add_sub_cancel_left]

/-- A write beyond the header of a port's page that goes through. -/
theorem pathWrite_opPage {s : State} {p : Path} {n : OpId} {off v : Nat} (hl : 0x40 ≤ off) (hu : off < 4096)
    (h : s.writable p ((48 + n.val) * 4096 + off) v = true) :
    s.pathWrite p ((48 + n.val) * 4096 + off) v = ((s.rewritten ((48 + n.val) * 4096 + off)).opPageWrite n off v).emit (.access p 0 0) := by
  have page : ((48 + n.val) * 4096 + off) / 4096 = 48 + n.val := by omega
  have place : ((48 + n.val) * 4096 + off) % 4096 = off := by omega
  rw [pathWrite_of_writable {} h, page, place, writeReg_opPage _ _ _ _ _ hl]

theorem exec_linkCtlWrite {s : State} {p : Path} {n : OpId} {v : Word} (h : s.writable p ((48 + n.val) * 4096 + 0x40) v.toNat = true) :
    exec (.linkCtlWrite p n v) s = .next (((s.rewritten ((48 + n.val) * 4096 + 0x40)).linkCtl n v.toNat).emit (.access p 0 0)) :=
  next_congr (pathWrite_opPage (by decide) (by decide) h)

theorem exec_opLbMode {s : State} {p : Path} {n : OpId} {v : Word} (h : s.writable p ((48 + n.val) * 4096 + 0x70) v.toNat = true) :
    exec (.opLbMode p n v) s = .next (((s.rewritten ((48 + n.val) * 4096 + 0x70)).opLb n v.toNat).emit (.access p 0 0)) :=
  next_congr (pathWrite_opPage (by decide) (by decide) h)

/-! LINK_CTL (R209, R212). -/

/-- The fields of LINK_CTL as written. -/
def State.linkCtlPut (s : State) (n v : Nat) : State :=
  (((((s.put (Reg.LINK_CTL_EN n) (bits v 0 1)).put (Reg.LINK_CTL_COMPAT n) (bits v 1 1)).put (Reg.LINK_CTL_MODE n) (bits v 2 1)).put
    (Reg.LINK_CTL_FEC n) (bits v 3 1)).put (Reg.LINK_CTL_LPS_EN n) (bits v 4 1)).put (Reg.LINK_CTL_RETRY n) (bits v 5 1)

/-- The fields of LINK_CTL. -/
def linkCtlFlds (n : Nat) : List Fld :=
  [Reg.LINK_CTL_EN n, Reg.LINK_CTL_COMPAT n, Reg.LINK_CTL_MODE n, Reg.LINK_CTL_FEC n, Reg.LINK_CTL_LPS_EN n, Reg.LINK_CTL_RETRY n]

theorem sameRegs_linkCtlPut (s : State) (n v : Nat) : SameRegs s (s.linkCtlPut n v) (linkCtlFlds n) := by
  unfold State.linkCtlPut
  iterate 6 refine SameRegs.put ?_ _ (by simp [linkCtlFlds])
  exact SameRegs.refl _ _

theorem get_linkCtlPut_of_apart (s : State) {n : Nat} (v : Nat) {f : Fld} (h : (linkCtlFlds n).all f.apart = true) :
    (s.linkCtlPut n v).get f = s.get f := sameRegs_linkCtlPut s n v f (Fld.not_mem_of_apart h)

theorem get_linkCtlPut (s : State) (n v : Nat) :
    (s.linkCtlPut n v).get (Reg.LINK_CTL_EN n) = v % 2 ∧ (s.linkCtlPut n v).get (Reg.LINK_CTL_LPS_EN n) = v / 16 % 2 ∧
      (s.linkCtlPut n v).get (Reg.LINK_CTL_RETRY n) = v / 32 % 2 := by
  refine ⟨?_, ?_, ?_⟩
  · unfold State.linkCtlPut
    iterate 5 rw [State.get_put_apart _ _ rfl]
    rw [State.get_put_self, bits, Nat.pow_zero, Nat.div_one]
    exact Nat.mod_mod _ 2
  · unfold State.linkCtlPut
    rw [State.get_put_apart _ _ rfl, State.get_put_self, bits]
    exact Nat.mod_mod _ 2
  · unfold State.linkCtlPut
    rw [State.get_put_self, bits]
    exact Nat.mod_mod _ 2

theorem linkCtl_eq (s : State) (n v : Nat) :
    s.linkCtl n v = if bits v 0 1 ≠ s.get (Reg.LINK_CTL_EN n) then
        (if bits v 0 1 = 0 then (s.linkCtlPut n v).portDark n else (s.linkCtlPut n v).portRetrain n)
      else if (bits v 1 3 != s.get (Reg.LINK_CTL_COMPAT n) + 2 * s.get (Reg.LINK_CTL_MODE n) + 4 * s.get (Reg.LINK_CTL_FEC n)) && s.trained n then
        (s.linkCtlPut n v).portRetrain n
      else s.linkCtlPut n v := rfl

/-- EN cleared takes the port out of service. -/
theorem linkCtl_off {s : State} {n v : Nat} (he : s.get (Reg.LINK_CTL_EN n) = 1) (hv : v % 2 = 0) :
    s.linkCtl n v = (s.linkCtlPut n v).portDark n := by
  have en : bits v 0 1 = 0 := by simpa [bits] using hv
  rw [linkCtl_eq, if_pos (by rw [en, he]; decide), if_pos en]

/-- A write that leaves EN and the mode of the line as they are changes the register alone. -/
theorem linkCtl_kept {s : State} {n v : Nat} (he : s.get (Reg.LINK_CTL_EN n) = 1) (hv : v % 2 = 1)
    (hl : v / 2 % 8 = s.get (Reg.LINK_CTL_COMPAT n) + 2 * s.get (Reg.LINK_CTL_MODE n) + 4 * s.get (Reg.LINK_CTL_FEC n)) :
    s.linkCtl n v = s.linkCtlPut n v := by
  have en : bits v 0 1 = 1 := by simpa [bits] using hv
  have line : bits v 1 3 = s.get (Reg.LINK_CTL_COMPAT n) + 2 * s.get (Reg.LINK_CTL_MODE n) + 4 * s.get (Reg.LINK_CTL_FEC n) := hl
  rw [linkCtl_eq, if_neg (by rw [en, he]; decide), if_neg (by simp [line])]

theorem portDark_of_trained {s : State} {n : Nat} (h : s.trained n = true) :
    s.portDark n = (s.linkReset n 0).put Reg.CLK_LINE_LOCK (clrBitOf (s.get Reg.CLK_LINE_LOCK) n) := by
  rw [State.portDark, if_pos h]

/-! OP_LB (R216). -/

/-- The fields of OP_LB as written. -/
def State.opLbPut (s : State) (n v : Nat) : State :=
  ((s.put (Reg.OP_LB_MODE n) (bits v 0 2)).put (Reg.OP_LB_PAT n) (bits v 2 1)).put (Reg.OP_LB_LANE n) (bits v 8 5)

/-- The port loops: its link is reset and the far end has not confirmed. -/
def State.opLbLoops (s : State) (n v : Nat) : State := ((s.opLbPut n v).linkReset n 5).put (Reg.OP_LB_FAR_OK n) 0

/-- A loop-back set on a port that LIT or RUN and EN let do anything but stay dark resets its link; far-end asks the peer (R88, R216). -/
theorem opLb_enter {s : State} {n v : Nat} (hm : s.get (Reg.OP_LB_MODE n) = 0) (hv : v % 4 ≠ 0) (hp : 3 ≤ s.power) (he : s.get (Reg.LINK_CTL_EN n) = 1) :
    s.opLb n v = if v % 4 = 3 then ((s.opLbLoops n v).onOp n fun o => { o with loopReq := some true }).lctlTurn n 0x50 [1] else s.opLbLoops n v := by
  have mode : bits v 0 2 = v % 4 := by simp [bits]
  have quiet : s.loopPrbs n = false := by simp [State.loopPrbs, hm]
  have power : (s.opLbPut n v).power = s.power := by
    unfold State.opLbPut State.power
    iterate 3 rw [State.get_put_apart _ _ rfl]
  have lit : (s.opLbPut n v).portsLit = true := by simp [State.portsLit, power, hp]
  have en : (s.opLbPut n v).bit (Reg.LINK_CTL_EN n) = true := by
    refine State.bit_of_get_one ?_
    unfold State.opLbPut
    iterate 3 rw [State.get_put_apart _ _ rfl]
    exact he
  unfold State.opLb
  simp only [quiet, Bool.false_and, Bool.false_eq_true, if_false, hm, mode]
  rw [if_neg hv]
  have put : ((s.put (Reg.OP_LB_MODE n) (v % 4)).put (Reg.OP_LB_PAT n) (bits v 2 1)).put (Reg.OP_LB_LANE n) (bits v 8 5) = s.opLbPut n v := by
    rw [State.opLbPut, mode]
  have old : ∀ f, (s.opLbPut n v).cond (0 == 3) f = s.opLbPut n v := fun f => State.cond_false _ f rfl
  simp only [put, old, lit, en, if_neg hv, Bool.and_self, if_true]
  rfl

end Sys2Proof.Machine
end

section
/-! SUPPORT. Commands that take a port out of service or tell of its peer (R36, R37, R206, R212, R213, R216, Table CLK-2). -/

namespace Sys2Proof.Machine

/-! The LINE PLL (Table CLK-2). -/

/-- The PLL's lock bit is gone and its loss is told. -/
def State.linePllLost (s : State) (n : Nat) : State := (s.put Reg.CLK_LINE_LOCK (clrBitOf (s.get Reg.CLK_LINE_LOCK) n)).raiseEvt (48 + n) 8

theorem pstate_ne_lineLock {n : Nat} (hn : n < 16) : (Reg.OP_STAT_PSTATE n).key ≠ Reg.CLK_LINE_LOCK.key :=
  Fld.key_ne_of_page (decide_eq_true (by show 48 + n < 256; omega)) rfl (by show 48 + n ≠ 1; omega)

theorem trained_linePllLost (s : State) {n : Nat} (hn : n < 16) : (s.linePllLost n).trained n = s.trained n := by
  refine trained_congr ?_
  rw [State.linePllLost, get_raiseEvt_apart _ _ _ rfl, State.get_put_ne _ _ (pstate_ne_lineLock hn)]

theorem lineLock_linePllLost (s : State) {n : Nat} (hn : n < 16) : bitOf ((s.linePllLost n).get Reg.CLK_LINE_LOCK) n = false := by
  have place : Reg.CLK_LINE_LOCK.key ≠ (Reg.EVT (48 + n)).key :=
    Fld.key_ne_of_page rfl (decide_eq_true (by show 48 + n < 256; omega)) (by show 1 ≠ 48 + n; omega)
  rw [State.linePllLost, get_raiseEvt_ne _ _ _ place, State.get_put_self]
  exact (bitOf_mod _ hn).trans (bitOf_clrBitOf_self _ _)

theorem exec_linePllLoss {s : State} {n : OpId} (h : s.trained n = true) : exec (.linePllLoss n) s = .next ((s.linePllLost n).portRetrain n) := by
  have t : (s.linePllLost n).trained n = true := by rw [trained_linePllLost s n.isLt, h]
  refine next_congr (State.cond_true _ _ ?_)
  rw [Bool.or_assoc, Bool.or_eq_true]
  exact .inl t

/-! Loop-backs (R216). -/

/-- A looping port addresses the node that its peer may or may not be (R207). -/
theorem lctlFrame_of_looping {s : State} {n : Nat} (h : s.get (Reg.OP_STAT_PSTATE n) = 5) (code : Nat) (fields : List Nat) :
    s.lctlFrame n code fields = .lctl n code fields 0x3FF (s.get Reg.ROUTE_NODE_NODE) := by
  simp [State.lctlFrame, State.lctlDst, State.trained, h]

theorem get_opLbLoops_pstate (s : State) (n v : Nat) : (s.opLbLoops n v).get (Reg.OP_STAT_PSTATE n) = 5 := by
  rw [State.opLbLoops, State.get_put_apart _ _ rfl, get_linkReset_pstate _ _ (by decide)]

theorem get_opLbLoops_mode (s : State) (n v : Nat) : (s.opLbLoops n v).get (Reg.OP_LB_MODE n) = v % 4 := by
  rw [State.opLbLoops, State.get_put_apart _ _ rfl, get_linkReset_of_apart _ rfl rfl, State.opLbPut, State.get_put_apart _ _ rfl,
    State.get_put_apart _ _ rfl, State.get_put_self, bits, Nat.pow_zero, Nat.div_one]
  exact Nat.mod_mod _ 4

theorem get_opLbLoops_node (s : State) (n v : Nat) : (s.opLbLoops n v).get Reg.ROUTE_NODE_NODE = s.get Reg.ROUTE_NODE_NODE := by
  rw [State.opLbLoops, State.get_put_apart _ _ rfl, get_linkReset_of_apart _ rfl rfl, State.opLbPut, State.get_put_apart _ _ rfl,
    State.get_put_apart _ _ rfl, State.get_put_apart _ _ rfl]

theorem linkReset_opLbLoops {s : State} (n v : Nat) (hm : s.keep.mgmtOn = true) : LinkReset s (s.opLbLoops n v) n :=
  ((linkReset_spec (s := s.opLbPut n v) n 5 hm).put _ 0 rfl).of_before rfl

/-- Far-end asks the peer at once: the port loops, so nothing has its turn before (R216). -/
theorem lctlTurn_opLbLoops (s : State) (n v : Nat) :
    ((s.opLbLoops n v).onOp n fun o => { o with loopReq := some true }).lctlTurn n 0x50 [1] =
      ((s.opLbLoops n v).onOp n fun o => { o with loopReq := some true }).emit (.lctl n 0x50 [1] 0x3FF (s.get Reg.ROUTE_NODE_NODE)) := by
  have loops : ((s.opLbLoops n v).onOp n fun o => { o with loopReq := some true }).get (Reg.OP_STAT_PSTATE n) = 5 := get_opLbLoops_pstate s n v
  rw [lctlTurn_of_not_active _ n [1] (by decide) (by decide) (by rw [loops]; decide), lctlFrame_of_looping loops, State.get_onOp, get_opLbLoops_node]

/-- The port loops at its peer's request (R216). -/
def State.farLooped (s : State) (n : Nat) : State := ((s.linkReset n 5).onOp n fun o => { o with farLoop := true }).raiseEvt (48 + n) 4

theorem exec_loopReq_enter {s : State} {n : OpId} (hb : s.brynn n = false) (ht : s.trained n = true) (hf : (s.opAt n).farLoop = false) :
    exec (.loopReq n true) s = .next ((s.farLooped n).lctlTurn n 0x51 [1]) := by
  show execLoopReq n true s = _
  simp only [execLoopReq, hb, ht, hf, Bool.true_or, Bool.not_true, Bool.or_self, Bool.false_eq_true, if_false, if_true]
  rfl

theorem farLooped_spec {s : State} (n : Nat) (hm : s.keep.mgmtOn = true) :
    LinkReset s (s.farLooped n) n ∧ (s.farLooped n).get (Reg.OP_STAT_PSTATE n) = 5 ∧ ((s.farLooped n).opAt n).farLoop = true ∧
      (s.farLooped n).get Reg.ROUTE_NODE_NODE = s.get Reg.ROUTE_NODE_NODE ∧ bitOf ((s.farLooped n).get (Reg.EVT (48 + n))) 4 = true := by
  refine ⟨?_, ?_, ?_, ?_, ?_⟩
  · refine LinkReset.raiseEvt ((linkReset_spec n 5 hm).of_regs (State.onOp_regs _ _ _) ?_) 4
    rw [State.opAt_onOp_self]
    rfl
  · rw [State.farLooped, get_raiseEvt_apart _ _ _ rfl, State.get_onOp, get_linkReset_pstate _ _ (by decide)]
  · rw [State.farLooped, raiseEvt_opAt, State.opAt_onOp_self]
  · rw [State.farLooped, get_raiseEvt_apart _ _ _ rfl, State.get_onOp, get_linkReset_of_apart _ rfl rfl]
  · exact bitOf_evt_raiseEvt _ (by rw [State.onOp_keep, keep_linkReset, hm]) (by decide)

/-! PEER_DOWN (R37, R213). -/

theorem get_peerDown_node (s : State) (n src : Nat) {node : Nat} (h : node < 1024) : (s.peerDown n node src).get (Reg.OP_DOWN_NODE n) = node := by
  rw [State.peerDown, get_raiseEvt_apart _ _ _ rfl, State.get_put_apart _ _ rfl, State.get_put_apart _ _ rfl, State.get_put_self]
  exact Nat.mod_eq_of_lt h

theorem peerDown_spec {s : State} (n node : Nat) {src : Nat} (hm : s.keep.mgmtOn = true) (hs : src < 2) :
    (s.peerDown n node src).get (Reg.OP_DOWN_SRC n) = src ∧ (s.peerDown n node src).get (Reg.OP_DOWN_VALID n) = 1 ∧
      bitOf ((s.peerDown n node src).get (Reg.EVT (48 + n))) 3 = true ∧ OnlyIrqs s (s.peerDown n node src) [48 + n] ∧
      (s.peerDown n node src).op = s.op := by
  unfold State.peerDown
  refine ⟨?_, ?_, bitOf_evt_raiseEvt _ hm (by decide), ?_, raiseEvt_op _ _ _⟩
  · rw [get_raiseEvt_apart _ _ _ rfl, State.get_put_apart _ _ rfl, State.get_put_self]
    exact Nat.mod_eq_of_lt hs
  · rw [get_raiseEvt_apart _ _ _ rfl, State.get_put_self]
    rfl
  · obtain ⟨r, l, e, hl⟩ := raiseEvt_frame (((s.put (Reg.OP_DOWN_NODE n) node).put (Reg.OP_DOWN_SRC n) src).put (Reg.OP_DOWN_VALID n) 1) (48 + n) 3
    rw [e]
    exact ⟨l, rfl, fun o ho => ⟨48 + n, List.mem_singleton_self _, hl o ho⟩⟩

theorem get_peerDown_of_apart (s : State) (n node src : Nat) {f : Fld}
    (h : [Reg.OP_DOWN_NODE n, Reg.OP_DOWN_SRC n, Reg.OP_DOWN_VALID n, Reg.EVT (48 + n)].all f.apart = true) : (s.peerDown n node src).get f = s.get f := by
  have away : SameRegs s (s.peerDown n node src) [Reg.OP_DOWN_NODE n, Reg.OP_DOWN_SRC n, Reg.OP_DOWN_VALID n, Reg.EVT (48 + n)] := by
    refine SameRegs.raiseEvt ?_ _ (by simp)
    iterate 3 refine SameRegs.put ?_ _ (by simp)
    exact SameRegs.refl _ _
  exact away f (Fld.not_mem_of_apart h)

/-- The link-loss timer has run out, and the peer is told of as down (R213). -/
def State.linkLost (s : State) (n : Nat) : State :=
  (s.onOp n fun o => { o with lossTimer := false }).peerDown n (s.get (Reg.OP_PEER_NODE n)) 1

theorem exec_linkLossTimer {s : State} {n : OpId} (hl : (s.opAt n).lossTimer = true) (ht : s.trained n = true) :
    exec (.linkLossTimer n) s = .next ((s.linkLost n).portRetrain n) :=
  next_congr (State.cond_true _ _ (by rw [hl, ht]; rfl))

theorem trained_linkLost (s : State) (n : Nat) : (s.linkLost n).trained n = s.trained n :=
  trained_congr (get_peerDown_of_apart _ _ _ _ rfl)

theorem linkParts_linkLost {s : State} (n : Nat) (hm : s.keep.mgmtOn = true) : linkParts ((s.linkLost n).opAt n) = linkParts (s.opAt n) := by
  obtain ⟨-, -, -, -, ho⟩ := peerDown_spec (s := s.onOp n fun o => { o with lossTimer := false }) n (s.get (Reg.OP_PEER_NODE n)) (src := 1) hm (by decide)
  rw [State.linkLost, opAt_congr ho, State.opAt_onOp_self]
  rfl

theorem keep_linkLost (s : State) (n : Nat) : (s.linkLost n).keep = s.keep := by
  rw [State.linkLost, State.peerDown, raiseEvt_keep]
  rfl

/-! Errored lanes (R206). -/

/-- A lane's corrected symbols are counted, for the port and for the window. -/
def State.laneCounted (s : State) (n lane syms : Nat) : State :=
  (s.bump (Reg.OP_FEC_CORR_SYM n) syms).onOp n fun o => { o with errs := tset 0 o.errs lane (tget 0 o.errs lane + syms) }

/-- The lane reached its limit in the window and is not asked for yet. -/
def State.laneLimit (s : State) (n lane : Nat) : Bool :=
  decide (s.get (Reg.OP_ERR_LIM_SYM n) ≤ tget 0 (s.opAt n).errs lane) && decide (lane < s.laneCount n) && !bitOf (s.opAt n).errLanes lane

theorem exec_laneErrorLimit {s : State} {n : OpId} (lane syms : Nat) (h : s.trained n = true) :
    exec (.laneErrorLimit n lane syms) s = .next ((s.laneCounted n lane syms).cond ((s.laneCounted n lane syms).laneLimit n lane) fun u =>
      (u.onOp n fun o => { o with errLanes := setBitOf o.errLanes lane }).askSwap n (laneLine (u.opAt n).remapRx lane) 4) :=
  next_congr (State.cond_true _ _ (by rw [h]; rfl))

theorem opAt_laneCounted (s : State) (n lane syms : Nat) :
    (s.laneCounted n lane syms).opAt n = { s.opAt n with errs := tset 0 (s.opAt n).errs lane (tget 0 (s.opAt n).errs lane + syms) } := by
  rw [State.laneCounted, State.opAt_onOp_self]
  rfl

theorem errs_laneCounted (s : State) (n lane syms : Nat) :
    tget 0 ((s.laneCounted n lane syms).opAt n).errs lane = tget 0 (s.opAt n).errs lane + syms := by
  rw [opAt_laneCounted, tget_tset_self]

theorem get_laneCounted_of_apart (s : State) {n : Nat} (lane syms : Nat) {f : Fld} (h : f.apart (Reg.OP_FEC_CORR_SYM n) = true) :
    (s.laneCounted n lane syms).get f = s.get f := State.get_bump_apart _ _ h

theorem laneCounted_spec (s : State) (n lane syms : Nat) :
    SameRegs s (s.laneCounted n lane syms) [Reg.OP_FEC_CORR_SYM n] ∧
      s.laneCounted n lane syms = { s with regs := (s.laneCounted n lane syms).regs, op := (s.laneCounted n lane syms).op } :=
  ⟨((SameRegs.refl s _).bump syms (List.mem_singleton_self _)).of_regs (State.onOp_regs _ _ _), rfl⟩

theorem brynn_congr {s t : State} {n : Nat} (ho : (t.opAt n).brynn = (s.opAt n).brynn)
    (hr : t.get (Reg.LINK_CTL_COMPAT n) = s.get (Reg.LINK_CTL_COMPAT n)) : t.brynn n = s.brynn n := by
  rw [State.brynn, State.brynn, ho, State.bit, State.bit, hr]

theorem brynn_laneCounted (s : State) (n lane syms : Nat) : (s.laneCounted n lane syms).brynn n = s.brynn n :=
  brynn_congr (by rw [opAt_laneCounted]) (get_laneCounted_of_apart _ _ _ rfl)

theorem trained_laneCounted (s : State) (n lane syms : Nat) : (s.laneCounted n lane syms).trained n = s.trained n :=
  trained_congr (get_laneCounted_of_apart _ _ _ rfl)

theorem lctlFrame_laneCounted {s : State} {n : Nat} (h : s.trained n = true) (lane syms code : Nat) (fields : List Nat) :
    (s.laneCounted n lane syms).lctlFrame n code fields = s.lctlFrame n code fields := by
  have t : (s.laneCounted n lane syms).trained n = true := by rw [trained_laneCounted, h]
  rw [State.lctlFrame, State.lctlFrame, lctlDst_of_trained t, lctlDst_of_trained h, get_laneCounted_of_apart _ _ _ rfl,
    get_laneCounted_of_apart _ _ _ rfl]

/-- The receiving end of a port that answers swaps notes the lane it asks for, and asks (R187). -/
theorem askSwap_of_canSwap {s : State} {n line lane : Nat} (cause : Nat) (hl : lineLane (s.opAt n).remapRx line = some lane)
    (ha : s.get (Reg.LAM_CTL_AUTO_SPARE n) = 1) (hc : s.canSwap n = true) :
    s.askSwap n line cause =
      (s.onOp n fun o => { o with asks := o.asks.filter (fun a => a.1 != lane) ++ [(lane, cause)] }).lctlSend n 0x16 [lane, cause] := by
  simp only [State.askSwap, hl]
  exact State.cond_true _ _ (by rw [State.bit_of_get_one ha, hc]; rfl)

end Sys2Proof.Machine
end

section
/-! SUPPORT. A lane that reaches its limit of corrected symbols (R206). -/

namespace Sys2Proof.Machine

/-- The lane is counted, marked as asked for in this window, and its ask is noted (R187, R206). -/
def State.laneAsked (s : State) (n lane syms : Nat) : State :=
  ((s.laneCounted n lane syms).onOp n fun o => { o with errLanes := setBitOf o.errLanes lane }).onOp n fun o =>
    { o with asks := o.asks.filter (fun a => a.1 != lane) ++ [(lane, 4)] }

theorem exec_laneErrorLimit_below {s : State} {n : OpId} {lane syms : Nat} (ht : s.trained n = true)
    (h : bitOf (s.opAt n).errLanes lane = true ∨ tget 0 (s.opAt n).errs lane + syms < s.get (Reg.OP_ERR_LIM_SYM n)) :
    exec (.laneErrorLimit n lane syms) s = .next (s.laneCounted n lane syms) := by
  refine (exec_laneErrorLimit lane syms ht).trans (next_congr (State.cond_false _ _ ?_))
  rw [State.laneLimit, errs_laneCounted, opAt_laneCounted, get_laneCounted_of_apart _ _ _ rfl]
  rcases h with h | h
  · simp [h]
  · simp [Nat.not_le.mpr h]

section
variable {s : State} {n : OpId} {lane syms : Nat} (ht : s.trained n = true)
include ht

theorem exec_laneErrorLimit_reached (hn : lane < 32) (hm : s.get (Reg.OP_ERR_LIM_SYM n) ≤ tget 0 (s.opAt n).errs lane + syms)
    (hb : bitOf (s.opAt n).errLanes lane = false) (hl : lineLane (s.opAt n).remapRx (laneLine (s.opAt n).remapRx lane) = some lane)
    (hc : s.canSwap n = true) (ha : s.get (Reg.LAM_CTL_AUTO_SPARE n) = 1) :
    exec (.laneErrorLimit n lane syms) s = .next ((s.laneAsked n lane syms).lctlSend n 0x16 [lane, 4]) := by
  have mode : s.brynn n = false := by
    rw [State.canSwap, Bool.and_eq_true, Bool.not_eq_true'] at hc
    exact hc.1
  have counted : (s.laneCounted n lane syms).brynn n = false := by rw [brynn_laneCounted, mode]
  have limit : (s.laneCounted n lane syms).laneLimit n lane = true := by
    rw [State.laneLimit, errs_laneCounted, opAt_laneCounted, get_laneCounted_of_apart _ _ _ rfl, State.laneCount, counted]
    simp [hm, hb, hn]
  refine (exec_laneErrorLimit lane syms ht).trans (next_congr ((State.cond_true _ _ limit).trans ?_))
  generalize hu : (s.laneCounted n lane syms).onOp n (fun o => { o with errLanes := setBitOf o.errLanes lane }) = u
  have port : u.opAt n = { (s.laneCounted n lane syms).opAt n with errLanes := setBitOf ((s.laneCounted n lane syms).opAt n).errLanes lane } := by
    rw [← hu, State.opAt_onOp_self]
  have reg : ∀ f, u.get f = (s.laneCounted n lane syms).get f := fun f => by rw [← hu, State.get_onOp]
  have line : lineLane (u.opAt n).remapRx (laneLine ((s.laneCounted n lane syms).opAt n).remapRx lane) = some lane := by
    rw [port, opAt_laneCounted]
    exact hl
  have auto : u.get (Reg.LAM_CTL_AUTO_SPARE n) = 1 := by rw [reg, get_laneCounted_of_apart _ _ _ rfl, ha]
  have swap : u.canSwap n = true := by
    have b : u.brynn n = false := by rw [brynn_congr (by rw [port]) (reg _), counted]
    have t : u.trained n = true := by rw [trained_congr (reg _), trained_laneCounted, ht]
    simp [State.canSwap, b, t]
  rw [askSwap_of_canSwap 4 line auto swap, State.laneAsked, hu]

theorem laneAsked_spec :
    Says s ((s.laneAsked n lane syms).lctlSend n 0x16 [lane, 4]) n 0x16 [lane, 4] ∧
      bitOf (((s.laneAsked n lane syms).lctlSend n 0x16 [lane, 4]).opAt n).errLanes lane = true ∧
      ((s.laneAsked n lane syms).lctlSend n 0x16 [lane, 4]).get (Reg.OP_FEC_CORR_SYM n) = min (s.get (Reg.OP_FEC_CORR_SYM n) + syms) (2 ^ 32 - 1) := by
  refine ⟨?_, ?_, ?_⟩
  · have said := (says_lctlSend (s.laneAsked n lane syms) n (code := 0x16) [lane, 4] (by decide) (by decide)).of_regs (s := s.laneCounted n lane syms) rfl
    rwa [Says, lctlFrame_laneCounted ht] at said
  · obtain ⟨q, b, w, l, e⟩ := opAt_lctlSend (s.laneAsked n lane syms) n (code := 0x16) [lane, 4] (by decide) (by decide)
    rw [e, State.laneAsked, State.opAt_onOp_self, State.opAt_onOp_self]
    exact bitOf_setBitOf_self _ _
  · rw [State.get_congr (regs_lctlSend _ _ _ (by decide) (by decide)), State.laneAsked, State.get_onOp, State.get_onOp, State.laneCounted,
      State.get_onOp, State.get_bump_self]
    rfl

end

/-! The commands, clause by clause. -/

section
variable {s : State} {n : OpId} (hm : s.keep.mgmtOn = true)
include hm

/-- A trained port whose LINE PLL loses lock leaves service (Table CLK-2). -/
theorem linePllLoss_resets (ht : s.trained n = true) :
    ∃ t, exec (.linePllLoss n) s = .next t ∧ LinkReset s t n ∧ bitOf (t.get Reg.CLK_LINE_LOCK) n = false ∧ bitOf (t.get (Reg.EVT (48 + n))) 8 = true := by
  have lost : (s.linePllLost n).trained n = true := by rw [trained_linePllLost s n.isLt, ht]
  have mgmt : (s.linePllLost n).keep.mgmtOn = true := by rw [State.linePllLost, raiseEvt_keep]; exact hm
  refine ⟨_, exec_linePllLoss ht, (linkReset_portRetrain lost mgmt).of_before ?_, ?_, ?_⟩
  · rw [State.linePllLost, raiseEvt_opAt, State.opAt_put]
  · refine get_portRetrain lost (P := fun v => bitOf v n = false) fun p => ?_
    rw [get_linkReset_of_page _ n.isLt rfl (by show 1 ≠ 48 + n.val; omega) (by decide)]
    exact lineLock_linePllLost s n.isLt
  · refine get_portRetrain lost (P := fun v => bitOf v 8 = true) fun p => bitOf_evt_linkReset n.isLt (by decide) ?_
    exact bitOf_evt_raiseEvt _ hm (by decide)

/-- A trained port whose EN is cleared goes dark (R209, R212). -/
theorem linkCtlWrite_off_resets {p : Path} {v : Word} (ht : s.trained n = true) (hw : s.writable p ((48 + n.val) * 4096 + 0x40) v.toNat = true)
    (hv : v.toNat % 2 = 0) (he : s.get (Reg.LINK_CTL_EN n) = 1) :
    ∃ t, exec (.linkCtlWrite p n v) s = .next t ∧ LinkReset s t n ∧ t.get (Reg.OP_STAT_PSTATE n) = 0 ∧ t.get (Reg.LINK_CTL_EN n) = 0 ∧ Answered t p 0 := by
  have run := exec_linkCtlWrite hw
  generalize hr : s.rewritten ((48 + n.val) * 4096 + 0x40) = r at run
  have port : r.opAt n = s.opAt n := by rw [← hr, opAt_rewritten]
  have reg : ∀ f, r.get f = s.get f := fun f => by rw [← hr, get_rewritten]
  have mgmt : (r.linkCtlPut n v.toNat).keep.mgmtOn = true := by rw [← hr]; exact hm
  have trained : (r.linkCtlPut n v.toNat).trained n = true := by
    rw [trained_congr (get_linkCtlPut_of_apart r _ rfl), trained_congr (reg _), ht]
  rw [linkCtl_off ((reg _).trans he) hv, portDark_of_trained trained] at run
  refine ⟨_, run, ?_, ?_, ?_, rfl⟩
  · exact (((linkReset_spec n 0 mgmt).put _ _ rfl).of_regs (State.emit_regs _ _) rfl).of_before (congrArg linkParts port)
  · rw [State.get_emit, State.get_put_ne _ _ (pstate_ne_lineLock n.isLt), get_linkReset_pstate _ _ (by decide)]
  · rw [State.get_emit, State.get_put_apart _ _ rfl, get_linkReset_of_apart _ rfl rfl, (get_linkCtlPut r n v.toNat).1, hv]

/-- A loop-back that is set resets the link, and a far-end one asks the peer (R216). -/
theorem opLbMode_loops {p : Path} {v : Word} (hp : 3 ≤ s.power) (he : s.get (Reg.LINK_CTL_EN n) = 1)
    (hw : s.writable p ((48 + n.val) * 4096 + 0x70) v.toNat = true) (hv : v.toNat % 4 ≠ 0) (h0 : s.get (Reg.OP_LB_MODE n) = 0) :
    ∃ t, exec (.opLbMode p n v) s = .next t ∧ LinkReset s t n ∧ t.get (Reg.OP_STAT_PSTATE n) = 5 ∧ t.get (Reg.OP_LB_MODE n) = v.toNat % 4 ∧
      (v.toNat % 4 = 3 → .lctl n 0x50 [1] 0x3FF (s.get Reg.ROUTE_NODE_NODE) ∈ t.sent ∧ (t.opAt n).loopReq = some true) ∧ Answered t p 0 := by
  have run := exec_opLbMode hw
  generalize hr : s.rewritten ((48 + n.val) * 4096 + 0x70) = r at run
  have port : r.opAt n = s.opAt n := by rw [← hr, opAt_rewritten]
  have reg : ∀ f, r.get f = s.get f := fun f => by rw [← hr, get_rewritten]
  have mgmt : r.keep.mgmtOn = true := by rw [← hr, keep_rewritten, hm]
  rw [opLb_enter ((reg _).trans h0) hv (by rw [State.power, reg]; exact hp) ((reg _).trans he)] at run
  have reset : LinkReset s (r.opLbLoops n v.toNat) n := (linkReset_opLbLoops n _ mgmt).of_before (congrArg linkParts port)
  by_cases far : v.toNat % 4 = 3
  · rw [if_pos far, lctlTurn_opLbLoops, reg] at run
    refine ⟨_, run, reset.of_regs rfl ?_, get_opLbLoops_pstate r n _, get_opLbLoops_mode r n _, fun _ => ⟨?_, ?_⟩, rfl⟩
    · rw [State.opAt_emit, State.opAt_emit, State.opAt_onOp_self]
      rfl
    · exact List.mem_cons_of_mem _ (List.mem_cons_self ..)
    · rw [State.opAt_emit, State.opAt_emit, State.opAt_onOp_self]
  · rw [if_neg far] at run
    exact ⟨_, run, reset.of_regs rfl rfl, get_opLbLoops_pstate r n _, get_opLbLoops_mode r n _, fun c => absurd c far, rfl⟩

/-- A far-end loop that the peer asks for resets the link, and is answered at once (R216). -/
theorem loopReq_loops (hb : s.brynn n = false) (ht : s.trained n = true) (hf : (s.opAt n).farLoop = false) :
    ∃ t, exec (.loopReq n true) s = .next t ∧ LinkReset s t n ∧ t.get (Reg.OP_STAT_PSTATE n) = 5 ∧ (t.opAt n).farLoop = true ∧
      t.sent.head? = some (.lctl n 0x51 [1] 0x3FF (s.get Reg.ROUTE_NODE_NODE)) ∧ bitOf (t.get (Reg.EVT (48 + n))) 4 = true := by
  obtain ⟨reset, loops, far, node, told⟩ := farLooped_spec (s := s) n hm
  have run := exec_loopReq_enter hb ht hf
  rw [lctlTurn_of_not_active _ _ _ (by decide) (by decide) (by rw [loops]; decide), lctlFrame_of_looping loops, node] at run
  exact ⟨_, run, reset.of_regs rfl rfl, loops, far, rfl, told⟩

/-- The link-loss timer tells of the peer as down, and the port leaves service (R213). -/
theorem linkLossTimer_resets (hl : (s.opAt n).lossTimer = true) (ht : s.trained n = true) :
    ∃ t, exec (.linkLossTimer n) s = .next t ∧ LinkReset s t n ∧ t.get (Reg.OP_DOWN_SRC n) = 1 ∧ t.get (Reg.OP_DOWN_VALID n) = 1 ∧
      bitOf (t.get (Reg.EVT (48 + n))) 3 = true := by
  have lost : (s.linkLost n).trained n = true := by rw [trained_linkLost, ht]
  have mgmt : (s.linkLost n).keep.mgmtOn = true := by rw [keep_linkLost, hm]
  obtain ⟨src, valid, told, -, -⟩ :=
    peerDown_spec (s := s.onOp n fun o => { o with lossTimer := false }) n (s.get (Reg.OP_PEER_NODE n)) (src := 1) hm (by decide)
  refine ⟨_, exec_linkLossTimer hl ht, (linkReset_portRetrain lost mgmt).of_before (linkParts_linkLost n hm), ?_, ?_, ?_⟩
  · exact get_portRetrain lost (P := (· = 1)) fun p => (get_linkReset_of_apart _ rfl rfl).trans src
  · exact get_portRetrain lost (P := (· = 1)) fun p => (get_linkReset_of_apart _ rfl rfl).trans valid
  · exact get_portRetrain lost (P := fun v => bitOf v 3 = true) fun p => bitOf_evt_linkReset n.isLt (by decide) told

end

/-- A write that changes neither EN nor the mode of the line leaves the port as it is (R212). -/
theorem linkCtlWrite_kept {s : State} {p : Path} {n : OpId} {v : Word} (hw : s.writable p ((48 + n.val) * 4096 + 0x40) v.toNat = true)
    (hv : v.toNat % 2 = 1) (he : s.get (Reg.LINK_CTL_EN n) = 1)
    (hl : v.toNat / 2 % 8 = s.get (Reg.LINK_CTL_COMPAT n) + 2 * s.get (Reg.LINK_CTL_MODE n) + 4 * s.get (Reg.LINK_CTL_FEC n)) :
    ∃ t, exec (.linkCtlWrite p n v) s = .next t ∧ t.op = s.op ∧ t.get (Reg.OP_STAT_PSTATE n) = s.get (Reg.OP_STAT_PSTATE n) ∧
      t.get (Reg.LINK_CTL_LPS_EN n) = v.toNat / 16 % 2 ∧ t.get (Reg.LINK_CTL_RETRY n) = v.toNat / 32 % 2 ∧ Answered t p 0 := by
  have run := exec_linkCtlWrite hw
  rw [linkCtl_kept (s := s.rewritten _) he hv hl] at run
  obtain ⟨-, lps, retry⟩ := get_linkCtlPut (s.rewritten ((48 + n.val) * 4096 + 0x40)) n v.toNat
  refine ⟨_, run, rfl, ?_, lps, retry, rfl⟩
  rw [State.get_emit, get_linkCtlPut_of_apart _ _ rfl, get_rewritten]

theorem loopAck_spec {s : State} {n : OpId} {enter : Bool} (hq : (s.opAt n).loopReq = some enter) :
    ∃ t, exec (.loopAck n enter) s = .next t ∧ (t.opAt n).loopReq = none ∧ t.get (Reg.OP_LB_FAR_OK n) = b2n (enter && s.get (Reg.OP_LB_MODE n) == 3) := by
  refine ⟨_, next_congr (State.cond_true _ _ (by simp [hq])), ?_, ?_⟩
  · rw [State.putB, State.opAt_put, State.opAt_onOp_self]
  · rw [State.putB, State.get_put_self]
    cases enter && s.get (Reg.OP_LB_MODE n) == 3 <;> rfl

theorem loopReqRepeat_says {s : State} {n : OpId} {enter : Bool} (hq : (s.opAt n).loopReq = some enter) :
    ∃ t, exec (.loopReqRepeat n) s = .next t ∧ Says s t n 0x50 [b2n enter] ∧ t.regs = s.regs ∧ (t.opAt n).loopReq = some enter := by
  have run : exec (.loopReqRepeat n) s = .next (s.lctlTurn n 0x50 [b2n enter]) := by
    show execLoopReqRepeat n s = _
    rw [execLoopReqRepeat, hq]
  obtain ⟨q, b, e⟩ := opAt_lctlTurn s n (code := 0x50) [b2n enter] (by decide) (by decide)
  exact ⟨_, run, says_lctlTurn s n _ (by decide) (by decide), regs_lctlTurn s n _ (by decide) (by decide), by rw [e]; exact hq⟩

end Sys2Proof.Machine
end

section
open Sys2Proof Sys2Proof.Machine

/-- Settles O46: every way out of service runs the link reset of `linkReset_spec`, and what follows it leaves what it shows
(`LinkReset.put`, `LinkReset.raiseEvt`, `LinkReset.of_regs`). -/
theorem linkResetsLoopsAndPeerDown : Obligations.LinkResetsLoopsAndPeerDown := by
  unfold Obligations.LinkResetsLoopsAndPeerDown
  intro s n hm
  refine ⟨linePllLoss_resets hm, fun p v => linkCtlWrite_off_resets hm, fun p v _ => linkCtlWrite_kept, fun p v => opLbMode_loops hm,
    loopReq_loops hm, ?brynn, fun enter => loopAck_spec, fun enter => loopReqRepeat_says, ?down, linkLossTimer_resets hm, ?limit, ?below, ?window⟩
  case brynn =>
    intro hb enter
    show execLoopReq n enter s = _
    rw [execLoopReq, if_pos (by simp [hb])]
  case down =>
    intro node reason hn
    exact ⟨_, rfl, get_peerDown_node s n 0 hn, peerDown_spec n node hm (by decide)⟩
  case limit =>
    intro lane syms ht hn hlim hb hl hc ha
    exact ⟨_, exec_laneErrorLimit_reached ht hn hlim hb hl hc ha, laneAsked_spec ht⟩
  case below =>
    intro lane syms ht h
    obtain ⟨regs, frame⟩ := laneCounted_spec s n lane syms
    exact ⟨_, exec_laneErrorLimit_below ht h, regs, frame, errs_laneCounted s n lane syms⟩
  case window => exact ⟨_, rfl, by rw [State.opAt_onOp_self], by rw [State.opAt_onOp_self], rfl⟩

end
